-- ==== Sys2Proof/Word.lean ====
section
/-! DEFINITION. The words the link and the flash carry: bytes, and 16-bit audio samples. -/

namespace Sys2Proof

/-- One byte of a slot, of a request's argument or of the flash. -/
abbrev Byte := BitVec 8

/-- One host audio sample as it travels in an AUDIO slot, signed 16-bit (spec/00 section 4, R147). -/
abbrev Sample := BitVec 16

/-- A raw reading of the key matrix: bit `position` is 1 when that position reads pressed (R74). -/
abbrev Matrix := BitVec 80

end Sys2Proof
end

