-- ==== Sys2Proof/Machine/Bytes.lean ====
section
/-! DEFINITION. Byte order, byte sums and table places: the helpers the link, the flash and the tables share. -/

namespace Sys2Proof.Machine

/-- `n` bytes of `x`, least significant first (spec/00 section 4, byte order). -/
def leBytes : Nat → Nat → List Byte
  | 0, _ => []
  | n + 1, x => BitVec.ofNat 8 x :: leBytes n (x / 256)

/-- The number whose little-endian bytes are `bs`. -/
def leValue : List Byte → Nat
  | [] => 0
  | b :: bs => b.toNat + 256 * leValue bs

/-- Byte `i` of an argument, 0 beyond its end. -/
def byteAt (bs : List Byte) (i : Nat) : Nat := (bs.getD i 0#8).toNat

/-- The little-endian field of `n` bytes at offset `i`. -/
def fieldAt (bs : List Byte) (i n : Nat) : Nat := leValue ((bs.drop i).take n)

/-- Bytes as the bits of a link wire in travel order: byte 0 first, each most significant bit first (08 section 8.1). -/
def wireBits (bs : List Byte) : List Bool := bs.flatMap (fun b => (List.range 8).map b.getMsbD)

/-- The sum of bytes, each taken as an unsigned number 0..255, modulo 65536 (R118, R119, R164). -/
def byteSum (bs : List Byte) : Nat := (bs.foldl (fun a b => a + b.toNat) 0) % 65536

/-- `bs` filled with zero bytes to length `n`. -/
def padTo (n : Nat) (bs : List Byte) : List Byte := bs ++ List.replicate (n - bs.length) 0#8

/-- Place `i` of a table, `d` beyond its end. -/
def readAt {α : Type} (t : List α) (i : Nat) (d : α) : α := t.getD i d

/-- The table with place `i` replaced; a place beyond its end is not written. -/
def writeAt {α : Type} (t : List α) (i : Nat) (x : α) : List α := t.set i x

/-- One byte for a flag. -/
def flagByte (b : Bool) : Byte := if b then 1#8 else 0#8

/-- A segment field of the link: 0xFFFF stands for absent (01 section 1.5, R14). -/
def segmentField : Option Nat → Nat
  | some s => s
  | none => 0xFFFF

/-- An override item of the link: 0xFFFE stands for DEFAULT (R11). -/
def overrideField : Option Nat → Nat
  | some s => s
  | none => 0xFFFE

/-- A bit list, least significant first, as a number. -/
def bitsValue : List Bool → Nat
  | [] => 0
  | b :: bs => (if b then 1 else 0) + 2 * bitsValue bs

/-- A saturating counter (spec/00 section 4). -/
def satSucc (bound n : Nat) : Nat := if n < bound then n + 1 else bound

/-- A value clamped to a range (spec/00 section 4). -/
def clamp (lo hi n : Nat) : Nat := if n < lo then lo else if hi < n then hi else n

end Sys2Proof.Machine
end

