-- ==== Sys2Proof/Syntax.lean ====
section
/-! DEFINITION. The commands of the block: one constructor for each row of spec/opcode_table.json.
The table gives the rows no operands; those below are what the rules need (INVENTORY.md, Instructions). -/

namespace Sys2Proof

/-- The two 1 s lamp timers of R183. -/
inductive LampTimer where
  | correct
  | wrong
  deriving DecidableEq, Repr

/-- Bytes a flash reading got wrong: (offset in the reading, byte received). Empty for a good reading (log 14). -/
abbrev Misread := List (Nat × Byte)

/-- A command. Requests carry the host's tag and their argument bytes (R165). -/
inductive Instr where
  /-- RESETN or supply (R175). -/
  | powerOnReset
  /-- LNK_SEL is asserted (R164, R166). -/
  | transactionBegin
  /-- LNK_SEL is released; `bytes` are all downstream bytes clocked in the transaction, first first (R164). -/
  | transactionEnd (bytes : List Byte)
  /-- A taken IDLE slot (R165). -/
  | idleSlot
  /-- A taken AUDIO slot with its LAST flag and its samples (R147). -/
  | audioSlot (last : Bool) (samples : List Sample)
  /-- A taken CONTROL slot with a command code that no block owns (R165). -/
  | badCommand (code tag : Byte) (arg : List Byte)
  | identify (tag : Byte) (arg : List Byte)
  | reset (tag : Byte) (arg : List Byte)
  | streamRestart (tag : Byte) (arg : List Byte)
  | sleep (tag : Byte) (arg : List Byte)
  | set (tag : Byte) (arg : List Byte)
  | get (tag : Byte) (arg : List Byte)
  | clearFlags (tag : Byte) (arg : List Byte)
  | wordPut (tag : Byte) (arg : List Byte)
  | wordSounds (tag : Byte) (arg : List Byte)
  | wordDrop (tag : Byte) (arg : List Byte)
  | wordGet (tag : Byte) (arg : List Byte)
  | alphabetPut (tag : Byte) (arg : List Byte)
  /-- TABLE GET with selector 0, or with a malformed selector or length (log 8). -/
  | tableGetAlphabet (tag : Byte) (arg : List Byte)
  | tableGetKeymap (tag : Byte) (arg : List Byte)
  | tableGetResponses (tag : Byte) (arg : List Byte)
  | keymapPut (tag : Byte) (arg : List Byte)
  | responsePut (tag : Byte) (arg : List Byte)
  | attemptOpen (tag : Byte) (arg : List Byte)
  | attemptCancel (tag : Byte) (arg : List Byte)
  | attemptShelve (tag : Byte) (arg : List Byte)
  | attemptUnshelve (tag : Byte) (arg : List Byte)
  | attemptGet (tag : Byte) (arg : List Byte)
  | lessonAdd (tag : Byte) (arg : List Byte)
  | lessonClear (tag : Byte) (arg : List Byte)
  | lessonFromReview (tag : Byte) (arg : List Byte)
  | lessonStart (tag : Byte) (arg : List Byte)
  | lessonStop (tag : Byte) (arg : List Byte)
  | lessonGet (tag : Byte) (arg : List Byte)
  | progressGet (tag : Byte) (arg : List Byte)
  | progressPut (tag : Byte) (arg : List Byte)
  | progressClear (tag : Byte) (arg : List Byte)
  | reviewGet (tag : Byte) (arg : List Byte)
  | reviewClear (tag : Byte) (arg : List Byte)
  | say (tag : Byte) (arg : List Byte)
  | silence (tag : Byte) (arg : List Byte)
  | queueGet (tag : Byte) (arg : List Byte)
  | storeClaim (tag : Byte) (arg : List Byte)
  | storeRelease (tag : Byte) (arg : List Byte)
  | storeWrite (tag : Byte) (arg : List Byte)
  | storeErase (tag : Byte) (arg : List Byte)
  | storeRead (tag : Byte) (arg : List Byte)
  | storeFetch (tag : Byte) (arg : List Byte)
  | faultGet (tag : Byte) (arg : List Byte)
  /-- A STORE WRITE ends: whether the flash answered its status read, and what the two verify readings got wrong (R138, R139). -/
  | storeWriteEnd (present : Bool) (bad1 bad2 : Misread)
  /-- A STORE ERASE ends (R138, R140). -/
  | storeEraseEnd (present : Bool) (bad1 bad2 : Misread)
  /-- A STORE READ ends (R138, R141). -/
  | storeReadEnd (present : Bool) (bad : Misread)
  /-- The header check ends; `bad1`, `bad2` are what the first and second header reading got wrong (R121). -/
  | headerCheckEnd (present : Bool) (bad1 bad2 : Misread)
  /-- A directory read ends (R130). -/
  | directoryReadEnd (bad : Misread)
  /-- A block read ends, its re-read included (R131). -/
  | blockReadEnd (bad1 bad2 : Misread)
  /-- The 1 ms scan (R74). -/
  | keyScan (raw : Matrix)
  /-- The 25 ms scan in SLEEP (R192). -/
  | sleepScan (raw : Matrix)
  /-- One 16 kHz output instant (R153). -/
  | outputInstant
  | clipWindowEnd
  | duckHoldEnd
  | ampWarmupExpiry
  | ampStandbyExpiry
  | inactivityExpiry
  | gapExpiry
  | lampTimerExpiry (which : LampTimer)
  | lampBlinkToggle (lamp : Fin 3)
  | attnGapExpiry
  | sleepTimerExpiry
  deriving DecidableEq, Repr

end Sys2Proof
end

