-- ==== Sys2Proof/Decode.lean ====
section
/-! DEFINITION. Reading commands: from a word of the opcode table (it gives no bits), and from the 64 bytes of a downstream
slot (R164, R165, 08 sections 8.1 and 8.5); and writing a slot command as its 64 bytes. -/

namespace Sys2Proof

open Sys2Proof.Machine

/-- spec/opcode_table.json gives no row any bits, so no word spells a command (log 22). -/
def decodeTableWord (_nbits _w : Nat) : Option Instr := none

/-- TABLE GET by its selector; a malformed one goes to the row of selector 0, which answers it (log 8). -/
def tableGetOf (tag : Byte) (arg : List Byte) : Instr :=
  if arg.length = 2 ∧ byteAt arg 0 = 1 then .tableGetKeymap tag arg
  else if arg.length = 2 ∧ byteAt arg 0 = 2 then .tableGetResponses tag arg
  else .tableGetAlphabet tag arg

/-- The command of a CONTROL slot by its code (08 section 8.5). -/
def requestOf (code tag : Byte) (arg : List Byte) : Instr :=
  match code.toNat with
  | 0x01 => .identify tag arg
  | 0x02 => .reset tag arg
  | 0x03 => .streamRestart tag arg
  | 0x04 => .sleep tag arg
  | 0x05 => .set tag arg
  | 0x06 => .get tag arg
  | 0x07 => .clearFlags tag arg
  | 0x10 => .wordPut tag arg
  | 0x11 => .wordSounds tag arg
  | 0x12 => .wordDrop tag arg
  | 0x13 => .wordGet tag arg
  | 0x14 => .alphabetPut tag arg
  | 0x15 => .keymapPut tag arg
  | 0x16 => .responsePut tag arg
  | 0x17 => tableGetOf tag arg
  | 0x20 => .attemptOpen tag arg
  | 0x21 => .attemptCancel tag arg
  | 0x22 => .attemptShelve tag arg
  | 0x23 => .attemptUnshelve tag arg
  | 0x24 => .attemptGet tag arg
  | 0x28 => .lessonAdd tag arg
  | 0x29 => .lessonClear tag arg
  | 0x2A => .lessonFromReview tag arg
  | 0x2B => .lessonStart tag arg
  | 0x2C => .lessonStop tag arg
  | 0x2D => .lessonGet tag arg
  | 0x30 => .progressGet tag arg
  | 0x31 => .progressPut tag arg
  | 0x32 => .progressClear tag arg
  | 0x33 => .reviewGet tag arg
  | 0x34 => .reviewClear tag arg
  | 0x38 => .say tag arg
  | 0x39 => .silence tag arg
  | 0x3A => .queueGet tag arg
  | 0x40 => .storeClaim tag arg
  | 0x41 => .storeRelease tag arg
  | 0x42 => .storeWrite tag arg
  | 0x43 => .storeErase tag arg
  | 0x44 => .storeRead tag arg
  | 0x45 => .storeFetch tag arg
  | 0x46 => .faultGet tag arg
  | _ => .badCommand code tag arg

/-- The samples of an AUDIO slot: `n` from byte 4 on (08 section 8.1). -/
def audioSamples (bs : List Byte) (n : Nat) : List Sample :=
  (List.range n).map (fun i => BitVec.ofNat 16 (fieldAt bs (4 + 2 * i) 2))

/-- The command of a downstream slot, or the cause of its discard; the causes are tested in this order (R164, R165). -/
def decodeSlot (bs : List Byte) : Except Nat Instr :=
  if bs.length ≠ 64 then .error 1
  else if byteSum (bs.take 62) ≠ fieldAt bs 62 2 then .error 2
  else if 2 < byteAt bs 0 then .error 3
  else if byteAt bs 0 = 0 then .ok .idleSlot
  else if byteAt bs 0 = 1 then
    (if 29 < byteAt bs 1 then .error 4
     else .ok (.audioSlot ((byteAt bs 2).testBit 0) (audioSamples bs (byteAt bs 1))))
  else if 58 < byteAt bs 1 then .error 4
  else .ok (requestOf (bs.getD 2 0#8) (bs.getD 3 0#8) ((bs.drop 4).take (byteAt bs 1)))

/-! ### Writing a slot -/

/-- 62 bytes with their check (08 section 8.1). -/
def withCheck (body : List Byte) : List Byte := body ++ leBytes 2 (byteSum body)

/-- A CONTROL slot (08 section 8.1). -/
def controlSlot (code tag : Byte) (arg : List Byte) : List Byte :=
  withCheck ([2#8, BitVec.ofNat 8 arg.length, code, tag] ++ padTo 58 arg)

/-- An AUDIO slot (08 section 8.1). -/
def audioBytes (last : Bool) (samples : List Sample) : List Byte :=
  withCheck ([1#8, BitVec.ofNat 8 samples.length, flagByte last, 0#8]
    ++ padTo 58 (samples.flatMap (fun x => leBytes 2 x.toNat)))

/-- An IDLE slot whose unexamined bytes are 0 (08 section 8.1). -/
def idleBytes : List Byte := withCheck (padTo 62 [])

/-- Code, tag and argument of a request (08 section 8.5). -/
def requestParts : Instr → Option (Byte × Byte × List Byte)
  | .badCommand code tag arg => some (code, tag, arg)
  | .identify tag arg => some (0x01#8, tag, arg)
  | .reset tag arg => some (0x02#8, tag, arg)
  | .streamRestart tag arg => some (0x03#8, tag, arg)
  | .sleep tag arg => some (0x04#8, tag, arg)
  | .set tag arg => some (0x05#8, tag, arg)
  | .get tag arg => some (0x06#8, tag, arg)
  | .clearFlags tag arg => some (0x07#8, tag, arg)
  | .wordPut tag arg => some (0x10#8, tag, arg)
  | .wordSounds tag arg => some (0x11#8, tag, arg)
  | .wordDrop tag arg => some (0x12#8, tag, arg)
  | .wordGet tag arg => some (0x13#8, tag, arg)
  | .alphabetPut tag arg => some (0x14#8, tag, arg)
  | .tableGetAlphabet tag arg => some (0x17#8, tag, arg)
  | .tableGetKeymap tag arg => some (0x17#8, tag, arg)
  | .tableGetResponses tag arg => some (0x17#8, tag, arg)
  | .keymapPut tag arg => some (0x15#8, tag, arg)
  | .responsePut tag arg => some (0x16#8, tag, arg)
  | .attemptOpen tag arg => some (0x20#8, tag, arg)
  | .attemptCancel tag arg => some (0x21#8, tag, arg)
  | .attemptShelve tag arg => some (0x22#8, tag, arg)
  | .attemptUnshelve tag arg => some (0x23#8, tag, arg)
  | .attemptGet tag arg => some (0x24#8, tag, arg)
  | .lessonAdd tag arg => some (0x28#8, tag, arg)
  | .lessonClear tag arg => some (0x29#8, tag, arg)
  | .lessonFromReview tag arg => some (0x2A#8, tag, arg)
  | .lessonStart tag arg => some (0x2B#8, tag, arg)
  | .lessonStop tag arg => some (0x2C#8, tag, arg)
  | .lessonGet tag arg => some (0x2D#8, tag, arg)
  | .progressGet tag arg => some (0x30#8, tag, arg)
  | .progressPut tag arg => some (0x31#8, tag, arg)
  | .progressClear tag arg => some (0x32#8, tag, arg)
  | .reviewGet tag arg => some (0x33#8, tag, arg)
  | .reviewClear tag arg => some (0x34#8, tag, arg)
  | .say tag arg => some (0x38#8, tag, arg)
  | .silence tag arg => some (0x39#8, tag, arg)
  | .queueGet tag arg => some (0x3A#8, tag, arg)
  | .storeClaim tag arg => some (0x40#8, tag, arg)
  | .storeRelease tag arg => some (0x41#8, tag, arg)
  | .storeWrite tag arg => some (0x42#8, tag, arg)
  | .storeErase tag arg => some (0x43#8, tag, arg)
  | .storeRead tag arg => some (0x44#8, tag, arg)
  | .storeFetch tag arg => some (0x45#8, tag, arg)
  | .faultGet tag arg => some (0x46#8, tag, arg)
  | .powerOnReset => none
  | .transactionBegin => none
  | .transactionEnd _ => none
  | .idleSlot => none
  | .audioSlot _ _ => none
  | .storeWriteEnd _ _ _ => none
  | .storeEraseEnd _ _ _ => none
  | .storeReadEnd _ _ => none
  | .headerCheckEnd _ _ _ => none
  | .directoryReadEnd _ => none
  | .blockReadEnd _ _ => none
  | .keyScan _ => none
  | .sleepScan _ => none
  | .outputInstant => none
  | .clipWindowEnd => none
  | .duckHoldEnd => none
  | .ampWarmupExpiry => none
  | .ampStandbyExpiry => none
  | .inactivityExpiry => none
  | .gapExpiry => none
  | .lampTimerExpiry _ => none
  | .lampBlinkToggle _ => none
  | .attnGapExpiry => none
  | .sleepTimerExpiry => none

/-- The 64 bytes of a slot command; `none` for a command that is no slot. -/
def encodeSlot (i : Instr) : Option (List Byte) :=
  match i with
  | .idleSlot => some idleBytes
  | .audioSlot last samples => some (audioBytes last samples)
  | _ => (requestParts i).map (fun p => controlSlot p.1 p.2.1 p.2.2)

end Sys2Proof
end

