-- ==== Sys2Proof/Config.lean ====
section
/-! DEFINITION. The capacities the spec fixes, and the one value it leaves free. -/

namespace Sys2Proof.Config

/-- Bytes of the segment store flash: link operations reach 0xFEFFFF and a store spans at most
255 × 65536 bytes (R118, R139, R141). DEDUCED, log 17. -/
abbrev flashBytes : Nat := 0xFF0000
/-- The value an unlisted flash address reads as: an erased byte. DESIGN CHOICE, log 13. -/
abbrev erasedByte : Byte := 0xFF#8
/-- Items of the word pool (R4). -/
abbrev poolItems : Nat := 6144
/-- Word entries (R1). -/
abbrev words : Nat := 512
/-- Letter codes (R6). -/
abbrev letters : Nat := 48
/-- Segment ids (spec/00 section 4). -/
abbrev segments : Nat := 2048
/-- Waiting places of the main queue (R104), of the key report queue (R89), of the notice queue (R178). -/
abbrev queuePlaces : Nat := 16
/-- Entries of the lesson list (R53) and of the review list (R70). -/
abbrev listPlaces : Nat := 32
/-- Records of the held-key table (R77). -/
abbrev heldPlaces : Nat := 4
/-- Sample words of the sample RAM (R125, R145). -/
abbrev sampleWords : Nat := 3072
/-- Items an utterance holds at most (R99). -/
abbrev itemPlaces : Nat := 40
/-- A session's keys, positions 0..79 (R74). -/
abbrev keyPositions : Nat := 80

/-- FREE VALUE (log 15). R142: an erase or write that a reset cut off "has erased what it reached"
or "has programmed what it reached"; the spec does not say which bytes those are.
`flashReached e a` says whether the e-th such operation reached flash address `a`. -/
opaque flashReached : Nat → Nat → Bool

end Sys2Proof.Config
end

