-- ==== Sys2Proof/Machine/Types.lean ====
section
/-! DEFINITION. The pieces of state of each block of the VKS-1420, as plain data. -/

namespace Sys2Proof.Machine

/-! ### Words (01) -/

/-- Check mode (R1, R2). -/
inductive CheckMode where
  | immediate
  | deferred
  deriving DecidableEq, Repr

/-- Echo style (R1, R26). -/
inductive EchoStyle where
  | name
  | sound
  | none
  deriving DecidableEq, Repr

/-- The settings fields of a word entry, copied into the attempt context (R1, R2, R20). -/
structure Settings where
  checkMode : CheckMode
  echoStyle : EchoStyle
  barge : Bool
  tries : Nat
  mistakeLimit : Nat
  hintLimit : Nat
  deriving DecidableEq, Repr

/-- A valid word entry (R1). `none` in an override list is DEFAULT (R3). -/
structure WordEntry where
  letters : List Nat
  wordSegment : Option Nat
  prompts : List Nat
  overrides : Option (List (Option Nat))
  settings : Settings
  deriving DecidableEq, Repr

/-- One alphabet entry: name and sound segment (R6). -/
structure Letter where
  name : Option Nat
  sound : Option Nat
  deriving DecidableEq, Repr

/-- The Word Table: 512 entries (`none` is invalid), the free count of the pool, the alphabet with
letter code `c` at place `c - 1` (R1, R4, R6). -/
structure WordTable where
  entries : List (Option WordEntry)
  freeItems : Nat
  alphabet : List Letter
  deriving DecidableEq, Repr

/-! ### Attempts (02) -/

/-- Verdicts (R34, R36); codes 1..8. -/
inductive Verdict where
  | exact
  | substitution
  | swap
  | missing
  | extra
  | wrong
  | abandoned
  | cancelled
  deriving DecidableEq, Repr

/-- Where an attempt came from (R20). -/
inductive Origin where
  | command
  | lesson (retries : Nat)
  | shelf
  deriving DecidableEq, Repr

/-- What the attempt waits for (R20, R22). -/
inductive AwaitKind where
  | prompt
  | tryResponse
  | closing
  deriving DecidableEq, Repr

/-- The attempt context (R20). -/
structure Context where
  word : Nat
  settings : Settings
  tryNumber : Nat
  buffer : List Nat
  mistakes : Nat
  hintsUsed : Nat
  hintStage : Nat
  hintPosition : Nat
  nudged : Bool
  origin : Origin
  verdict : Option Verdict
  verdictPosition : Nat
  closed : Bool
  awaited : Option (AwaitKind × Nat)
  outstanding : List Nat
  deriving DecidableEq, Repr

/-- The five states of the Attempt Controller (R21), codes 0..4. -/
inductive AttemptState where
  | idle
  | prompting
  | listening
  | responding
  | gap
  deriving DecidableEq, Repr

/-- The Attempt Controller: `inactivity` is the ms left of the inactivity timer, `none` when it does not count (R42). -/
structure AttemptUnit where
  state : AttemptState
  ctx : Context
  shelf : Option Context
  inactivity : Option Nat
  deriving DecidableEq, Repr

/-! ### Lessons and progress (03) -/

/-- A lesson list entry (R53). -/
structure LessonEntry where
  word : Nat
  retries : Nat
  deriving DecidableEq, Repr

/-- A word's learning state (R62), codes 0..3. -/
inductive Mastery where
  | new
  | learning
  | known
  | slipping
  deriving DecidableEq, Repr

/-- How a close is classed for progress (R36). -/
inductive CloseClass where
  | pass
  | assisted
  | miss
  deriving DecidableEq, Repr

/-- A progress record (R62). -/
structure ProgressRecord where
  attempts : Nat
  passes : Nat
  assisted : Nat
  misses : Nat
  streak : Nat
  slips : Nat
  lastVerdict : Nat
  mastery : Mastery
  deriving DecidableEq, Repr

/-- The Lesson List and Progress Unit; `gapTimer` is the ms left (R59). -/
structure LessonUnit where
  entries : List LessonEntry
  auto : Bool
  gapTimer : Option Nat
  records : List ProgressRecord
  review : List Nat
  deriving DecidableEq, Repr

/-! ### Keys (04) -/

/-- How the press of a position that is down was received (R76). -/
inductive Standing where
  | tracked
  | untracked
  | suspect
  | blocked
  | latched
  deriving DecidableEq, Repr

/-- A position's debounce state: down with a standing, or up (`none`), and its disagreement count (R75, R76). -/
structure KeyPosition where
  standing : Option Standing
  count : Nat
  deriving DecidableEq, Repr

/-- Key classes (R81), codes 0..6. -/
inductive KeyClass where
  | none
  | letter
  | erase
  | submit
  | hint
  | repeatPrompt
  | pass
  deriving DecidableEq, Repr

/-- A keymap entry (R81). -/
structure KeymapEntry where
  cls : KeyClass
  letter : Nat
  pass : Byte
  deriving DecidableEq, Repr

/-- Dispositions (R25, R87), codes 0..4. -/
inductive Disposition where
  | none
  | accepted
  | ignored
  | refused
  | passed
  deriving DecidableEq, Repr

/-- A held-key record (R77). -/
structure HeldKey where
  position : Nat
  entry : KeymapEntry
  pressTime : BitVec 16
  disposition : Disposition
  reported : Bool
  deriving DecidableEq, Repr

/-- Key report events (R87). -/
inductive KeyEvent where
  | press
  | release
  | ghost
  deriving DecidableEq, Repr

/-- A key report (R87). -/
structure KeyReport where
  event : KeyEvent
  position : Nat
  entry : KeymapEntry
  disposition : Disposition
  time : BitVec 16
  deriving DecidableEq, Repr

/-- The Key Scanner and the Key Router. -/
structure KeyUnit where
  positions : List KeyPosition
  held : List HeldKey
  ghostBlock : Bool
  keymap : List KeymapEntry
  reports : List KeyReport
  time : BitVec 16
  deriving DecidableEq, Repr

/-! ### Utterances (05) -/

/-- The tones (R94, R127). -/
inductive Tone where
  | click
  | buzz
  | chime
  deriving DecidableEq, Repr

/-- A part of a response row or of a SAY (R94). -/
inductive Part where
  | seg (id : Nat)
  | tone (t : Tone)
  | pause (ms : Nat)
  | word
  | prompt
  | spellTarget
  | spellAttempt
  | letterNameAt
  | letterSoundAt
  deriving DecidableEq, Repr

/-- An item of an utterance (R98). -/
inductive Item where
  | seg (id : Nat)
  | tone (t : Tone)
  | pause (ms : Nat)
  deriving DecidableEq, Repr

/-- An utterance's source (R101), codes 0..4. -/
inductive Source where
  | echo
  | prompt
  | response
  | hint
  | say
  deriving DecidableEq, Repr

/-- An utterance's outcome (R102), codes 1..3. -/
inductive UttOutcome where
  | finished
  | cut
  | dropped
  deriving DecidableEq, Repr

/-- An utterance (R101). `playItem` is 0 while it waits; `playSamples` are the samples of that item drawn. -/
structure Utterance where
  id : Nat
  source : Source
  tag : Byte
  items : List Item
  playItem : Nat
  playSamples : Nat
  truncated : Bool
  starved : Bool
  faulted : Bool
  deriving DecidableEq, Repr

/-- The Utterance Scheduler. -/
structure Scheduler where
  rows : List (List Part)
  queue : List Utterance
  echoLine : Option Utterance
  nextId : Nat
  deriving DecidableEq, Repr

/-! ### Voices and the store (06) -/

/-- The two voices. -/
inductive VoiceId where
  | main
  | echo
  deriving DecidableEq, Repr

/-- A voice's state (R124), codes 0..2. -/
inductive VoiceState where
  | idle
  | waitingAmp
  | playing
  deriving DecidableEq, Repr

/-- A sample in a ring. `begins` is the item it begins, `level` the level it hands the Mixer (R125, R152). -/
structure RingSample where
  value : Int
  begins : Option Nat
  level : Option Nat
  deriving DecidableEq, Repr

/-- What the reading writes without the flash (R127). -/
inductive Fill where
  | tone (t : Tone)
  | pause (ms : Nat)
  deriving DecidableEq, Repr

/-- A directory entry as a voice holds it (R118, R130). -/
structure DirEntry where
  start : Nat
  count : Nat
  rate : Nat
  level : Nat
  deriving DecidableEq, Repr

/-- Where a voice's reading stands in its read item: at its start, writing a tone, pause or CLICK,
before its directory read, or before its next block. -/
inductive ReadPhase where
  | atItem
  | filling (f : Fill)
  | needEntry
  | blocks
  deriving DecidableEq, Repr

/-- A voice context with its ring (R124, R125) and its combined gain (R152). -/
structure Voice where
  state : VoiceState
  utterance : Option Utterance
  readItem : Nat
  phase : ReadPhase
  dir : Option DirEntry
  nextBlock : Nat
  samplesLeft : Nat
  ring : List RingSample
  leadIn : Bool
  rehand : Bool
  gain : Nat
  deriving DecidableEq, Repr

/-- The store states (R120), codes 0..4. -/
inductive StoreState where
  | checking
  | usable
  | unusable
  | claimPending
  | claimed
  deriving DecidableEq, Repr

/-- Header outcomes (R121), codes 0..6. -/
inductive HeaderOutcome where
  | none
  | good
  | absent
  | badCheck
  | badMark
  | badCount
  | badSize
  deriving DecidableEq, Repr

/-- A link operation in flight (R138 to R141). -/
inductive LinkOp where
  | write (address : Nat) (data : List Byte)
  | erase (address : Nat)
  | read (address count : Nat)
  deriving DecidableEq, Repr

/-- The read engine (R128). `live` says whether the voice the read serves still waits for it (R130). -/
inductive Engine where
  | idle
  | header
  | entryRead (v : VoiceId) (segment : Nat) (live : Bool)
  | blockRead (v : VoiceId) (segment block address take rate : Nat) (live : Bool)
  | link (op : LinkOp)
  deriving DecidableEq, Repr

/-- Block results (R131, R132), codes 0..3. -/
inductive ReadResult where
  | none
  | ok
  | retryOk
  | fail
  deriving DecidableEq, Repr

/-- The fault record (R132). -/
structure FaultRecord where
  full : Bool
  segment : Nat
  block : Nat
  address : Nat
  more : Nat
  deriving DecidableEq, Repr

/-- The read-holding area when it is not empty (R141). -/
structure Holding where
  address : Nat
  bytes : List Byte
  deriving DecidableEq, Repr

/-- The Segment Reader. `interrupted` is the write or erase a reset cut off, which keeps the flash
busy until the header check finds it ready (R121, R142; log 15). -/
structure Reader where
  mainVoice : Voice
  echoVoice : Voice
  engine : Engine
  store : StoreState
  claimFrom : StoreState
  headerOutcome : HeaderOutcome
  segmentCount : Nat
  storeSize : Nat
  fault : FaultRecord
  lastResult : ReadResult
  accRetry : Bool
  accFail : Bool
  holding : Option Holding
  interrupted : Option LinkOp
  deriving DecidableEq, Repr

/-! ### Mixer (07) -/

/-- The duck envelope's states (R157). -/
inductive Envelope where
  | opened
  | falling
  | ducked
  | hold
  | rising
  deriving DecidableEq, Repr

/-- The I2S output (R161): whether I2S_BCK, I2S_WS and I2S_DO are driven, and the left and right word of the frame that
follows the latest event. -/
structure I2s where
  driven : Bool
  left : BitVec 16
  right : BitVec 16
  deriving DecidableEq, Repr

/-- The Mixer. `samples` is the playout buffer, oldest first; `output` the output sample of the latest instant. -/
structure Mixer where
  samples : List Int
  playing : Bool
  endMark : Bool
  lowArmed : Bool
  sizeInForce : Nat
  hostGain : Nat
  envelope : Envelope
  holdCount : Nat
  clipCurrent : Bool
  clipLast : Bool
  clipSeen : Bool
  windowCount : Nat
  output : Int
  i2s : I2s
  deriving DecidableEq, Repr

/-! ### Slot Port (08) -/

/-- Result codes (R169), 0..11. -/
inductive Result where
  | ok
  | accepted
  | none
  | linkError
  | badCommand
  | badArgs
  | busy
  | inUse
  | tableFull
  | queueFull
  | noAttempt
  | notClaimed
  deriving DecidableEq, Repr

/-- What an owner answers to a request (R165). -/
structure Answer where
  result : Result
  data : List Byte
  bulk : List Byte
  deriving DecidableEq, Repr

/-- The pending reply (R169): code, tag, result, the data bytes and the bulk. -/
structure Reply where
  code : Byte
  tag : Byte
  result : Result
  data : List Byte
  bulk : List Byte
  deriving DecidableEq, Repr

/-- The five latches (R168). -/
structure Latches where
  underrun : Bool
  overrun : Bool
  noticeLost : Bool
  keyLost : Bool
  badSlot : Bool
  deriving DecidableEq, Repr

/-- What the slot of the running transaction carries (R166, R168, R170). -/
structure Transaction where
  keyReports : Nat
  noticeCount : Nat
  remembered : Latches
  deriving DecidableEq, Repr

/-- The Slot Port. `txn` is `some` while LNK_SEL is asserted; `upstream` is the slot last composed, bytes 0..63 (R166). -/
structure SlotPort where
  reply : Reply
  txn : Option Transaction
  upstream : List Byte
  latches : Latches
  resetSeen : Bool
  deriving DecidableEq, Repr

/-! ### Notices and lamps (09) -/

/-- Notices (R179), kinds 1..16 in this order. -/
inductive Notice where
  | attemptOpened (word origin mode tryNumber bufferLength retries : Nat)
  | attemptClosed (word verdict tryNumber hintsUsed mistakes position : Nat)
  | tryFailed (word verdict tryNumber position : Nat)
  | mastery (word before after streak : Nat)
  | utteranceDone (tag : Byte) (id outcome flags : Nat)
  | audioLow (fill mark : Nat)
  | audioUnderrun (mark : Nat)
  | audioOverrun (discarded fill : Nat)
  | readFault (segment block address : Nat)
  | storeDone (operation outcome address passes : Nat)
  | storeGranted (claimedFrom : Nat)
  | shelfLost (word : Nat)
  | lessonEmpty (discarded : Nat)
  | wake (cause : Nat)
  | voiceStarved (voice id : Nat)
  | badSegment (segment cause : Nat)
  deriving DecidableEq, Repr

/-- A blink phase (R184): lit or not, and the ms left of its 500. -/
structure BlinkPhase where
  lit : Bool
  left : Nat
  deriving DecidableEq, Repr

/-- The Notice Unit, with ATTN, its gap timer, the two lamp timers and the three blink phases (ms left). -/
structure NoticeUnit where
  queue : List Notice
  attn : Bool
  attnGap : Option Nat
  correct : Option Nat
  wrong : Option Nat
  blink : List (Option BlinkPhase)
  deriving DecidableEq, Repr

/-! ### Power (10) -/

/-- Amplifier states (R185). -/
inductive AmpState where
  | off
  | warming
  | on
  deriving DecidableEq, Repr

/-- Power Control: `asleep` is power state SLEEP; the timers hold the ms left (R185 to R191). -/
structure Power where
  asleep : Bool
  amp : AmpState
  warmup : Option Nat
  standby : Nat
  sleepTimer : Option Nat
  deriving DecidableEq, Repr

/-! ### Parameters (08 section 8.6) -/

/-- Lamp modes (R182), codes 0..8. -/
inductive LampMode where
  | off
  | on
  | listening
  | speaking
  | correct
  | wrong
  | hint
  | store
  | attn
  deriving DecidableEq, Repr

/-- A lamp's setting (R182). -/
structure LampSetting where
  mode : LampMode
  invert : Bool
  blink : Bool
  deriving DecidableEq, Repr

/-- The parameters of section 8.6. `playoutSize` is the pending value (R145). -/
structure Params where
  hostLevel : Nat
  duckLevel : Nat
  duckFallStep : Nat
  duckRiseStep : Nat
  duckHold : Nat
  mainVoiceLevel : Nat
  echoVoiceLevel : Nat
  playoutSize : Nat
  playoutMark : Nat
  echoCutFloor : Nat
  debounce : Nat
  routeSpell : Bool
  inactivity : Nat
  interWordGap : Nat
  knownStreak : Nat
  attnMask : BitVec 17
  attnGap : Nat
  lamps : List LampSetting
  ampStandby : Nat
  ampWarmup : Nat
  sleepAfter : Nat
  deriving DecidableEq, Repr

/-! ### The flash (06 section 6.1) -/

/-- The external flash: its cells in canonical form (`Flash.wf`), and the model's own counter of
interrupted operations, which the free value `Config.flashReached` is applied to (log 13, log 15). -/
structure Flash where
  cells : List Host.Cell
  epoch : Nat
  deriving DecidableEq, Repr

end Sys2Proof.Machine
end

