-- ==== Sys2Proof/Machine/Defaults.lean ====
section
/-! DEFINITION. The power-on state of each block, and the cleared contexts the resets use. -/

namespace Sys2Proof.Machine

/-- R19: all entries invalid, all alphabet items absent, the pool free. -/
def WordTable.powerOn : WordTable where
  entries := List.replicate Config.words none
  freeItems := Config.poolItems
  alphabet := List.replicate Config.letters ⟨none, none⟩

/-- The settings of the cleared context: every code 0 (R20, R50). -/
def Settings.cleared : Settings where
  checkMode := .immediate
  echoStyle := .name
  barge := false
  tries := 0
  mistakeLimit := 0
  hintLimit := 0

/-- The cleared attempt context (R20, R50). -/
def Context.cleared : Context where
  word := 0
  settings := Settings.cleared
  tryNumber := 0
  buffer := []
  mistakes := 0
  hintsUsed := 0
  hintStage := 0
  hintPosition := 0
  nudged := false
  origin := .command
  verdict := none
  verdictPosition := 0
  closed := false
  awaited := none
  outstanding := []

/-- R51: IDLE, the context cleared, the shelf empty, the timer stopped. -/
def AttemptUnit.cleared : AttemptUnit where
  state := .idle
  ctx := Context.cleared
  shelf := none
  inactivity := none

/-- R62: zero counters and NEW. -/
def ProgressRecord.zero : ProgressRecord where
  attempts := 0
  passes := 0
  assisted := 0
  misses := 0
  streak := 0
  slips := 0
  lastVerdict := 0
  mastery := .new

/-- R73. -/
def LessonUnit.powerOn : LessonUnit where
  entries := []
  auto := false
  gapTimer := none
  records := List.replicate Config.words ProgressRecord.zero
  review := []

/-- R90: every position down, LATCHED, with disagreement count 0. -/
def KeyPosition.latched : KeyPosition := ⟨some .latched, 0⟩

/-- The power-on keymap entry of a position (R81). -/
def KeymapEntry.powerOn (position : Nat) : KeymapEntry := ⟨.pass, 0, BitVec.ofNat 8 position⟩

/-- R90: the scanner and router after a reset, with the keymap given. -/
def KeyUnit.afterReset (keymap : List KeymapEntry) : KeyUnit where
  positions := List.replicate Config.keyPositions KeyPosition.latched
  held := []
  ghostBlock := false
  keymap := keymap
  reports := []
  time := 0#16

/-- R81, R90. -/
def KeyUnit.powerOn : KeyUnit := KeyUnit.afterReset ((List.range Config.keyPositions).map KeymapEntry.powerOn)

/-- The default response table (R93), rows 0..15. -/
def defaultRows : List (List Part) :=
  [ [.tone .chime, .word],                 -- EXACT
    [.tone .chime, .word],                 -- EXACT_ASSISTED
    [.tone .buzz, .letterNameAt],          -- SUBSTITUTION_TRY
    [.tone .buzz],                         -- SWAP_TRY
    [.tone .buzz],                         -- MISSING_TRY
    [.tone .buzz],                         -- EXTRA_TRY
    [.tone .buzz],                         -- WRONG_TRY
    [.tone .buzz, .spellTarget],           -- SUBSTITUTION_FINAL
    [.tone .buzz, .spellTarget],           -- SWAP_FINAL
    [.tone .buzz, .spellTarget],           -- MISSING_FINAL
    [.tone .buzz, .spellTarget],           -- EXTRA_FINAL
    [.tone .buzz, .spellTarget],           -- WRONG_FINAL
    [.tone .buzz],                         -- MISTAKE
    [.spellTarget, .word],                 -- ABANDONED
    [.prompt],                             -- NUDGE
    [.word] ]                              -- PROMPT_DEFAULT

/-- R117: empty queue and echo line, identity counter 1, with the rows given. -/
def Scheduler.afterReset (rows : List (List Part)) : Scheduler where
  rows := rows
  queue := []
  echoLine := none
  nextId := 1

/-- An IDLE voice: empty context and ring, gain 0 (R124, R142, R162). -/
def Voice.idle : Voice where
  state := .idle
  utterance := none
  readItem := 0
  phase := .atItem
  dir := none
  nextBlock := 0
  samplesLeft := 0
  ring := []
  leadIn := false
  rehand := false
  gain := 0

/-- The empty fault record (R132). -/
def FaultRecord.empty : FaultRecord := ⟨false, 0, 0, 0, 0⟩

/-- R142: both voices IDLE, the header check running, no claim, nothing recorded. The segment count and
store size in force (log 19) and a flash operation the reset cut off (R142) are given. -/
def Reader.afterReset (segmentCount storeSize : Nat) (interrupted : Option LinkOp) : Reader where
  mainVoice := Voice.idle
  echoVoice := Voice.idle
  engine := .header
  store := .checking
  claimFrom := .checking
  headerOutcome := .none
  segmentCount := segmentCount
  storeSize := storeSize
  fault := FaultRecord.empty
  lastResult := .none
  accRetry := false
  accFail := false
  holding := none
  interrupted := interrupted

/-- The three I2S lines stopped (R161). -/
def I2s.stopped : I2s := ⟨false, 0#16, 0#16⟩

/-- A frame whose two words carry one sample (R161). -/
def I2s.frame (sample : Int) : I2s := ⟨true, BitVec.ofInt 16 sample, BitVec.ofInt 16 sample⟩

/-- R146, R155, R159, R161, R162: an empty stopped buffer, the envelope OPEN at the host level, all clip
marks clear, and the I2S lines not driven before the first output instant. -/
def Mixer.afterReset (size hostLevel : Nat) : Mixer where
  samples := []
  playing := false
  endMark := false
  lowArmed := true
  sizeInForce := size
  hostGain := hostLevel
  envelope := .opened
  holdCount := 0
  clipCurrent := false
  clipLast := false
  clipSeen := false
  windowCount := 0
  output := 0
  i2s := I2s.stopped

/-- No latch set (R168). -/
def Latches.clear : Latches := ⟨false, false, false, false, false⟩

/-- The reply NONE with code and tag 0 (R169). -/
def Reply.none : Reply := ⟨0#8, 0#8, .none, [0#8, 0#8, 0#8, 0#8], []⟩

/-- R175: the Slot Port after a power-on reset. The slot last composed is nothing yet (log 18). A transaction it abandons
(R164) is over at once: LNK_SEL then counts as released (log 33). -/
def SlotPort.powerOn : SlotPort where
  reply := Reply.none
  txn := Option.none
  upstream := []
  latches := Latches.clear
  resetSeen := true

/-- R178, R181, R183, R184 after a reset. -/
def NoticeUnit.cleared : NoticeUnit where
  queue := []
  attn := false
  attnGap := none
  correct := none
  wrong := none
  blink := [none, none, none]

/-- R185, R189 after a reset. -/
def Power.cleared : Power where
  asleep := false
  amp := .off
  warmup := none
  standby := 0
  sleepTimer := none

/-- The power-on defaults of section 8.6. -/
def Params.powerOn : Params where
  hostLevel := 16384
  duckLevel := 4096
  duckFallStep := 16
  duckRiseStep := 4
  duckHold := 300
  mainVoiceLevel := 16384
  echoVoiceLevel := 12288
  playoutSize := 1536
  playoutMark := 512
  echoCutFloor := 150
  debounce := 8
  routeSpell := true
  inactivity := 10
  interWordGap := 1500
  knownStreak := 3
  attnMask := 0x1FFDF#17
  attnGap := 0
  lamps := [⟨.listening, false, false⟩, ⟨.correct, false, false⟩, ⟨.wrong, false, false⟩]
  ampStandby := 5
  ampWarmup := 20
  sleepAfter := 0

/-- The flash the model starts from: erased (log 13). -/
def Flash.erased : Flash := ⟨[], 0⟩

end Sys2Proof.Machine
end

