-- ==== Sys2Proof/Machine/State.lean ====
section
/-! DEFINITION. The state of the VKS-1420: its blocks, the segment store flash, and the queue of waiting commands. -/

namespace Sys2Proof.Machine

/-- The part: each block's own state (spec/00 section 2). -/
structure Vks where
  words : WordTable
  attempt : AttemptUnit
  lesson : LessonUnit
  keys : KeyUnit
  sched : Scheduler
  reader : Reader
  mixer : Mixer
  port : SlotPort
  notices : NoticeUnit
  power : Power
  params : Params
  deriving DecidableEq, Repr

/-- Every block in its power-on state (R175). A flash operation that the reset cut off is given (R142). -/
def Vks.powerOn (interrupted : Option LinkOp) : Vks where
  words := WordTable.powerOn
  attempt := AttemptUnit.cleared
  lesson := LessonUnit.powerOn
  keys := KeyUnit.powerOn
  sched := Scheduler.afterReset defaultRows
  reader := Reader.afterReset 0 0 interrupted
  mixer := Mixer.afterReset Params.powerOn.playoutSize Params.powerOn.hostLevel
  port := SlotPort.powerOn
  notices := NoticeUnit.cleared
  power := Power.cleared
  params := Params.powerOn

/-- The whole state: the part, the external flash it owns, and the commands that wait, first in first out. -/
structure State where
  vks : Vks
  flash : Flash
  pending : List Instr
  deriving DecidableEq, Repr

/-- The machine right after a power-on reset with the flash erased and no command waiting (log 13, log 18, log 21). -/
def State.reset : State where
  vks := Vks.powerOn none
  flash := Flash.erased
  pending := []

/-- Why a step stops with a fault. -/
inductive Fault where
  /-- Raised by the flash rows (HEADER_CHECK_END, DIRECTORY_READ_END, BLOCK_READ_END, STORE_WRITE_END,
  STORE_ERASE_END, STORE_READ_END) when the bytes in flight lie outside the 0xFF0000 bytes of the flash.
  No run from reset gets there: R123 and R139 to R141 turn such addresses away. Safe: the model stops (log 17). -/
  | noSuchFlashAddress (address : Nat)
  deriving DecidableEq, Repr

/-- Why a step is refused. -/
inductive Refusal where
  /-- Raised by exec's arm of a command that has no meaning yet; no arm raises it now. Safe: the model stops. -/
  | notModelled (mnemonic : String)
  deriving DecidableEq, Repr

/-- What a step answers. -/
abbrev StepOutcome := Host.Outcome State Fault Refusal

end Sys2Proof.Machine
end

