-- ==== Sys2Proof/Machine/Codes.lean ====
section
/-! DEFINITION. The codes the spec gives its named values, and the 8-byte records of R87 and R179. -/

namespace Sys2Proof.Machine

/-- Result codes (R169). -/
def Result.code : Result → Nat
  | .ok => 0
  | .accepted => 1
  | .none => 2
  | .linkError => 3
  | .badCommand => 4
  | .badArgs => 5
  | .busy => 6
  | .inUse => 7
  | .tableFull => 8
  | .queueFull => 9
  | .noAttempt => 10
  | .notClaimed => 11

/-- Attempt state codes (R21). -/
def AttemptState.code : AttemptState → Nat
  | .idle => 0
  | .prompting => 1
  | .listening => 2
  | .responding => 3
  | .gap => 4

/-- Verdict codes (R36). -/
def Verdict.code : Verdict → Nat
  | .exact => 1
  | .substitution => 2
  | .swap => 3
  | .missing => 4
  | .extra => 5
  | .wrong => 6
  | .abandoned => 7
  | .cancelled => 8

/-- The verdict code of a context, 0 for none (R36, R50). -/
def verdictCode : Option Verdict → Nat
  | none => 0
  | some v => v.code

/-- Origin codes (R50, R179). -/
def Origin.code : Origin → Nat
  | .command => 0
  | .lesson _ => 1
  | .shelf => 2

/-- The lesson retries left of an origin, 0 for COMMAND and SHELF (R50, R179). -/
def Origin.retries : Origin → Nat
  | .lesson r => r
  | _ => 0

/-- Awaited codes (R50). -/
def awaitedCode : Option (AwaitKind × Nat) → Nat
  | none => 0
  | some (.prompt, _) => 1
  | some (.tryResponse, _) => 2
  | some (.closing, _) => 3

/-- The check mode as a bit (01 section 1.5): 1 is DEFERRED. -/
def CheckMode.bit : CheckMode → Nat
  | .immediate => 0
  | .deferred => 1

/-- The check mode in force as replies and notices give it: 1 IMMEDIATE, 2 DEFERRED (R24, R179). -/
def CheckMode.code (m : CheckMode) : Nat := m.bit + 1

/-- Echo style codes (01 section 1.5). -/
def EchoStyle.code : EchoStyle → Nat
  | .name => 0
  | .sound => 1
  | .none => 2

/-- Mastery codes (R65). -/
def Mastery.code : Mastery → Nat
  | .new => 0
  | .learning => 1
  | .known => 2
  | .slipping => 3

/-- Key class codes (R81). -/
def KeyClass.code : KeyClass → Nat
  | .none => 0
  | .letter => 1
  | .erase => 2
  | .submit => 3
  | .hint => 4
  | .repeatPrompt => 5
  | .pass => 6

/-- Disposition codes (R87). -/
def Disposition.code : Disposition → Nat
  | .none => 0
  | .accepted => 1
  | .ignored => 2
  | .refused => 3
  | .passed => 4

/-- Key report event bytes (R87). -/
def KeyEvent.code : KeyEvent → Nat
  | .press => 0x81
  | .release => 0x82
  | .ghost => 0x83

/-- Source codes (R101). -/
def Source.code : Source → Nat
  | .echo => 0
  | .prompt => 1
  | .response => 2
  | .hint => 3
  | .say => 4

/-- Outcome codes (R102). -/
def UttOutcome.code : UttOutcome → Nat
  | .finished => 1
  | .cut => 2
  | .dropped => 3

/-- An utterance's flags byte: bit 0 TRUNCATED, bit 1 STARVED, bit 2 FAULTED (R116, R179). -/
def Utterance.flags (u : Utterance) : Nat := bitsValue [u.truncated, u.starved, u.faulted]

/-- Voice codes in notices (R134). -/
def VoiceId.code : VoiceId → Nat
  | .main => 0
  | .echo => 1

/-- Voice state codes (R116). -/
def VoiceState.code : VoiceState → Nat
  | .idle => 0
  | .waitingAmp => 1
  | .playing => 2

/-- Store state codes (R120). -/
def StoreState.code : StoreState → Nat
  | .checking => 0
  | .usable => 1
  | .unusable => 2
  | .claimPending => 3
  | .claimed => 4

/-- Header outcome codes (R121). -/
def HeaderOutcome.code : HeaderOutcome → Nat
  | .none => 0
  | .good => 1
  | .absent => 2
  | .badCheck => 3
  | .badMark => 4
  | .badCount => 5
  | .badSize => 6

/-- Last result codes (R132). -/
def ReadResult.code : ReadResult → Nat
  | .none => 0
  | .ok => 1
  | .retryOk => 2
  | .fail => 3

/-- Operation codes of STORE_DONE (R138). -/
def LinkOp.code : LinkOp → Nat
  | .write _ _ => 1
  | .erase _ => 2
  | .read _ _ => 3

/-- The address of a link operation's request (R138). -/
def LinkOp.address : LinkOp → Nat
  | .write a _ => a
  | .erase a => a
  | .read a _ => a

/-- Tone codes (R94). -/
def Tone.code : Tone → Nat
  | .click => 0
  | .buzz => 1
  | .chime => 2

/-- A part's kind code and value (R94); attempt-dependent parts carry value 0. -/
def Part.code : Part → Nat × Nat
  | .seg s => (1, s)
  | .tone t => (2, t.code)
  | .pause ms => (3, ms)
  | .word => (4, 0)
  | .prompt => (5, 0)
  | .spellTarget => (6, 0)
  | .spellAttempt => (7, 0)
  | .letterNameAt => (8, 0)
  | .letterSoundAt => (9, 0)

/-- The 3-byte form of a part (R94). -/
def Part.bytes (p : Part) : List Byte := leBytes 1 p.code.1 ++ leBytes 2 p.code.2

/-- Lamp mode codes (R182). -/
def LampMode.code : LampMode → Nat
  | .off => 0
  | .on => 1
  | .listening => 2
  | .speaking => 3
  | .correct => 4
  | .wrong => 5
  | .hint => 6
  | .store => 7
  | .attn => 8

/-- The lamp mode of a code; codes above 8 have none (R182). -/
def LampMode.ofCode : Nat → Option LampMode
  | 0 => some .off
  | 1 => some .on
  | 2 => some .listening
  | 3 => some .speaking
  | 4 => some .correct
  | 5 => some .wrong
  | 6 => some .hint
  | 7 => some .store
  | 8 => some .attn
  | _ => none

/-- A lamp setting's value: mode in bits 0..3, invert bit 4, blink bit 5 (R182). -/
def LampSetting.value (l : LampSetting) : Nat :=
  l.mode.code + (if l.invert then 16 else 0) + (if l.blink then 32 else 0)

/-- A notice's kind, 1..16 (R179). -/
def Notice.kind : Notice → Nat
  | .attemptOpened .. => 1
  | .attemptClosed .. => 2
  | .tryFailed .. => 3
  | .mastery .. => 4
  | .utteranceDone .. => 5
  | .audioLow .. => 6
  | .audioUnderrun .. => 7
  | .audioOverrun .. => 8
  | .readFault .. => 9
  | .storeDone .. => 10
  | .storeGranted .. => 11
  | .shelfLost .. => 12
  | .lessonEmpty .. => 13
  | .wake .. => 14
  | .voiceStarved .. => 15
  | .badSegment .. => 16

/-- Bytes 1..7 of a notice as far as its layout names them (R179). -/
def Notice.body : Notice → List Byte
  | .attemptOpened w o m t b r => leBytes 2 w ++ leBytes 1 o ++ leBytes 1 m ++ leBytes 1 t ++ leBytes 1 b ++ leBytes 1 r
  | .attemptClosed w v t h m p => leBytes 2 w ++ leBytes 1 v ++ leBytes 1 t ++ leBytes 1 h ++ leBytes 1 m ++ leBytes 1 p
  | .tryFailed w v t p => leBytes 2 w ++ leBytes 1 v ++ leBytes 1 t ++ leBytes 1 p
  | .mastery w b a k => leBytes 2 w ++ leBytes 1 b ++ leBytes 1 a ++ leBytes 1 k
  | .utteranceDone t i o f => [t] ++ leBytes 2 i ++ leBytes 1 o ++ leBytes 1 f
  | .audioLow f m => leBytes 2 f ++ leBytes 2 m
  | .audioUnderrun m => leBytes 2 m
  | .audioOverrun d f => leBytes 1 d ++ leBytes 2 f
  | .readFault s b a => leBytes 2 s ++ leBytes 1 b ++ leBytes 3 a
  | .storeDone o r a p => leBytes 1 o ++ leBytes 1 r ++ leBytes 3 a ++ leBytes 1 p
  | .storeGranted f => leBytes 1 f
  | .shelfLost w => leBytes 2 w
  | .lessonEmpty n => leBytes 1 n
  | .wake c => leBytes 1 c
  | .voiceStarved v i => leBytes 1 v ++ leBytes 2 i
  | .badSegment s c => leBytes 2 s ++ leBytes 1 c

/-- The 8-byte record of a notice (R179). -/
def Notice.bytes (n : Notice) : List Byte := padTo 8 (leBytes 1 n.kind ++ n.body)

/-- The 8-byte record of a key report (R87). -/
def KeyReport.bytes (r : KeyReport) : List Byte :=
  leBytes 1 r.event.code ++ leBytes 1 r.position ++ leBytes 1 r.entry.cls.code ++ leBytes 1 r.entry.letter
    ++ [r.entry.pass] ++ leBytes 1 r.disposition.code ++ leBytes 2 r.time.toNat

end Sys2Proof.Machine
end

