-- ==== Sys2Proof/Machine/Ops.lean ====
section
/-! DEFINITION. The named operations every block shares: notices, key reports, latches, replies, the passing of
time, and reading the tables. Every record joins a queue here, and nowhere else. -/

namespace Sys2Proof.Machine

/-! ### Records -/

/-- R178: a notice joins the tail, or is discarded at a full queue with NOTICE_LOST latched. -/
def raiseNotice (n : Notice) (v : Vks) : Vks :=
  if v.notices.queue.length < Config.queuePlaces then
    { v with notices := { v.notices with queue := v.notices.queue ++ [n] } }
  else { v with port := { v.port with latches := { v.port.latches with noticeLost := true } } }

/-- R89: a key report joins the tail, or is discarded at a full queue with KEY_LOST latched. -/
def addReport (r : KeyReport) (v : Vks) : Vks :=
  if v.keys.reports.length < Config.queuePlaces then
    { v with keys := { v.keys with reports := v.keys.reports ++ [r] } }
  else { v with port := { v.port with latches := { v.port.latches with keyLost := true } } }

/-! ### Answers and replies -/

/-- An answer with result OK. -/
def answerOk (data : List Byte) (bulk : List Byte := []) : Answer := ⟨.ok, data, bulk⟩

/-- BAD_ARGS with its cause in data byte 0 (R171). -/
def answerBadArgs (cause : Nat) : Answer := ⟨.badArgs, leBytes 1 cause, []⟩

/-- A refusal with its data. -/
def answerRefused (r : Result) (data : List Byte) : Answer := ⟨r, data, []⟩

/-- The first cause in the list whose condition holds (R171, log 10). -/
def firstCause : List (Bool × Nat) → Option Nat
  | [] => none
  | (violated, cause) :: rest => if violated then some cause else firstCause rest

/-- R165, R169: the pending reply becomes the owner's answer, data bytes it does not give being 0. -/
def setReply (code tag : Byte) (a : Answer) (v : Vks) : Vks :=
  { v with port := { v.port with reply := ⟨code, tag, a.result, padTo 4 a.data, a.bulk⟩ } }

/-- R165: an IDLE or AUDIO slot sets the pending reply to NONE. -/
def setReplyNone (v : Vks) : Vks := { v with port := { v.port with reply := Reply.none } }

/-- R164: a discarded slot sets the reply LINK_ERROR with its cause and the BAD_SLOT latch. -/
def discardSlot (cause : Nat) (v : Vks) : Vks :=
  { v with port := { v.port with
      reply := ⟨0#8, 0#8, .linkError, padTo 4 (leBytes 1 cause), []⟩
      latches := { v.port.latches with badSlot := true } } }

/-! ### Time (log 1) -/

/-- A running timer after `ms` milliseconds; one that reaches 0 is due and waits for its expiry row (log 2). -/
def countDown (ms : Nat) : Option Nat → Option Nat
  | none => none
  | some left => some (left - ms)

/-- `ms` milliseconds pass: the time counter (R88) and every running ms timer. -/
def passTime (ms : Nat) (v : Vks) : Vks :=
  { v with
    attempt := { v.attempt with inactivity := countDown ms v.attempt.inactivity }
    lesson := { v.lesson with gapTimer := countDown ms v.lesson.gapTimer }
    keys := { v.keys with time := v.keys.time + BitVec.ofNat 16 ms }
    notices := { v.notices with
      attnGap := countDown ms v.notices.attnGap
      correct := countDown ms v.notices.correct
      wrong := countDown ms v.notices.wrong
      blink := v.notices.blink.map (Option.map (fun p => { p with left := p.left - ms })) }
    power := { v.power with
      warmup := countDown ms v.power.warmup
      sleepTimer := countDown ms v.power.sleepTimer } }

/-! ### Tables -/

/-- The entry of a word; `none` when the index is out of range or the entry is invalid (R7). -/
def Vks.entry (v : Vks) (w : Nat) : Option WordEntry := readAt v.words.entries w none

/-- Items an entry uses (R4). -/
def WordEntry.items (e : WordEntry) : Nat :=
  e.letters.length + e.prompts.length + (match e.overrides with | none => 0 | some o => o.length)

/-- Items the entry of a word uses, 0 when it is invalid (R4). -/
def entryItems : Option WordEntry → Nat
  | none => 0
  | some e => e.items

/-- An entry replaced as a whole, with the pool's free count moved by the difference (R4, R10 to R12). -/
def setEntry (w : Nat) (e : Option WordEntry) (v : Vks) : Vks :=
  { v with words := { v.words with
      entries := writeAt v.words.entries w e
      freeItems := v.words.freeItems + entryItems (v.entry w) - entryItems e } }

/-- An alphabet entry, by letter code 1..48 (R6). -/
def Vks.letter (v : Vks) (c : Nat) : Letter := if c = 0 then ⟨none, none⟩ else readAt v.words.alphabet (c - 1) ⟨none, none⟩

/-- The progress record of a word index (R62). -/
def Vks.record (v : Vks) (w : Nat) : ProgressRecord := readAt v.lesson.records w ProgressRecord.zero

/-- R69 scope 0, R10 fresh, R12: the record is cleared and the index leaves the review list. -/
def clearProgress (w : Nat) (v : Vks) : Vks :=
  { v with lesson := { v.lesson with
      records := writeAt v.lesson.records w ProgressRecord.zero
      review := v.lesson.review.filter (fun x => x ≠ w) } }

/-- A keymap entry (R81). -/
def Vks.keymapAt (v : Vks) (p : Nat) : KeymapEntry := readAt v.keys.keymap p (KeymapEntry.powerOn p)

/-- A response row (R93). -/
def Vks.row (v : Vks) (r : Nat) : List Part := readAt v.sched.rows r []

/-- A lamp's setting (R182). -/
def Vks.lamp (v : Vks) (k : Nat) : LampSetting := readAt v.params.lamps k ⟨.off, false, false⟩

/-- R8: who holds a word, 0 nobody, 1 the open attempt, 2 the shelf, 3 both. -/
def wordHolder (w : Nat) (v : Vks) : Nat :=
  (if (v.attempt.state = .prompting ∨ v.attempt.state = .listening ∨ v.attempt.state = .responding)
      ∧ v.attempt.ctx.word = w then 1 else 0)
  + (match v.attempt.shelf with | some c => if c.word = w then 2 else 0 | none => 0)

/-! ### Voices -/

/-- The context of a voice. -/
def Vks.voice (v : Vks) : VoiceId → Voice
  | .main => v.reader.mainVoice
  | .echo => v.reader.echoVoice

/-- The context of a voice replaced. -/
def setVoice (i : VoiceId) (w : Voice) (v : Vks) : Vks :=
  match i with
  | .main => { v with reader := { v.reader with mainVoice := w } }
  | .echo => { v with reader := { v.reader with echoVoice := w } }

/-- The store is in a state in which the queues admit a start (R107). -/
def Vks.storeOpen (v : Vks) : Bool := decide (v.reader.store = .usable) || decide (v.reader.store = .unusable)

/-- Ring capacity (R125). -/
def Vks.ringCapacity (v : Vks) : Nat := (Config.sampleWords - v.mixer.sizeInForce) / 2

end Sys2Proof.Machine
end

