-- ==== Sys2Proof/Machine/Operands.lean ====
section
/-! DEFINITION. The operand forms of the requests: how an argument's bytes are read (01 section 1.5, R14, R54, R68, R81, R94). -/

namespace Sys2Proof.Machine

/-- `n` fields of 2 bytes from offset `i` on. -/
def fieldsAt (arg : List Byte) (i n : Nat) : List Nat := (List.range n).map (fun j => fieldAt arg (i + 2 * j) 2)

/-- `n` bytes from offset `i` on, as numbers. -/
def bytesAt (arg : List Byte) (i n : Nat) : List Nat := (List.range n).map (fun j => byteAt arg (i + j))

/-- A segment field read from the link: 0xFFFF is absent (01 section 1.5). -/
def segmentOf (x : Nat) : Option Nat := if x = 0xFFFF then none else some x

/-- An override item read from the link: 0xFFFE is DEFAULT (R11). -/
def overrideOf (x : Nat) : Option Nat := if x = 0xFFFE then none else some x

/-- A letter code out of 1..48. -/
def badLetter (c : Nat) : Bool := decide (c < 1) || decide (Config.letters < c)

/-- A segment id out of 0..2047. -/
def badSegmentId (x : Nat) : Bool := decide (Config.segments ≤ x)

/-- A segment field neither a segment id nor absent. -/
def badSegmentField (x : Nat) : Bool := badSegmentId x && decide (x ≠ 0xFFFF)

/-- A value's bit. -/
def bitOf (x i : Nat) : Bool := x.testBit i

/-- The settings of a WORD PUT argument, the limits clamped (R9). -/
def wordSettings (arg : List Byte) : Settings where
  checkMode := if bitOf (byteAt arg 2) 1 then .deferred else .immediate
  echoStyle := match byteAt arg 2 / 8 % 4 with | 0 => .name | 1 => .sound | _ => .none
  barge := bitOf (byteAt arg 2) 2
  tries := clamp 1 3 (byteAt arg 3)
  mistakeLimit := clamp 1 9 (byteAt arg 4)
  hintLimit := clamp 0 3 (byteAt arg 5)

/-- The word entry of a WORD PUT argument; the override list is absent (R9, R10). -/
def wordEntryOf (arg : List Byte) : WordEntry where
  letters := bytesAt arg 10 (byteAt arg 8)
  wordSegment := segmentOf (fieldAt arg 6 2)
  prompts := fieldsAt arg (10 + byteAt arg 8) (byteAt arg 9)
  overrides := none
  settings := wordSettings arg

/-- The mark of the limits WORD PUT clamped (R10). -/
def wordClampMark (arg : List Byte) : Nat :=
  bitsValue [decide ((wordSettings arg).tries ≠ byteAt arg 3), decide ((wordSettings arg).mistakeLimit ≠ byteAt arg 4),
    decide ((wordSettings arg).hintLimit ≠ byteAt arg 5)]

/-- The options byte of the WORD GET bulk (01 section 1.5). -/
def wordOptions (e : WordEntry) : Nat :=
  1 + 2 * e.settings.checkMode.bit + (if e.settings.barge then 4 else 0) + 8 * e.settings.echoStyle.code
    + (if e.overrides.isSome then 32 else 0)

/-- One item of ALPHABET PUT (R14). -/
structure AlphabetItem where
  code : Nat
  selection : Nat
  name : Nat
  sound : Nat
  deriving DecidableEq, Repr

/-- The items of an ALPHABET PUT argument. -/
def alphabetItems (arg : List Byte) : List AlphabetItem :=
  (List.range (byteAt arg 0)).map (fun j =>
    ⟨byteAt arg (1 + 6 * j), byteAt arg (2 + 6 * j), fieldAt arg (3 + 6 * j) 2, fieldAt arg (5 + 6 * j) 2⟩)

/-- The selection names the name side, the sound side (R14). -/
def AlphabetItem.hasName (x : AlphabetItem) : Bool := decide (x.selection = 1) || decide (x.selection = 3)
def AlphabetItem.hasSound (x : AlphabetItem) : Bool := decide (x.selection = 2) || decide (x.selection = 3)

/-- A key class from its code (R81). -/
def KeyClass.ofCode : Nat → Option KeyClass
  | 0 => some .none
  | 1 => some .letter
  | 2 => some .erase
  | 3 => some .submit
  | 4 => some .hint
  | 5 => some .repeatPrompt
  | 6 => some .pass
  | _ => Option.none

/-- The keymap entry of a 4-byte form at offset `i`; the letter code of a non-LETTER entry is stored as 0 (R81, R82). -/
def keymapEntryAt (arg : List Byte) (i : Nat) : KeymapEntry :=
  let cls := (KeyClass.ofCode (byteAt arg i)).getD .none
  ⟨cls, if cls = .letter then byteAt arg (i + 1) else 0, BitVec.ofNat 8 (byteAt arg (i + 2))⟩

/-- The 4-byte form of a keymap entry (R81). -/
def KeymapEntry.bytes (e : KeymapEntry) : List Byte := leBytes 1 e.cls.code ++ leBytes 1 e.letter ++ [e.pass, 0#8]

/-- The kind code and value of the `j`-th part of an argument whose parts begin at offset 2 (R94). -/
def partFieldsAt (arg : List Byte) (j : Nat) : Nat × Nat := (byteAt arg (2 + 3 * j), fieldAt arg (3 + 3 * j) 2)

/-- The kind codes and values of an argument's parts (R95, R106). -/
def partFields (arg : List Byte) : List (Nat × Nat) := (List.range (byteAt arg 1)).map (partFieldsAt arg)

/-- A SEG value outside 0..2047 (cause 6 of R95, R106). -/
def badPartSegment (p : Nat × Nat) : Bool := decide (p.1 = 1) && badSegmentId p.2

/-- A kind code outside 1..9, or a TONE value above 2 (cause 7 of R95, R106). -/
def badPartKind (p : Nat × Nat) : Bool := decide (p.1 < 1) || decide (9 < p.1) || (decide (p.1 = 2) && decide (2 < p.2))

/-- A part from its kind code and value; a PAUSE value is clamped to 10..2000 (R94). -/
def partOf (p : Nat × Nat) : Part :=
  match p.1 with
  | 1 => .seg p.2
  | 2 => .tone (match p.2 with | 0 => .click | 1 => .buzz | _ => .chime)
  | 3 => .pause (clamp 10 2000 p.2)
  | 4 => .word
  | 5 => .prompt
  | 6 => .spellTarget
  | 7 => .spellAttempt
  | 8 => .letterNameAt
  | _ => .letterSoundAt

/-- A PAUSE value that was clamped (R95, R106). -/
def pauseClamped (p : Nat × Nat) : Bool := decide (p.1 = 3) && decide (clamp 10 2000 p.2 ≠ p.2)

/-- The 12-byte form of a progress record (03 section 3.3). -/
def ProgressRecord.bytes (r : ProgressRecord) : List Byte :=
  leBytes 2 r.attempts ++ leBytes 2 r.passes ++ leBytes 2 r.assisted ++ leBytes 2 r.misses ++ leBytes 1 r.streak
    ++ leBytes 1 r.slips ++ leBytes 1 r.lastVerdict ++ leBytes 1 r.mastery.code

/-- A mastery from its code (R65). -/
def Mastery.ofCode : Nat → Mastery
  | 0 => .new
  | 1 => .learning
  | 2 => .known
  | _ => .slipping

/-- The record of a PROGRESS PUT argument, the slips stored by its mastery (R68). -/
def progressRecordOf (arg : List Byte) : ProgressRecord :=
  let m := Mastery.ofCode (byteAt arg 13)
  ⟨fieldAt arg 2 2, fieldAt arg 4 2, fieldAt arg 6 2, fieldAt arg 8 2, byteAt arg 10,
    if m = .slipping then 1 else 0, byteAt arg 12, m⟩

/-- The 3-byte form of a lesson entry (R54, R55). -/
def LessonEntry.bytes (e : LessonEntry) : List Byte := leBytes 2 e.word ++ leBytes 1 e.retries

/-- A lamp setting from its value (R182). -/
def lampSettingOf (x : Nat) : LampSetting :=
  ⟨(LampMode.ofCode (x % 16)).getD .off, bitOf x 4, bitOf x 5⟩

/-- The `n` places of a list from `i` on. -/
def window {α : Type} (l : List α) (i n : Nat) : List α := (l.drop i).take n

end Sys2Proof.Machine
end

