-- ==== Sys2Proof/Machine/Flags.lean ====
section
/-! DEFINITION. Every flag the part shows: the status summary's flags (R167), the reason for ATTN (R181), the lamps'
conditions and outputs (R182, R184), and the conditions of sleep (R189, R191). -/

namespace Sys2Proof.Machine

/-- A voice holds an utterance (R167). -/
def Vks.voiceActive (v : Vks) (i : VoiceId) : Bool := decide ((v.voice i).state ≠ .idle)

/-- A voice is PLAYING (R124). -/
def Vks.voicePlaying (v : Vks) (i : VoiceId) : Bool := decide ((v.voice i).state = .playing)

/-- DUCKED: the host gain is not the host level (R156). -/
def Vks.duckedFlag (v : Vks) : Bool := decide (v.mixer.hostGain ≠ v.params.hostLevel)

/-- CLIP_NOW (R155). -/
def Vks.clipNow (v : Vks) : Bool := v.mixer.clipCurrent || v.mixer.clipLast

/-- STORE_LINK (R120). -/
def Vks.storeLink (v : Vks) : Bool := decide (v.reader.store = .claimPending) || decide (v.reader.store = .claimed)

/-- STORE_BUSY: a link operation is in flight (R138). -/
def Vks.storeBusy (v : Vks) : Bool := match v.reader.engine with | .link _ => true | _ => false

/-- LOW (R149). -/
def Vks.lowFlag (v : Vks) : Bool :=
  v.mixer.playing && decide (v.mixer.samples.length < v.params.playoutMark) && !v.mixer.endMark

/-- An attempt is open (R21). -/
def AttemptState.isOpen : AttemptState → Bool
  | .prompting => true
  | .listening => true
  | .responding => true
  | _ => false

/-- Flags A of the status summary (08 section 8.1). -/
def Vks.flagsA (v : Vks) : Nat :=
  bitsValue [v.voiceActive .main, v.voiceActive .echo, v.duckedFlag, v.clipNow, v.mixer.clipSeen, v.storeLink,
    decide (v.power.amp = .on), v.lowFlag]

/-- Flags B of the status summary (08 section 8.1). -/
def Vks.flagsB (v : Vks) : Nat :=
  bitsValue [v.port.latches.underrun, v.port.latches.overrun, v.port.latches.noticeLost, v.port.latches.keyLost,
    v.port.latches.badSlot, v.port.resetSeen, v.storeBusy, decide (v.port.reply.bulk ≠ [])]

/-- The status summary, bytes 0..5 of the upstream slot (R167). -/
def Vks.statusSummary (v : Vks) : List Byte :=
  leBytes 2 v.mixer.samples.length
    ++ leBytes 1 (v.attempt.state.code + (if v.attempt.shelf.isSome then 8 else 0) + (if v.lesson.auto then 16 else 0))
    ++ leBytes 1 (v.sched.queue.length + (if v.sched.echoLine.isSome then 32 else 0))
    ++ leBytes 1 v.flagsA ++ leBytes 1 v.flagsB

/-- ATTN has a reason (R181): bit 16 of the mask for key reports, bit k − 1 for notice kind k (R180). -/
def Vks.attnReason (v : Vks) : Bool :=
  (decide (v.keys.reports ≠ []) && v.params.attnMask.getLsbD 16)
    || v.notices.queue.any (fun n => v.params.attnMask.getLsbD (n.kind - 1))

/-- The condition of a lamp mode (R182). -/
def Vks.lampCondition (v : Vks) : LampMode → Bool
  | .off => false
  | .on => true
  | .listening => decide (v.attempt.state = .listening)
  | .speaking => v.voicePlaying .main || v.voicePlaying .echo
  | .correct => v.notices.correct.isSome
  | .wrong => v.notices.wrong.isSome
  | .hint => v.attempt.state.isOpen && decide (0 < v.attempt.ctx.hintStage)
  | .store => decide (v.reader.store = .claimed)
  | .attn => v.notices.attn

/-- The blink phase of a lamp (R184). -/
def Vks.blinkPhase (v : Vks) (k : Nat) : Option BlinkPhase := readAt v.notices.blink k none

/-- A lamp's output (R184): dark in SLEEP; otherwise the plain result, reversed by invert. -/
def lampLit (v : Vks) (k : Nat) : Bool :=
  if v.power.asleep then false
  else
    let l := v.lamp k
    let plain := v.lampCondition l.mode
      && (if l.blink then (match v.blinkPhase k with | some p => p.lit | none => false) else true)
    plain != l.invert

/-- The 32 bits of the I2S frame in wire order, `none` while the lines are stopped (R161): 16 of the left word with
I2S_WS low, then 16 of the right word with I2S_WS high, most significant first; each as its (I2S_WS, I2S_DO). -/
def i2sFrame (v : Vks) : Option (List (Bool × Bool)) :=
  if v.mixer.i2s.driven then
    some ((List.range 16).map (fun k => (false, v.mixer.i2s.left.getMsbD k))
      ++ (List.range 16).map (fun k => (true, v.mixer.i2s.right.getMsbD k)))
  else none

/-- AMP_EN is high (R185). -/
def ampEnable (v : Vks) : Bool := decide (v.power.amp ≠ .off)

/-- The conditions of R189 in their order; the first that fails gives its number. -/
def sleepObstacle (v : Vks) : Option Nat :=
  if v.attempt.state ≠ .idle then some 1
  else if v.voiceActive .main || v.voiceActive .echo then some 2
  else if v.sched.queue ≠ [] ∨ v.sched.echoLine ≠ none then some 3
  else if v.reader.engine ≠ .idle then some 4
  else none

/-- The sleep timer counts (R191). -/
def sleepTimerRuns (v : Vks) : Bool :=
  !v.power.asleep && decide (v.params.sleepAfter ≠ 0) && (sleepObstacle v).isNone && !v.mixer.playing && v.port.txn.isNone

/-- The inactivity timer counts (R42). -/
def inactivityCounts (v : Vks) : Bool :=
  decide (v.attempt.state = .listening) && decide (v.attempt.ctx.outstanding = []) && decide (v.params.inactivity ≠ 0)

end Sys2Proof.Machine
end

