-- ==== Sys2Proof/Machine/SegmentReader.lean ====
section
/-! DEFINITION. The voices' readings (R123, R127, R130), the arbiter of the read engine (R128, R129), and the draw (R126, R134). -/

namespace Sys2Proof.Machine

/-! ### Tones and pauses (R127) -/

/-- Sample `k` of a square wave of the given period and amplitude, as it enters the ring. -/
def squareWave (period amplitude k : Nat) : Int :=
  if 2 * (k % period) < period then (amplitude : Int) * 256 else -((amplitude : Int) * 256)

/-- Sample `k` of a tone. -/
def toneSample : Tone → Nat → Int
  | .click, k => squareWave 16 64 k
  | .buzz, k => squareWave 80 48 k
  | .chime, k => if k < 2400 then squareWave 20 56 k else squareWave 16 56 (k - 2400)

/-- The length of a tone in samples. -/
def toneLength : Tone → Nat
  | .click => 80
  | .buzz => 4000
  | .chime => 4800

/-- The length of a fill: a tone, or 16 samples a ms of silence. -/
def Fill.length : Fill → Nat
  | .tone t => toneLength t
  | .pause ms => 16 * ms

/-- Sample `k` of a fill. -/
def Fill.sample : Fill → Nat → Int
  | .tone t, k => toneSample t k
  | .pause _, _ => 0

/-! ### The ring -/

/-- The ring's room (R125). -/
def Voice.room (w : Voice) (capacity : Nat) : Nat := capacity - w.ring.length

/-- Samples enter the ring; the first of them carries the marks given. The first sample of the utterance ends the lead-in (R124). -/
def Voice.enter (w : Voice) (values : List Int) (begins level : Option Nat) : Voice :=
  match values with
  | [] => w
  | x :: xs => { w with
      ring := w.ring ++ (⟨x, begins, level⟩ :: xs.map (fun y => ⟨y, none, none⟩))
      leadIn := false }

/-- The items of the utterance on a voice. -/
def Voice.items (w : Voice) : List Item := match w.utterance with | some u => u.items | none => []

/-- The reading goes on to the next item, or is done after the last (R130). -/
def Voice.nextItem (w : Voice) : Voice :=
  { w with
    readItem := if w.readItem < w.items.length then w.readItem + 1 else 0
    phase := .atItem
    dir := none
    nextBlock := 0
    samplesLeft := 0
    rehand := false }

/-- The reading begins to write a fill in place of, or as, its item (R127). -/
def Voice.beginFill (w : Voice) (f : Fill) : Voice := { w with phase := .filling f, samplesLeft := f.length, dir := none }

/-- As many samples of the fill enter as fit (R127); its first sample begins the item at level 128. -/
def Voice.pourFill (w : Voice) (f : Fill) (capacity : Nat) : Voice :=
  let n := min (w.room capacity) w.samplesLeft
  let k := f.length - w.samplesLeft
  let w' := w.enter ((List.range n).map (fun i => f.sample (k + i)))
    (if k = 0 then some w.readItem else none) (if k = 0 then some 128 else none)
  { w' with samplesLeft := w.samplesLeft - n }

/-- R123 causes 1 and 2, decided when the item is reached; 0 when the segment is not found unreadable. -/
def reachCause (v : Vks) (segment : Nat) : Nat :=
  if v.reader.store = .unusable then 1 else if v.reader.segmentCount ≤ segment then 2 else 0

/-- R123: an unreadable segment is replaced by a CLICK, and BAD_SEGMENT is raised. -/
def replaceSegment (i : VoiceId) (segment cause : Nat) (v : Vks) : Vks :=
  raiseNotice (.badSegment segment cause) (setVoice i ((v.voice i).beginFill (.tone .click)) v)

/-- One stage of a voice's reading, and whether the reading can go on in this event. -/
def readStage (i : VoiceId) (v : Vks) : Vks × Bool :=
  let w := v.voice i
  if w.state ≠ .playing ∨ w.readItem = 0 then (v, false)
  else match w.phase with
    | .atItem =>
      (match w.items[w.readItem - 1]? with
       | none => (v, false)
       | some (.tone t) => (setVoice i (w.beginFill (.tone t)) v, true)
       | some (.pause ms) => (setVoice i (w.beginFill (.pause ms)) v, true)
       | some (.seg s) =>
         if v.storeOpen then
           (if reachCause v s = 0 then (setVoice i { w with phase := .needEntry } v, false)
            else (replaceSegment i s (reachCause v s) v, true))
         else (v, false))
    | .filling f =>
      let w' := w.pourFill f v.ringCapacity
      if w'.samplesLeft = 0 then (setVoice i w'.nextItem v, true) else (setVoice i w' v, false)
    | .needEntry => (v, false)
    | .blocks => (v, false)

/-- Stages of a reading, at most `fuel` of them, while it can go on. -/
def readStages : Nat → VoiceId → Vks → Vks
  | 0, _, v => v
  | n + 1, i, v =>
    match readStage i v with
    | (v', true) => readStages n i v'
    | (v', false) => v'

/-- R127, R130: the reading goes as far as this event lets it. An utterance has at most 40 items, two stages each. -/
def readAhead (i : VoiceId) (v : Vks) : Vks := readStages 82 i v

/-! ### The read engine (R128, R129) -/

/-- A block's worth of room: 256 samples at 16 kHz, 512 at 8 kHz (R128). -/
def blockRoom (rate : Nat) : Nat := if rate = 1 then 512 else 256

/-- A voice needs a read (R128). -/
def needsRead (v : Vks) (i : VoiceId) : Bool :=
  let w := v.voice i
  decide (w.state = .playing) && decide (v.reader.store = .usable) &&
    (match w.phase, w.dir with
     | .needEntry, _ => true
     | .blocks, some d => decide (blockRoom d.rate ≤ w.room v.ringCapacity)
     | _, _ => false)

/-- The segment of a voice's read item. -/
def Voice.readSegment (w : Voice) : Nat :=
  match w.items[w.readItem - 1]? with | some (.seg s) => s | _ => 0

/-- The read a voice needs, as the engine's work. -/
def engineWork (v : Vks) (i : VoiceId) : Engine :=
  let w := v.voice i
  match w.phase, w.dir with
  | .blocks, some d =>
    .blockRead i w.readSegment w.nextBlock (d.start + 258 * w.nextBlock) (min 256 w.samplesLeft) d.rate true
  | _, _ => .entryRead i w.readSegment true

/-- The voice the arbiter serves: the one with fewer samples buffered, the main voice on equal counts (R129). -/
def arbiterChoice (v : Vks) : Option VoiceId :=
  match needsRead v .main, needsRead v .echo with
  | true, true => if v.reader.echoVoice.ring.length < v.reader.mainVoice.ring.length then some .echo else some .main
  | true, false => some .main
  | false, true => some .echo
  | false, false => none

/-- R129: an IDLE engine starts one read when a voice needs one. -/
def startRead (v : Vks) : Vks :=
  if v.reader.engine = .idle then
    match arbiterChoice v with
    | some i => { v with reader := { v.reader with engine := engineWork v i } }
    | none => v
  else v

/-- R130: a read for a stopped voice brings nothing into it when it ends. -/
def Engine.forsake (e : Engine) (i : VoiceId) : Engine :=
  match e with
  | .entryRead j s l => .entryRead j s (l && decide (i ≠ j))
  | .blockRead j s b a t r l => .blockRead j s b a t r (l && decide (i ≠ j))
  | e => e

/-- R126: a voice becomes IDLE with its context and ring emptied; a read in flight for it goes on (R143). -/
def idleVoice (i : VoiceId) (v : Vks) : Vks :=
  let v' := setVoice i Voice.idle v
  { v' with reader := { v'.reader with engine := v'.reader.engine.forsake i } }

/-! ### The draw (R126, R134, R152) -/

/-- The channel level of a voice (R152). -/
def Vks.channelLevel (v : Vks) : VoiceId → Nat
  | .main => v.params.mainVoiceLevel
  | .echo => v.params.echoVoiceLevel

/-- G = round(level × 128 × channel level / 16384), ties away from zero (R152). -/
def combinedGain (level channel : Nat) : Nat := (level * 128 * channel + 8192) / 16384

/-- The play position after a draw of a sample (R101). -/
def Utterance.played (u : Utterance) (r : RingSample) : Utterance :=
  match r.begins with
  | some k => { u with playItem := k, playSamples := 1 }
  | none => { u with playSamples := u.playSamples + 1 }

/-- One draw from a voice: the sample, and the part after it (R126). A level handed again inside one item sets the gain by the
channel level in force at that draw (R152; log 36). -/
def draw (i : VoiceId) (v : Vks) : Int × Vks :=
  let w := v.voice i
  if w.state ≠ .playing ∨ w.leadIn then (0, v)
  else match w.ring, w.utterance with
    | r :: rest, some u =>
      (r.value, setVoice i { w with
        ring := rest
        utterance := some (u.played r)
        gain := (match r.level with | some l => combinedGain l (v.channelLevel i) | none => w.gain) } v)
    | [], some u =>
      if w.readItem = 0 ∨ u.starved then (0, v)
      else (0, raiseNotice (.voiceStarved i.code u.id) (setVoice i { w with utterance := some { u with starved := true } } v))
    | _, none => (0, v)

/-- The draw removed the last sample of the utterance's last item (R126). -/
def Voice.drained (w : Voice) : Bool :=
  decide (w.state = .playing) && !w.leadIn && decide (w.ring = []) && decide (w.readItem = 0)

end Sys2Proof.Machine
end

