-- ==== Sys2Proof/Machine/Amplifier.lean ====
section
/-! DEFINITION. The playout buffer's readiness and low crossing (R148, R149), the amplifier (R185 to R187), and the start
of an utterance on a voice (R124). -/

namespace Sys2Proof.Machine

/-- The buffer is ready (R148). -/
def playoutReady (v : Vks) : Bool :=
  !v.mixer.playing && decide (1 ≤ v.mixer.samples.length) && decide (v.params.playoutMark ≤ v.mixer.samples.length)

/-- With the amplifier ON a ready buffer becomes PLAYING, and low armed is set (R148). -/
def startPlayout (v : Vks) : Vks :=
  if playoutReady v then { v with mixer := { v.mixer with playing := true, lowArmed := true } } else v

/-- The buffer becomes STOPPED, keeping its samples and its end mark (R151). -/
def stopPlayout (v : Vks) : Vks := { v with mixer := { v.mixer with playing := false } }

/-- The fill of a PLAYING buffer compared with the mark (R149). -/
def lowCompare (v : Vks) : Vks :=
  if v.mixer.samples.length < v.params.playoutMark then
    (if v.mixer.lowArmed ∧ ¬ v.mixer.endMark then
      raiseNotice (.audioLow v.mixer.samples.length v.params.playoutMark)
        { v with mixer := { v.mixer with lowArmed := false } }
     else v)
  else { v with mixer := { v.mixer with lowArmed := true } }

/-- A voice becomes PLAYING: read item 1, lead-in set, and the reading begins (R124). -/
def becomePlaying (i : VoiceId) (v : Vks) : Vks :=
  readAhead i (setVoice i { v.voice i with state := .playing, readItem := 1, phase := .atItem, leadIn := true } v)

/-- A voice in WAITING_AMP becomes PLAYING (R186). -/
def releaseVoice (i : VoiceId) (v : Vks) : Vks :=
  if (v.voice i).state = .waitingAmp then becomePlaying i v else v

/-- The warm-up ends: the amplifier is ON, waiting voices play, main first (log 34), and the buffer is tested (R186). -/
def ampBecomesOn (v : Vks) : Vks :=
  startPlayout (releaseVoice .echo (releaseVoice .main
    { v with power := { v.power with amp := .on, warmup := none, standby := 0 } }))

/-- An ask for the amplifier (R185); a warm-up of 0 ms expires in the event that starts it (R186). -/
def askAmp (v : Vks) : Vks :=
  match v.power.amp with
  | .off =>
    if v.params.ampWarmup = 0 then ampBecomesOn v
    else { v with power := { v.power with amp := .warming, warmup := some v.params.ampWarmup } }
  | _ => v

/-- Readiness tested after a change of the fill, of the mark, or of the power state (R148, R193). -/
def testPlayout (v : Vks) : Vks :=
  if playoutReady v then
    match v.power.amp with
    | .on => startPlayout v
    | .off => askAmp v
    | .warming => v
  else v

/-- The amplifier goes OFF; a PLAYING buffer stops (R151, R187, R190). -/
def ampGoesOff (v : Vks) : Vks :=
  stopPlayout { v with power := { v.power with amp := .off, warmup := none, standby := 0 } }

/-- An utterance is started on a voice: PLAYING when the amplifier is ON, otherwise WAITING_AMP with an ask (R107, R124). -/
def startVoice (i : VoiceId) (u : Utterance) (v : Vks) : Vks :=
  let v' := setVoice i { Voice.idle with
    state := .waitingAmp, utterance := some { u with playItem := 1, playSamples := 0 } } v
  if v.power.amp = .on then becomePlaying i v' else askAmp v'

end Sys2Proof.Machine
end

