-- ==== Sys2Proof/Machine/Grading.lean ====
section
/-! DEFINITION. Grading (R34), the hint position (R38), the class of a close (R36), and a word's progress (R63, R64). -/

namespace Sys2Proof.Machine

/-- The letter at a 1-based position. -/
def letterAt (l : List Nat) (p : Nat) : Option Nat := if p = 0 then none else l[p - 1]?

/-- The 1-based positions at which two lists differ. -/
def differences (a t : List Nat) : List Nat :=
  ((List.range (max a.length t.length)).map (· + 1)).filter (fun p => letterAt a p ≠ letterAt t p)

/-- The smallest 1-based position whose removal from `long` gives `short`. -/
def firstRemoval (long short : List Nat) : Option Nat :=
  ((List.range long.length).find? (fun i => long.eraseIdx i = short)).map (· + 1)

/-- The verdict and position of attempt `a` against target `t` (R34). -/
def grade (a t : List Nat) : Verdict × Nat :=
  if a = t then (.exact, 0)
  else if a.length = t.length then
    match differences a t with
    | [p] => (.substitution, p)
    | [p, q] =>
      if q = p + 1 ∧ letterAt a p = letterAt t q ∧ letterAt a q = letterAt t p then (.swap, p) else (.wrong, 0)
    | _ => (.wrong, 0)
  else if a.length + 1 = t.length then
    match firstRemoval t a with
    | some i => (.missing, i)
    | none => (.wrong, 0)
  else if a.length = t.length + 1 then
    match firstRemoval a t with
    | some i => (.extra, i)
    | none => (.wrong, 0)
  else (.wrong, 0)

/-- The hint position p_h, 0 when the buffer begins with the whole target (R38). -/
def hintPosition (a t : List Nat) : Nat :=
  match ((List.range t.length).map (· + 1)).find? (fun i => letterAt a i ≠ letterAt t i) with
  | some i => i
  | none => 0

/-- The class of a close other than CANCELLED (R36). -/
def closeClass (verdict : Verdict) (c : Context) : CloseClass :=
  if verdict = .exact then
    (if c.tryNumber = 1 ∧ c.hintsUsed = 0 ∧ c.mistakes = 0 then .pass else .assisted)
  else .miss

/-- The response row of a failed try (R35, R93). -/
def tryRow : Verdict → Nat
  | .substitution => 2
  | .swap => 3
  | .missing => 4
  | .extra => 5
  | _ => 6

/-- The response row of a close (R36, R93). -/
def closeRow (verdict : Verdict) (cls : CloseClass) : Nat :=
  match verdict with
  | .exact => (match cls with | .pass => 0 | _ => 1)
  | .substitution => 7
  | .swap => 8
  | .missing => 9
  | .extra => 10
  | .wrong => 11
  | .abandoned => 13
  | .cancelled => 13

/-- Mastery and slips of a counted close, from the mastery after the first step (R64). -/
def masteryStep (known : Nat) (cls : CloseClass) (streak : Nat) : Mastery → Nat → Mastery × Nat
  | .learning, slips => if cls = .pass ∧ known ≤ streak then (.known, slips) else (.learning, slips)
  | .known, slips => if cls = .pass then (.known, slips) else (.slipping, 1)
  | .slipping, slips =>
    if cls = .pass then (if known ≤ streak then (.known, 0) else (.slipping, slips))
    else if slips + 1 ≥ 2 then (.learning, 0) else (.slipping, slips + 1)
  | .new, slips => (.new, slips)

/-- R64, first step: a NEW word becomes LEARNING. -/
def masteryFirst : Mastery → Mastery
  | .new => .learning
  | m => m

/-- A record after a counted close (R63, R64). -/
def ProgressRecord.count (known : Nat) (verdict : Verdict) (cls : CloseClass) (r : ProgressRecord) : ProgressRecord :=
  let streak := if cls = .pass then satSucc 255 r.streak else 0
  let m := masteryStep known cls streak (masteryFirst r.mastery) r.slips
  { attempts := satSucc 65535 r.attempts
    passes := if cls = .pass then satSucc 65535 r.passes else r.passes
    assisted := if cls = .assisted then satSucc 65535 r.assisted else r.assisted
    misses := if cls = .miss then satSucc 65535 r.misses else r.misses
    streak := streak
    slips := m.2
    lastVerdict := verdict.code
    mastery := m.1 }

/-- R70: a word enters the review list at the tail; its old place goes first, then, at a full list, the head. -/
def reviewEnter (w : Nat) (l : List Nat) : List Nat :=
  let l' := l.filter (fun x => x ≠ w)
  (if l'.length < Config.listPlaces then l' else l'.drop 1) ++ [w]

/-- The review list after a counted close (R70, R71). -/
def reviewAfter (w : Nat) (cls : CloseClass) (before after : Mastery) (l : List Nat) : List Nat :=
  if cls ≠ .pass then reviewEnter w l
  else if after = .known ∧ before ≠ .known then l.filter (fun x => x ≠ w)
  else l

/-- The lesson list after a counted close (R60). -/
def requeueAfter (w : Nat) (cls : CloseClass) (origin : Origin) (l : List LessonEntry) : List LessonEntry :=
  match origin with
  | .lesson (r + 1) =>
    if cls ≠ .pass ∧ l.length < Config.listPlaces then l ++ [⟨w, r⟩] else l
  | _ => l

/-- R63, R65, R70, R71, R60 in this order: record, MASTERY notice, review list, requeue. -/
def countClose (w : Nat) (verdict : Verdict) (cls : CloseClass) (origin : Origin) (v : Vks) : Vks :=
  let old := v.record w
  let rec' := old.count v.params.knownStreak verdict cls
  let v1 := { v with lesson := { v.lesson with records := writeAt v.lesson.records w rec' } }
  let v2 := if rec'.mastery = old.mastery then v1
    else raiseNotice (.mastery w old.mastery.code rec'.mastery.code rec'.streak) v1
  { v2 with lesson := { v2.lesson with
      review := reviewAfter w cls old.mastery rec'.mastery v2.lesson.review
      entries := requeueAfter w cls origin v2.lesson.entries } }

end Sys2Proof.Machine
end

