-- ==== Sys2Proof/Machine/Expansion.lean ====
section
/-! DEFINITION. Expansion of response parts into the items of an utterance (R97 to R100), from the tables as they stand. -/

namespace Sys2Proof.Machine

/-- The expansion context (R97): the word's entry (`none` when there is no attempt), the buffer snapshot, p, the verdict. -/
structure Expansion where
  entry : Option WordEntry
  snapshot : List Nat
  position : Nat
  verdict : Option Verdict
  deriving DecidableEq, Repr

/-- An absent alphabet item gives a CLICK (R7). -/
def segmentOrClick : Option Nat → Item
  | some s => .seg s
  | none => .tone .click

/-- The name of a letter code (R7). -/
def nameItem (v : Vks) (c : Nat) : Item := segmentOrClick (v.letter c).name

/-- The sound of a letter code (R7). -/
def soundItem (v : Vks) (c : Nat) : Item := segmentOrClick (v.letter c).sound

/-- The names of a letter list with a PAUSE of 100 ms between consecutive names (R98). -/
def spell (v : Vks) (l : List Nat) : List Item := (l.map (nameItem v)).intersperse (.pause 100)

/-- The sound of target position p: the word's override when it is a segment id, otherwise the alphabet sound (R7). -/
def targetSound (v : Vks) (e : WordEntry) (p : Nat) (c : Nat) : Item :=
  match e.overrides with
  | some o => (match readAt o (p - 1) none with | some s => .seg s | none => soundItem v c)
  | none => soundItem v c

/-- The items one part contributes (R98). -/
def expandPart (v : Vks) (x : Expansion) : Part → List Item
  | .seg s => [.seg s]
  | .tone t => [.tone t]
  | .pause ms => [.pause ms]
  | .word => (match x.entry with | some e => (e.wordSegment.map Item.seg).toList | none => [])
  | .prompt => (match x.entry with | some e => e.prompts.map Item.seg | none => [])
  | .spellTarget => (match x.entry with | some e => spell v e.letters | none => [])
  | .spellAttempt => (match x.entry with | some _ => spell v x.snapshot | none => [])
  | .letterNameAt =>
    (match x.entry with
     | some e =>
       ((letterAt (if x.verdict = some .extra then x.snapshot else e.letters) x.position).map (nameItem v)).toList
     | none => [])
  | .letterSoundAt =>
    (match x.entry with
     | some e =>
       if x.verdict = some .extra then ((letterAt x.snapshot x.position).map (soundItem v)).toList
       else ((letterAt e.letters x.position).map (targetSound v e x.position)).toList
     | none => [])

/-- All items of a part list, before the limit of R99. -/
def expandAll (v : Vks) (x : Expansion) (parts : List Part) : List Item := parts.flatMap (expandPart v x)

/-- The item list kept: at most 40 (R99). -/
def keepItems (items : List Item) : List Item := items.take Config.itemPlaces

/-- TRUNCATED: items were lost (R99). -/
def isTruncated (items : List Item) : Bool := decide (Config.itemPlaces < items.length)

/-- The entry of the attempt context's word. -/
def Vks.attemptEntry (v : Vks) : Option WordEntry := v.entry v.attempt.ctx.word

/-- The target letters of the attempt's word (R29, R34). -/
def Vks.target (v : Vks) : List Nat := match v.attemptEntry with | some e => e.letters | none => []

/-- The context of the attempt's own requests (R97). -/
def attemptExpansion (v : Vks) (position : Nat) (verdict : Option Verdict) : Expansion :=
  ⟨v.attemptEntry, v.attempt.ctx.buffer, position, verdict⟩

/-- The context of a SAY: the open attempt's, or none in IDLE and GAP (R97). -/
def sayExpansion (v : Vks) : Expansion :=
  ⟨if v.attempt.state.isOpen then v.attemptEntry else none, v.attempt.ctx.buffer,
    v.attempt.ctx.verdictPosition, v.attempt.ctx.verdict⟩

/-- The parts of a prompt (R23, R97): PROMPT when the prompt list holds an id, otherwise row PROMPT_DEFAULT. -/
def promptParts (v : Vks) : List Part :=
  match v.attemptEntry with
  | some e => if e.prompts = [] then v.row 15 else [.prompt]
  | none => v.row 15

end Sys2Proof.Machine
end

