-- ==== Sys2Proof/Machine/UtteranceQueue.lean ====
section
/-! DEFINITION. Making utterances, the main queue, the echo line, and cutting (R99 to R113). -/

namespace Sys2Proof.Machine

/-- The identity after one (R101): it wraps from 65535 to 1. -/
def nextIdentity (n : Nat) : Nat := if 65535 ≤ n then 1 else n + 1

/-- An utterance is made from all items of its expansion and takes the next identity (R99, R101). -/
def makeUtterance (source : Source) (tag : Byte) (items : List Item) (v : Vks) : Utterance × Vks :=
  ({ id := v.sched.nextId, source := source, tag := tag, items := keepItems items, playItem := 0, playSamples := 0
     truncated := isTruncated items, starved := false, faulted := false },
   { v with sched := { v.sched with nextId := nextIdentity v.sched.nextId } })

/-- An identity leaves the attempt's outstanding set (R22). -/
def forget (id : Nat) (v : Vks) : Vks :=
  { v with attempt := { v.attempt with ctx := { v.attempt.ctx with
      outstanding := v.attempt.ctx.outstanding.filter (fun x => x ≠ id) } } }

/-- An identity joins the attempt's outstanding set, in which each stands once (R20, R22). -/
def remember (id : Nat) (v : Vks) : Vks :=
  { v with attempt := { v.attempt with ctx := { v.attempt.ctx with
      outstanding := v.attempt.ctx.outstanding.filter (fun x => x ≠ id) ++ [id] } } }

/-- The UTTERANCE_DONE notice of a SAY's end (R103). -/
def doneNotice (u : Utterance) (o : UttOutcome) : Notice := .utteranceDone u.tag u.id o.code u.flags

/-- The queue with an engine utterance inserted directly behind the last waiting engine utterance (R104). -/
def insertEngine (u : Utterance) : List Utterance → List Utterance
  | [] => [u]
  | x :: xs => if (x :: xs).any (fun y => y.source ≠ .say) then x :: insertEngine u xs else u :: x :: xs

/-- The newest waiting SAY, nearest the tail, and the queue without it (R105). -/
def dropNewestSay : List Utterance → Option (Utterance × List Utterance)
  | [] => none
  | x :: xs =>
    match dropNewestSay xs with
    | some (s, xs') => some (s, x :: xs')
    | none => if x.source = .say then some (x, xs) else none

/-- The queue replaced. -/
def setQueue (q : List Utterance) (v : Vks) : Vks := { v with sched := { v.sched with queue := q } }

/-- The echo line replaced. -/
def setEchoLine (u : Option Utterance) (v : Vks) : Vks := { v with sched := { v.sched with echoLine := u } }

/-- The main voice is free, the queue is empty and admits a start: an arriving SAY is started at once (R106, R107). -/
def mainTakesAtOnce (v : Vks) : Bool :=
  decide (v.sched.queue = []) && decide (v.reader.mainVoice.state = .idle) && v.storeOpen

/-- The main voice is free, the queue admits a start, and no engine utterance stands ahead of an arriving one: it is started
at once, also where SAY utterances wait for a voice freed in this event (R104, R105). -/
def engineTakesAtOnce (v : Vks) : Bool :=
  v.sched.queue.all (fun y => decide (y.source = .say)) && decide (v.reader.mainVoice.state = .idle) && v.storeOpen

/-- An engine utterance arrives (R104, R105); `true` when it ends DROPPED as it arrives. -/
def placeEngine (u : Utterance) (v : Vks) : Vks × Bool :=
  if engineTakesAtOnce v then (startVoice .main u v, false)
  else if v.sched.queue.length < Config.queuePlaces then (setQueue (insertEngine u v.sched.queue) v, false)
  else match dropNewestSay v.sched.queue with
    | some (s, q) => (setQueue (insertEngine u q) (raiseNotice (doneNotice s .dropped) v), false)
    | none => (v, true)

/-- An echo whose item is a TONE is admitted in every store state, any other in USABLE and UNUSABLE (R108). -/
def admitsEcho (v : Vks) (u : Utterance) : Bool :=
  v.storeOpen || (match u.items with | [.tone _] => true | _ => false)

/-- The age of the echo on the echo voice (R109). -/
def echoAge (v : Vks) : Nat := match v.reader.echoVoice.utterance with | some u => u.playSamples | none => 0

/-- The cut floor in samples (R109). -/
def cutFloor (v : Vks) : Nat := v.params.echoCutFloor * 16

/-- The waiting echo ends DROPPED (R109). -/
def dropWaitingEcho (v : Vks) : Vks :=
  match v.sched.echoLine with
  | some w => setEchoLine none (forget w.id v)
  | none => v

/-- The echo on the echo voice ends CUT and the voice becomes IDLE (R109, R110). -/
def cutPlayingEcho (v : Vks) : Vks :=
  match v.reader.echoVoice.utterance with
  | some u => forget u.id (idleVoice .echo v)
  | none => idleVoice .echo v

/-- An echo arrives (R109). -/
def placeEcho (u : Utterance) (v : Vks) : Vks :=
  let v1 := dropWaitingEcho v
  match v1.reader.echoVoice.state with
  | .idle => if admitsEcho v1 u then startVoice .echo u v1 else setEchoLine (some u) v1
  | .playing =>
    if cutFloor v1 ≤ echoAge v1 ∧ admitsEcho v1 u then startVoice .echo u (cutPlayingEcho v1)
    else setEchoLine (some u) v1
  | .waitingAmp => setEchoLine (some u) v1

/-- A free main voice takes the head of the main queue (R107). -/
def startMainHead (v : Vks) : Vks :=
  if v.reader.mainVoice.state = .idle ∧ v.storeOpen then
    match v.sched.queue with
    | u :: q => startVoice .main u (setQueue q v)
    | [] => v
  else v

/-- A free echo voice takes the waiting echo (R110). -/
def startEchoHead (v : Vks) : Vks :=
  if v.reader.echoVoice.state = .idle then
    match v.sched.echoLine with
    | some u => if admitsEcho v u then startVoice .echo u (setEchoLine none v) else v
    | none => v
  else v

/-- Free voices take what waits for them (R107, R110). -/
def startHeads (v : Vks) : Vks := startEchoHead (startMainHead v)

/-- The waiting echo takes over from a playing echo whose age meets the floor (R110, R111). -/
def takeOverEcho (reached : Bool) (v : Vks) : Vks :=
  match v.sched.echoLine with
  | some w =>
    if v.reader.echoVoice.state = .playing ∧ reached ∧ admitsEcho v w then
      startVoice .echo w (setEchoLine none (cutPlayingEcho v))
    else v
  | none => v

/-- The playing echo's age equals the cut floor (R110). -/
def floorReached (v : Vks) : Bool := decide (echoAge v = cutFloor v)

/-- The playing echo's age is at or above the cut floor (R111). -/
def floorPassed (v : Vks) : Bool := decide (cutFloor v ≤ echoAge v)

/-- The utterance on a voice, as a list. -/
def onVoice (v : Vks) (i : VoiceId) : List Utterance := (v.voice i).utterance.toList

/-- Utterances with the given identities are stopped on the main voice or removed from the main queue (R113). -/
def cutNamed (ids : List Nat) (v : Vks) : Vks :=
  let v1 := setQueue (v.sched.queue.filter (fun u => u.id ∉ ids)) v
  if (onVoice v1 .main).any (fun u => u.id ∈ ids) then idleVoice .main v1 else v1

end Sys2Proof.Machine
end

