-- ==== Sys2Proof/Machine/Attempt.lean ====
section
/-! DEFINITION. The Attempt Controller (R20 to R52) and the lesson walk (R58): opening, keys, grading, closing, hints, and
the handling of utterance ends. -/

namespace Sys2Proof.Machine

/-- The attempt context replaced. -/
def setContext (c : Context) (v : Vks) : Vks := { v with attempt := { v.attempt with ctx := c } }

/-- The inactivity timer stops; it starts again from full when its conditions hold at the event's end (R42). -/
def stopInactivity (v : Vks) : Vks := { v with attempt := { v.attempt with inactivity := none } }

/-- The attempt state; leaving LISTENING stops the inactivity timer (R42). -/
def setAttemptState (st : AttemptState) (v : Vks) : Vks :=
  { v with attempt := { v.attempt with
      state := st
      inactivity := if st = .listening then v.attempt.inactivity else none } }

/-- What the attempt waits for. -/
def setAwaited (a : Option (AwaitKind × Nat)) (v : Vks) : Vks :=
  setContext { v.attempt.ctx with awaited := a } v

/-- R25: an ACCEPTED or REFUSED press clears nudged and re-arms the inactivity timer. -/
def rearm (v : Vks) : Vks := stopInactivity (setContext { v.attempt.ctx with nudged := false } v)

/-- R183: the CORRECT timer starts. -/
def startCorrect (v : Vks) : Vks := { v with notices := { v.notices with correct := some 1000 } }

/-- R183: the WRONG timer starts. -/
def startWrong (v : Vks) : Vks := { v with notices := { v.notices with wrong := some 1000 } }

/-- The gap timer stops (R59). -/
def stopGap (v : Vks) : Vks := { v with lesson := { v.lesson with gapTimer := none } }

/-! ### Requests for speech (R22, R26, R97) -/

/-- An engine utterance is requested (R22, R99): its identity, or `none` when it ended at once. -/
def requestEngine (source : Source) (parts : List Part) (x : Expansion) (v : Vks) : Vks × Option Nat :=
  let v0 := stopInactivity v
  let items := expandAll v0 x parts
  if items = [] then (v0, none)
  else
    let made := makeUtterance source 0#8 items v0
    let placed := placeEngine made.1 (remember made.1.id made.2)
    if placed.2 then (forget made.1.id placed.1, none) else (placed.1, some made.1.id)

/-- An echo is requested (R26, R108): a CLICK whatever was asked for while the store is claimed. -/
def requestEcho (item : Item) (v : Vks) : Vks :=
  let item' := if v.storeLink then .tone .click else item
  let made := makeUtterance .echo 0#8 [item'] (stopInactivity v)
  placeEcho made.1 (remember made.1.id made.2)

/-- The letter echo (R26); with style NONE there is none. -/
def letterEcho (style : EchoStyle) (c : Nat) (v : Vks) : Vks :=
  match style with
  | .name => requestEcho (nameItem v c) v
  | .sound => requestEcho (soundItem v c) v
  | .none => v

/-- The prompt is enqueued and awaited, and the state is PROMPTING; `true` when the prompt ended at once (R23). -/
def requestPrompt (v : Vks) : Vks × Bool :=
  let r := requestEngine .prompt (promptParts v) (attemptExpansion v 0 none) v
  (setAwaited (r.2.map (fun id => (.prompt, id))) (setAttemptState .prompting r.1), r.2.isNone)

/-! ### Opening (R23) and the lesson walk (R58) -/

/-- The context of an attempt opened at a word (R23). -/
def openedContext (w : Nat) (e : WordEntry) (origin : Origin) (mode : Option CheckMode) : Context :=
  { Context.cleared with
    word := w
    settings := { e.settings with checkMode := mode.getD e.settings.checkMode }
    tryNumber := 1
    origin := origin }

/-- The ATTEMPT_OPENED notice of the open attempt (R23, R49, R179). -/
def openedNotice (c : Context) : Notice :=
  .attemptOpened c.word c.origin.code c.settings.checkMode.code c.tryNumber c.buffer.length c.origin.retries

/-- The prompt, the notice, and LISTENING when the prompt ended at once (R23, R49). -/
def beginPrompting (v : Vks) : Vks :=
  let r := requestPrompt v
  let v' := raiseNotice (openedNotice r.1.attempt.ctx) r.1
  if r.2 then setAttemptState .listening v' else v'

/-- An attempt opens at a valid word (R23); an invalid word opens nothing. -/
def openAttempt (w : Nat) (origin : Origin) (mode : Option CheckMode) (v : Vks) : Vks :=
  match v.entry w with
  | some e => beginPrompting (setContext (openedContext w e origin mode) (stopGap v))
  | none => v

/-- The walk's search (R58): the first entry that names a valid word, the entries behind it, and how many were discarded. -/
def walkTo (v : Vks) : List LessonEntry → Nat → Option LessonEntry × List LessonEntry × Nat
  | [], n => (none, [], n)
  | e :: t, n => if (v.entry e.word).isSome then (some e, t, n) else walkTo v t (n + 1)

/-- The unit takes the next word (R58). -/
def lessonWalk (v : Vks) : Vks :=
  match walkTo v v.lesson.entries 0 with
  | (some e, rest, _) =>
    openAttempt e.word (.lesson e.retries) none { v with lesson := { v.lesson with entries := rest, gapTimer := none } }
  | (none, rest, n) =>
    raiseNotice (.lessonEmpty n)
      (setAttemptState .idle { v with lesson := { v.lesson with entries := rest, auto := false, gapTimer := none } })

/-! ### Utterance ends (R22, R35) -/

/-- The end of the closing response (R22): GAP or IDLE by lesson auto mode; a gap of 0 expires at once (R45, R59). -/
def closingEnded (v : Vks) : Vks :=
  let v1 := setContext { v.attempt.ctx with awaited := none, outstanding := [] } v
  if v1.lesson.auto then
    let v2 := setAttemptState .gap v1
    if v2.params.interWordGap = 0 then lessonWalk v2
    else { v2 with lesson := { v2.lesson with gapTimer := some v2.params.interWordGap } }
  else setAttemptState .idle v1

/-- The end of the try response: the next try begins (R35). -/
def tryEnded (v : Vks) : Vks :=
  setAttemptState .listening
    (setContext { v.attempt.ctx with
      buffer := [], tryNumber := v.attempt.ctx.tryNumber + 1, hintStage := 0, hintPosition := 0, awaited := none } v)

/-- The step an awaited utterance was awaited for (R22). -/
def awaitedStep (k : AwaitKind) (v : Vks) : Vks :=
  match k with
  | .prompt => setAttemptState .listening v
  | .tryResponse => tryEnded v
  | .closing => closingEnded v

/-- An end report (R22): disregarded for an identity that is not outstanding. -/
def endReport (id : Nat) (v : Vks) : Vks :=
  if id ∈ v.attempt.ctx.outstanding then
    let v1 := forget id v
    match v1.attempt.ctx.awaited with
    | some (k, a) => if a = id then awaitedStep k (setAwaited none v1) else v1
    | none => v1
  else v

/-- The end of an utterance is reported to its owner (R103). -/
def reportEnd (o : UttOutcome) (v : Vks) (u : Utterance) : Vks :=
  if u.source = .say then raiseNotice (doneNotice u o) v else endReport u.id v

/-- Several ends with one outcome, in the order given (R103). -/
def reportEnds (o : UttOutcome) (us : List Utterance) (v : Vks) : Vks := us.foldl (reportEnd o) v

/-- Both voices are stopped; the utterances they held, main first (R103, R136, R143). -/
def stopVoices (v : Vks) : List Utterance × Vks :=
  (onVoice v .main ++ onVoice v .echo, idleVoice .echo (idleVoice .main v))

/-! ### Closing (R36, R37) and tries (R35) -/

/-- The ATTEMPT_CLOSED notice (R37, R46, R179). -/
def closedNotice (c : Context) : Notice :=
  .attemptClosed c.word (verdictCode c.verdict) c.tryNumber c.hintsUsed c.mistakes c.verdictPosition

/-- A close other than CANCELLED (R37). -/
def closeAttempt (verdict : Verdict) (p : Nat) (v : Vks) : Vks :=
  let cls := closeClass verdict v.attempt.ctx
  let v1 := setContext { v.attempt.ctx with verdict := some verdict, verdictPosition := p, closed := true } v
  let r := requestEngine .response (v1.row (closeRow verdict cls)) (attemptExpansion v1 p (some verdict)) v1
  let v2 := setAwaited (r.2.map (fun id => (.closing, id))) r.1
  let v3 := raiseNotice (closedNotice v2.attempt.ctx) v2
  let v4 := countClose v3.attempt.ctx.word verdict cls v3.attempt.ctx.origin v3
  let v5 := setAttemptState .responding v4
  let v6 := if verdict = .exact then startCorrect v5 else startWrong v5
  if r.2.isNone then closingEnded v6 else v6

/-- A failed try (R35). -/
def failTry (verdict : Verdict) (p : Nat) (v : Vks) : Vks :=
  let r := requestEngine .response (v.row (tryRow verdict)) (attemptExpansion v p (some verdict)) v
  let v1 := setAwaited (r.2.map (fun id => (.tryResponse, id))) r.1
  let v2 := raiseNotice (.tryFailed v1.attempt.ctx.word verdict.code v1.attempt.ctx.tryNumber p) v1
  let v3 := setAttemptState .responding (startWrong v2)
  if r.2.isNone then tryEnded v3 else v3

/-- A graded try ends by R35 or R36. -/
def endTry (verdict : Verdict) (p : Nat) (v : Vks) : Vks :=
  let v1 := setContext { v.attempt.ctx with verdict := some verdict, verdictPosition := p } v
  if verdict ≠ .exact ∧ v1.attempt.ctx.tryNumber < v1.attempt.ctx.settings.tries then failTry verdict p v1
  else closeAttempt verdict p v1

/-! ### Keys in LISTENING (R29 to R33, R38 to R41) -/

/-- A matching letter in immediate mode is appended and echoed, and may complete the word (R29, R39). -/
def enterMatch (style : EchoStyle) (c : Nat) (v : Vks) : Vks :=
  let v1 := letterEcho style c (setContext { v.attempt.ctx with
    buffer := v.attempt.ctx.buffer ++ [c], hintStage := 0 } v)
  if v1.attempt.ctx.buffer.length = v1.target.length then closeAttempt .exact 0 v1 else v1

/-- A wrong letter in immediate mode (R30). -/
def enterMistake (v : Vks) : Vks :=
  let p := v.attempt.ctx.buffer.length + 1
  let v1 := startWrong (setContext { v.attempt.ctx with mistakes := v.attempt.ctx.mistakes + 1 } v)
  if v1.attempt.ctx.mistakes < v1.attempt.ctx.settings.mistakeLimit then
    (requestEngine .response (v1.row 12) (attemptExpansion v1 p none) v1).1
  else closeAttempt .wrong p v1

/-- The buffer's capacity in deferred mode (R31). -/
def bufferCapacity (n : Nat) : Nat := min (n + 2) 18

/-- A LETTER in LISTENING (R29, R30, R31). -/
def takeLetter (c : Nat) (v : Vks) : Vks × Disposition :=
  let v0 := rearm v
  match v.attempt.ctx.settings.checkMode with
  | .immediate =>
    if letterAt v.target (v.attempt.ctx.buffer.length + 1) = some c then
      (enterMatch v.attempt.ctx.settings.echoStyle c v0, .accepted)
    else (enterMistake v0, .refused)
  | .deferred =>
    if v.attempt.ctx.buffer.length < bufferCapacity v.target.length then
      (letterEcho v.attempt.ctx.settings.echoStyle c
        (setContext { v0.attempt.ctx with buffer := v0.attempt.ctx.buffer ++ [c] } v0), .accepted)
    else (requestEcho (.tone .buzz) v0, .refused)

/-- An ERASE in LISTENING (R32). -/
def takeErase (v : Vks) : Vks × Disposition :=
  if v.attempt.ctx.settings.checkMode = .deferred ∧ v.attempt.ctx.buffer ≠ [] then
    let v0 := rearm v
    (requestEcho (.tone .click)
      (setContext { v0.attempt.ctx with buffer := v0.attempt.ctx.buffer.dropLast } v0), .accepted)
  else (v, .ignored)

/-- A SUBMIT in LISTENING (R33). -/
def takeSubmit (v : Vks) : Vks × Disposition :=
  if v.attempt.ctx.settings.checkMode = .deferred ∧ v.attempt.ctx.buffer ≠ [] then
    let g := grade v.attempt.ctx.buffer v.target
    (endTry g.1 g.2 (rearm v), .accepted)
  else (v, .ignored)

/-- A REPEAT in LISTENING (R28). -/
def takeRepeat (v : Vks) : Vks × Disposition :=
  let r := requestPrompt (rearm v)
  (if r.2 then setAttemptState .listening r.1 else r.1, .accepted)

/-- The part of a hint utterance (R39, R40). -/
def hintPart (stage position : Nat) : Part :=
  if position = 0 then .word
  else if stage = 1 then .letterSoundAt
  else if stage = 2 then .letterNameAt
  else .spellTarget

/-- The echo style of a letter entered by a hint (R39). -/
def hintEchoStyle : EchoStyle → EchoStyle
  | .none => .name
  | s => s

/-- A HINT in LISTENING (R38 to R41). -/
def takeHint (v : Vks) : Vks × Disposition :=
  let p := hintPosition v.attempt.ctx.buffer v.target
  let v0 := rearm v
  let c := v0.attempt.ctx
  let stage := if p = c.hintPosition then c.hintStage else 0
  if stage < c.settings.hintLimit then
    let v1 := setContext { c with
      hintPosition := p, hintStage := stage + 1, hintsUsed := satSucc 255 c.hintsUsed } v0
    if p ≠ 0 ∧ 3 ≤ stage + 1 ∧ c.settings.checkMode = .immediate then
      (match letterAt v.target p with
       | some t => (enterMatch (hintEchoStyle c.settings.echoStyle) t v1, .accepted)
       | none => (v1, .accepted))
    else ((requestEngine .hint [hintPart (stage + 1) p] (attemptExpansion v1 p none) v1).1, .accepted)
  else
    (requestEcho (.tone .click) (setContext { c with hintPosition := p, hintStage := stage } v0), .refused)

/-- The prompt is cut by barge-in: it is stopped or removed and no longer awaited, and the state is LISTENING (R27, R113). -/
def bargeIn (v : Vks) : Vks :=
  match v.attempt.ctx.awaited with
  | some (_, id) =>
    startHeads (forget id (cutNamed [id] (setAttemptState .listening (setAwaited none v))))
  | none => setAttemptState .listening v

/-- A press handed to the controller is handled in its state (R25). -/
def handlePress (cls : KeyClass) (letter : Nat) (v : Vks) : Vks × Disposition :=
  match v.attempt.state with
  | .prompting =>
    if cls = .letter ∧ v.attempt.ctx.settings.barge then takeLetter letter (bargeIn v) else (v, .ignored)
  | .listening =>
    (match cls with
     | .letter => takeLetter letter v
     | .erase => takeErase v
     | .submit => takeSubmit v
     | .hint => takeHint v
     | .repeatPrompt => takeRepeat v
     | .none => (v, .ignored)
     | .pass => (v, .ignored))
  | .responding => (v, .ignored)
  | .gap => (v, .ignored)
  | .idle => (v, .ignored)

/-- The inactivity timer's expiry (R43): nudge, or abandon with nudged set. -/
def inactivityExpires (v : Vks) : Vks :=
  if v.attempt.ctx.nudged then closeAttempt .abandoned 0 v
  else
    let v1 := setContext { v.attempt.ctx with nudged := true } v
    (requestEngine .hint (v1.row 14)
      (attemptExpansion v1 (hintPosition v1.attempt.ctx.buffer v1.target) none) v1).1

end Sys2Proof.Machine
end

