-- ==== Sys2Proof/Machine/Settle.lean ====
section
/-! DEFINITION. What follows an event wherever its conditions come to hold: free voices start what waits (R107, R110),
readings and the arbiter go on (R127, R129), the inactivity timer (R42), ATTN (R181), the blink phases (R184) and the
sleep timer (R191). -/

namespace Sys2Proof.Machine

/-- R127, R129: both readings go on, the main voice's first (log 34), after all else the event does (log 41), and an IDLE engine
starts a read. -/
def settleReads (v : Vks) : Vks := startRead (readAhead .echo (readAhead .main v))

/-- R42: the inactivity timer counts while its conditions hold, from the full limit whenever counting starts. -/
def settleInactivity (v : Vks) : Vks :=
  { v with attempt := { v.attempt with
      inactivity :=
        if inactivityCounts v then
          (match v.attempt.inactivity with
           | some left => some left
           | none => some (v.params.inactivity * 1000))
        else none } }

/-- R181: a fall of ATTN starts the gap timer; a gap of 0 ms is over at once. -/
def dropAttn (v : Vks) : Vks :=
  if v.notices.attn then
    { v with notices := { v.notices with
        attn := false, attnGap := if v.params.attnGap = 0 then none else some v.params.attnGap } }
  else v

/-- R181: ATTN with LNK_SEL released. -/
def settleAttn (v : Vks) : Vks :=
  if v.port.txn.isSome then v
  else if v.attnReason then
    (if v.notices.attnGap.isNone then { v with notices := { v.notices with attn := true } } else v)
  else dropAttn v

/-- R184: the blink phase of lamp `k` begins where its condition comes to hold and is abandoned where it does not. -/
def settledBlink (v : Vks) (k : Nat) : Option BlinkPhase :=
  if !v.power.asleep && (v.lamp k).blink && v.lampCondition (v.lamp k).mode then
    (match v.blinkPhase k with
     | some p => some p
     | none => some ⟨true, 500⟩)
  else none

/-- R184 for the three lamps. -/
def settleLamps (v : Vks) : Vks :=
  { v with notices := { v.notices with blink := [settledBlink v 0, settledBlink v 1, settledBlink v 2] } }

/-- R191: the sleep timer counts while its conditions hold, from the full SLEEP_AFTER whenever counting starts. -/
def settleSleepTimer (v : Vks) : Vks :=
  { v with power := { v.power with
      sleepTimer :=
        if sleepTimerRuns v then
          (match v.power.sleepTimer with
           | some left => some left
           | none => some (v.params.sleepAfter * 1000))
        else none } }

/-- R191: the sleep timer returns to the full length. -/
def restartSleepTimer (v : Vks) : Vks := { v with power := { v.power with sleepTimer := none } }

/-- The end of an event. -/
def settle (v : Vks) : Vks :=
  settleSleepTimer (settleLamps (settleAttn (settleInactivity (settleReads (startHeads v)))))

/-! ### Sleep and wake (R190, R193) -/

/-- The envelope OPEN at the host level with hold count 0 (R159). -/
def openEnvelope (v : Vks) : Vks :=
  { v with mixer := { v.mixer with hostGain := v.params.hostLevel, envelope := .opened, holdCount := 0 } }

/-- Both clip window marks clear and a new window (R155). -/
def newClipWindow (v : Vks) : Vks :=
  { v with mixer := { v.mixer with clipCurrent := false, clipLast := false, windowCount := 0 } }

/-- Entry to SLEEP (R190). -/
def enterSleep (v : Vks) : Vks :=
  let v1 := newClipWindow (openEnvelope (ampGoesOff v))
  { v1 with
    mixer := { v1.mixer with output := 0, i2s := I2s.stopped }
    notices := { v1.notices with correct := none, wrong := none, blink := [none, none, none] }
    power := { v1.power with asleep := true, sleepTimer := none } }

/-- A wake with its cause, 1 KEY or 2 LINK (R193); the I2S output restarts with frames of 0 (R161). -/
def wake (cause : Nat) (v : Vks) : Vks :=
  testPlayout (restartSleepTimer (newClipWindow (raiseNotice (.wake cause)
    { v with power := { v.power with asleep := false }, mixer := { v.mixer with i2s := I2s.frame 0 } })))

/-- A transaction, or a bare slot row, that finds the part asleep wakes it with cause LINK (R147, R193; log 6). -/
def wakeByLink (v : Vks) : Vks := if v.power.asleep then settle (wake 2 v) else v

end Sys2Proof.Machine
end

