-- ==== Sys2Proof/Machine/Requests.lean ====
section
/-! DEFINITION. How a CONTROL slot is taken (R165, R171), and how a command acts on the part alone. -/

namespace Sys2Proof.Machine

/-- An owner's handling of a request: the part after it, and its answer. -/
abbrev Handler := List Byte → Vks → Vks × Answer

/-- A CONTROL slot in a part that is awake: an argument above 58 bytes discards the slot (R164 cause 4, log 7); otherwise
the owner handles it and its answer becomes the pending reply (R165). -/
def serve (code tag : Byte) (arg : List Byte) (h : Handler) (v : Vks) : Vks :=
  if 58 < arg.length then discardSlot 4 v
  else
    let r := h arg v
    setReply code tag r.2 r.1

/-- A taken CONTROL slot; one that finds the part asleep wakes it first (R193, log 6). -/
def takeControl (code tag : Byte) (arg : List Byte) (h : Handler) (v : Vks) : Vks :=
  serve code tag arg h (wakeByLink v)

/-- A command that acts on the part alone. -/
def onPart (f : Vks → Vks) (s : State) : StepOutcome := .next { s with vks := f s.vks }

/-- A request with an empty argument: any other length is BAD_ARGS cause 1. -/
def withoutArgument (f : Vks → Vks × Answer) : Handler := fun arg v =>
  if arg ≠ [] then (v, answerBadArgs 1) else f v

/-- A request whose argument passes its checks, the first failing one giving the cause (R171, log 10). -/
def checked (checks : List (Bool × Nat)) (v : Vks) (f : Vks × Answer) : Vks × Answer :=
  match firstCause checks with
  | some c => (v, answerBadArgs c)
  | none => f

end Sys2Proof.Machine
end

