-- ==== Sys2Proof/Machine/AttemptRequests.lean ====
section
/-! DEFINITION. The attempt requests (R24, R46 to R50). -/

namespace Sys2Proof.Machine

/-- BUSY with the attempt state code (R24, R47, R49). -/
def busyAttempt (v : Vks) : Vks × Answer := (v, answerRefused .busy (leBytes 1 v.attempt.state.code))

/-- NO_ATTEMPT (R46, R47, R49). -/
def noAttempt (v : Vks) : Vks × Answer := (v, answerRefused .noAttempt [])

/-- The check-mode override of ATTEMPT OPEN (R24). -/
def modeOverride (arg : List Byte) : Option CheckMode :=
  match byteAt arg 2 with
  | 1 => some .immediate
  | 2 => some .deferred
  | _ => none

/-- R24: the checks of an ATTEMPT OPEN argument. -/
def attemptOpenChecks (arg : List Byte) (v : Vks) : List (Bool × Nat) :=
  [ (decide (arg.length ≠ 2) && decide (arg.length ≠ 3), 1),
    (decide (Config.words ≤ fieldAt arg 0 2), 2),
    (decide (2 < byteAt arg 2), 7),
    ((v.entry (fieldAt arg 0 2)).isNone, 10) ]

/-- ATTEMPT OPEN (R24). -/
def handleAttemptOpen : Handler := fun arg v =>
  checked (attemptOpenChecks arg v) v
    (if v.attempt.state.isOpen then busyAttempt v
     else
       let v1 := openAttempt (fieldAt arg 0 2) .command (modeOverride arg) v
       (settle v1, answerOk (leBytes 1 v1.attempt.ctx.settings.checkMode.code ++ leBytes 1 v1.target.length
         ++ leBytes 1 v1.attempt.state.code)))

/-- Lesson auto mode. -/
def setAuto (b : Bool) (v : Vks) : Vks := { v with lesson := { v.lesson with auto := b } }

/-- The engine utterances on the main voice and in the main queue that the attempt has outstanding (R46, R113). -/
def outstandingEngine (v : Vks) : List Nat :=
  ((onVoice v .main ++ v.sched.queue).filter
    (fun u => u.source ≠ .say ∧ u.source ≠ .echo ∧ u.id ∈ v.attempt.ctx.outstanding)).map Utterance.id

/-- Nothing is awaited or outstanding any more (R47). DESIGN CHOICE: that ATTEMPT CANCEL leaves it so in both its cases; R46
empties the outstanding set of an open attempt and has the ends disregarded, and says nothing of what is awaited (log 37). -/
def releaseUtterances (v : Vks) : Vks := setContext { v.attempt.ctx with awaited := none, outstanding := [] } v

/-- R46, first bullet: the open attempt closes CANCELLED; its engine utterances and the waiting echo go. -/
def cancelOpen (v : Vks) : Vks :=
  let v1 := setEchoLine none (cutNamed (outstandingEngine v) v)
  let v2 := releaseUtterances v1
  let v3 := setContext { v2.attempt.ctx with verdict := some .cancelled, verdictPosition := 0, closed := true } v2
  raiseNotice (closedNotice v3.attempt.ctx) v3

/-- R46, second bullet: the closing response goes; the recorded verdict stands. -/
def cancelClosing (v : Vks) : Vks :=
  releaseUtterances (match v.attempt.ctx.awaited with | some (_, id) => cutNamed [id] v | none => v)

/-- The attempt was still open when ATTEMPT CANCEL was taken, so the request closes it (R46). -/
def cancelCloses (v : Vks) : Bool := v.attempt.state.isOpen && !(decide (v.attempt.state = .responding) && v.attempt.ctx.closed)

/-- ATTEMPT CANCEL (R46). -/
def handleAttemptCancel : Handler := withoutArgument fun v =>
  if v.attempt.state = .idle then noAttempt v
  else
    let v1 := setAuto false v
    let v2 := if cancelCloses v then cancelOpen v1
      else if v.attempt.state = .gap then stopGap v1 else cancelClosing v1
    (settle (startHeads (setAttemptState .idle v2)),
     answerOk (leBytes 1 v.attempt.state.code ++ [flagByte (cancelCloses v)]))

/-- The context that goes to the shelf (R47). -/
def shelvedContext (c : Context) : Context := { c with nudged := false, awaited := none, outstanding := [] }

/-- R48: a context already on the shelf is discarded with SHELF_LOST. -/
def discardShelf (v : Vks) : Vks :=
  match v.attempt.shelf with
  | some c => raiseNotice (.shelfLost c.word) v
  | none => v

/-- ATTEMPT SHELVE (R47, R48). -/
def handleAttemptShelve : Handler := withoutArgument fun v =>
  match v.attempt.state with
  | .responding => busyAttempt v
  | .idle => noAttempt v
  | .gap => noAttempt v
  | _ =>
    let kept := shelvedContext v.attempt.ctx
    let v1 := setContext kept (cutNamed (outstandingEngine v) (discardShelf v))
    let v2 := setAttemptState .idle { v1 with attempt := { v1.attempt with shelf := some kept } }
    (settle (startHeads (setAuto false v2)),
     answerOk ([flagByte v.attempt.shelf.isSome, 0#8]
       ++ leBytes 2 (match v.attempt.shelf with | some c => c.word | none => 0)))

/-- The context that comes back from the shelf (R49). -/
def unshelvedContext (c : Context) : Context := { c with origin := .shelf, nudged := false, closed := false }

/-- ATTEMPT UNSHELVE (R49). -/
def handleAttemptUnshelve : Handler := withoutArgument fun v =>
  if v.attempt.state.isOpen then busyAttempt v
  else match v.attempt.shelf with
    | none => noAttempt v
    | some c =>
      let v1 := stopGap { v with attempt := { v.attempt with ctx := unshelvedContext c, shelf := none } }
      let v2 := beginPrompting v1
      (settle v2, answerOk (leBytes 2 c.word ++ leBytes 1 v2.attempt.state.code))

/-- The inactivity time left in units of 100 ms, rounded up (R50). -/
def inactivityUnits (v : Vks) : Nat := match v.attempt.inactivity with | some ms => (ms + 99) / 100 | none => 0

/-- The ATTEMPT GET bulk (R50). -/
def attemptBulk (v : Vks) : List Byte :=
  let c := v.attempt.ctx
  leBytes 2 c.word ++ leBytes 1 v.attempt.state.code
    ++ leBytes 1 (c.settings.checkMode.bit + (if c.settings.barge then 2 else 0) + 4 * c.settings.echoStyle.code
        + (if c.nudged then 16 else 0) + (if c.closed then 32 else 0) + 64 * c.origin.code)
    ++ leBytes 1 c.settings.tries ++ leBytes 1 c.tryNumber ++ leBytes 1 c.settings.mistakeLimit ++ leBytes 1 c.mistakes
    ++ leBytes 1 c.settings.hintLimit ++ leBytes 1 c.hintsUsed ++ leBytes 1 c.hintStage ++ leBytes 1 c.hintPosition
    ++ leBytes 1 c.origin.retries ++ leBytes 1 (verdictCode c.verdict) ++ leBytes 1 c.verdictPosition
    ++ leBytes 1 c.outstanding.length ++ leBytes 1 (awaitedCode c.awaited) ++ leBytes 2 (inactivityUnits v)
    ++ leBytes 1 c.buffer.length ++ padTo 18 (c.buffer.flatMap (leBytes 1))
    ++ (match v.attempt.shelf with
        | some k => [1#8] ++ leBytes 2 k.word ++ leBytes 1 k.tryNumber ++ leBytes 1 k.buffer.length
            ++ leBytes 1 k.hintsUsed ++ leBytes 1 k.mistakes
        | none => leBytes 7 0)

/-- ATTEMPT GET (R50). -/
def handleAttemptGet : Handler := withoutArgument fun v =>
  (v, answerOk (leBytes 1 v.attempt.state.code) (attemptBulk v))

/-! ### The slots and the commands -/

def attemptOpenSlot (tag : Byte) (arg : List Byte) : Vks → Vks := takeControl 0x20#8 tag arg handleAttemptOpen
def attemptCancelSlot (tag : Byte) (arg : List Byte) : Vks → Vks := takeControl 0x21#8 tag arg handleAttemptCancel
def attemptShelveSlot (tag : Byte) (arg : List Byte) : Vks → Vks := takeControl 0x22#8 tag arg handleAttemptShelve
def attemptUnshelveSlot (tag : Byte) (arg : List Byte) : Vks → Vks := takeControl 0x23#8 tag arg handleAttemptUnshelve
def attemptGetSlot (tag : Byte) (arg : List Byte) : Vks → Vks := takeControl 0x24#8 tag arg handleAttemptGet

/-- ATTEMPT_OPEN (R24). -/
def execAttemptOpen (tag : Byte) (arg : List Byte) (s : State) : StepOutcome := onPart (attemptOpenSlot tag arg) s
/-- ATTEMPT_CANCEL (R46). -/
def execAttemptCancel (tag : Byte) (arg : List Byte) (s : State) : StepOutcome := onPart (attemptCancelSlot tag arg) s
/-- ATTEMPT_SHELVE (R47). -/
def execAttemptShelve (tag : Byte) (arg : List Byte) (s : State) : StepOutcome := onPart (attemptShelveSlot tag arg) s
/-- ATTEMPT_UNSHELVE (R49). -/
def execAttemptUnshelve (tag : Byte) (arg : List Byte) (s : State) : StepOutcome := onPart (attemptUnshelveSlot tag arg) s
/-- ATTEMPT_GET (R50). -/
def execAttemptGet (tag : Byte) (arg : List Byte) (s : State) : StepOutcome := onPart (attemptGetSlot tag arg) s

end Sys2Proof.Machine
end

