-- ==== Sys2Proof/Machine/WordRequests.lean ====
section
/-! DEFINITION. The word and alphabet requests (R9 to R15). -/

namespace Sys2Proof.Machine

/-- R9: the checks of a WORD PUT argument. -/
def wordPutChecks (arg : List Byte) : List (Bool × Nat) :=
  [ (decide (arg.length < 10) || decide (arg.length ≠ 10 + byteAt arg 8 + 2 * byteAt arg 9), 1),
    (decide (Config.words ≤ fieldAt arg 0 2), 2),
    (decide (byteAt arg 8 < 1) || decide (16 < byteAt arg 8), 3),
    (decide (4 < byteAt arg 9), 5),
    ((wordEntryOf arg).letters.any badLetter, 4),
    (badSegmentField (fieldAt arg 6 2), 6),
    ((wordEntryOf arg).prompts.any badSegmentId, 6),
    (decide (byteAt arg 2 / 8 % 4 = 3), 7) ]

/-- The pool check (R5): the entry a request would give a word, or TABLE_FULL. -/
def withPool (w : Nat) (e : WordEntry) (v : Vks) (f : Vks × Answer) : Vks × Answer :=
  let available := v.words.freeItems + entryItems (v.entry w)
  if e.items ≤ available then f
  else (v, answerRefused .tableFull (leBytes 2 e.items ++ leBytes 2 available))

/-- WORD PUT (R9, R10). -/
def handleWordPut : Handler := fun arg v =>
  checked (wordPutChecks arg) v
    (let w := fieldAt arg 0 2
     let e := wordEntryOf arg
     if wordHolder w v ≠ 0 then (v, answerRefused .inUse (leBytes 1 (wordHolder w v)))
     else withPool w e v
       (let v1 := setEntry w (some e) v
        (if bitOf (byteAt arg 2) 0 then clearProgress w v1 else v1,
         answerOk (leBytes 1 e.settings.tries ++ leBytes 1 e.settings.mistakeLimit ++ leBytes 1 e.settings.hintLimit
           ++ leBytes 1 (wordClampMark arg)))))

/-- R11: the checks of a WORD SOUNDS argument. -/
def wordSoundsChecks (arg : List Byte) (v : Vks) : List (Bool × Nat) :=
  [ (decide (arg.length < 3) || decide (arg.length ≠ 3 + 2 * byteAt arg 2), 1),
    (decide (Config.words ≤ fieldAt arg 0 2), 2),
    ((v.entry (fieldAt arg 0 2)).isNone, 8),
    (match v.entry (fieldAt arg 0 2) with | some e => decide (byteAt arg 2 ≠ e.letters.length) | none => false, 9),
    ((fieldsAt arg 3 (byteAt arg 2)).any (fun x => badSegmentId x && decide (x ≠ 0xFFFE)), 6) ]

/-- WORD SOUNDS (R11). -/
def handleWordSounds : Handler := fun arg v =>
  checked (wordSoundsChecks arg v) v
    (match v.entry (fieldAt arg 0 2) with
     | none => (v, answerBadArgs 8)
     | some old =>
       let w := fieldAt arg 0 2
       let e := { old with overrides := some ((fieldsAt arg 3 (byteAt arg 2)).map overrideOf) }
       if wordHolder w v ≠ 0 then (v, answerRefused .inUse (leBytes 1 (wordHolder w v)))
       else withPool w e v
         (let v1 := setEntry w (some e) v
          (v1, answerOk (leBytes 2 v1.words.freeItems ++ leBytes 1 e.letters.length))))

/-- WORD DROP (R12). -/
def handleWordDrop : Handler := fun arg v =>
  checked [(decide (arg.length ≠ 2), 1), (decide (Config.words ≤ fieldAt arg 0 2), 2)] v
    (let w := fieldAt arg 0 2
     if wordHolder w v ≠ 0 then (v, answerRefused .inUse (leBytes 1 (wordHolder w v)))
     else
       let v1 := clearProgress w (setEntry w none v)
       (v1, answerOk ([flagByte (v.entry w).isSome, 0#8] ++ leBytes 2 v1.words.freeItems)))

/-- The WORD GET bulk for part 0 (01 section 1.5). -/
def wordBulk (w : Nat) (v : Vks) : List Byte :=
  match v.entry w with
  | some e =>
    leBytes 2 w ++ leBytes 1 (wordOptions e) ++ leBytes 1 e.settings.tries ++ leBytes 1 e.settings.mistakeLimit
      ++ leBytes 1 e.settings.hintLimit ++ leBytes 2 (segmentField e.wordSegment) ++ leBytes 1 e.letters.length
      ++ leBytes 1 e.prompts.length ++ e.letters.flatMap (leBytes 1) ++ e.prompts.flatMap (leBytes 2)
      ++ leBytes 2 e.items ++ leBytes 2 v.words.freeItems
  | none => leBytes 2 w ++ leBytes 4 0 ++ leBytes 2 0xFFFF ++ leBytes 4 0 ++ leBytes 2 v.words.freeItems

/-- The WORD GET bulk for part 1, the override list (R13). -/
def overrideBulk (w : Nat) (v : Vks) : List Byte :=
  let items := match v.entry w with | some e => e.overrides.getD [] | none => []
  leBytes 2 w ++ leBytes 1 items.length ++ items.flatMap (fun x => leBytes 2 (overrideField x))

/-- WORD GET (R13). -/
def handleWordGet : Handler := fun arg v =>
  checked [(decide (arg.length ≠ 3), 1), (decide (Config.words ≤ fieldAt arg 0 2), 2), (decide (1 < byteAt arg 2), 7)] v
    (let w := fieldAt arg 0 2
     let n := match v.entry w with | some e => e.letters.length | none => 0
     (v, answerOk ([flagByte (v.entry w).isSome] ++ leBytes 1 n ++ leBytes 2 v.words.freeItems)
       (if byteAt arg 2 = 0 then wordBulk w v else overrideBulk w v)))

/-- R14: the checks of an ALPHABET PUT argument. -/
def alphabetChecks (arg : List Byte) : List (Bool × Nat) :=
  [ (decide (arg.length < 1) || decide (arg.length ≠ 1 + 6 * byteAt arg 0), 1),
    (decide (byteAt arg 0 < 1) || decide (9 < byteAt arg 0), 3),
    ((alphabetItems arg).any (fun x => badLetter x.code), 4),
    ((alphabetItems arg).any (fun x => !(x.hasName || x.hasSound)), 7),
    ((alphabetItems arg).any (fun x => (x.hasName && badSegmentField x.name) || (x.hasSound && badSegmentField x.sound)), 6) ]

/-- One alphabet item written (R14). -/
def writeLetter (v : Vks) (x : AlphabetItem) : Vks :=
  let old := v.letter x.code
  let new : Letter :=
    ⟨if x.hasName then segmentOf x.name else old.name, if x.hasSound then segmentOf x.sound else old.sound⟩
  { v with words := { v.words with alphabet := writeAt v.words.alphabet (x.code - 1) new } }

/-- ALPHABET PUT (R14). -/
def handleAlphabetPut : Handler := fun arg v =>
  checked (alphabetChecks arg) v ((alphabetItems arg).foldl writeLetter v, answerOk (leBytes 1 (byteAt arg 0)))

/-- R171: the checks every TABLE GET shares, before the start's own. -/
def tableGetChecks (arg : List Byte) (badStart : Bool) : List (Bool × Nat) :=
  [(decide (arg.length ≠ 2), 1), (decide (2 < byteAt arg 0), 7), (badStart, 14)]

/-- The reply of a TABLE GET (R15, R83, R96). -/
def tableGetAnswer (selector start entries : Nat) (bulk : List Byte) : Answer :=
  answerOk (leBytes 1 selector ++ leBytes 1 start ++ leBytes 1 entries) bulk

/-- The 4-byte form of an alphabet entry (R15). -/
def Letter.bytes (l : Letter) : List Byte := leBytes 2 (segmentField l.name) ++ leBytes 2 (segmentField l.sound)

/-- TABLE GET, selector 0 (R15). -/
def handleTableGetAlphabet : Handler := fun arg v =>
  checked (tableGetChecks arg (badLetter (byteAt arg 1))) v
    (let start := byteAt arg 1
     let found := window v.words.alphabet (start - 1) 12
     (v, tableGetAnswer 0 start found.length (found.flatMap Letter.bytes)))

/-! ### The slots and the commands -/

def wordPutSlot (tag : Byte) (arg : List Byte) : Vks → Vks := takeControl 0x10#8 tag arg handleWordPut
def wordSoundsSlot (tag : Byte) (arg : List Byte) : Vks → Vks := takeControl 0x11#8 tag arg handleWordSounds
def wordDropSlot (tag : Byte) (arg : List Byte) : Vks → Vks := takeControl 0x12#8 tag arg handleWordDrop
def wordGetSlot (tag : Byte) (arg : List Byte) : Vks → Vks := takeControl 0x13#8 tag arg handleWordGet
def alphabetPutSlot (tag : Byte) (arg : List Byte) : Vks → Vks := takeControl 0x14#8 tag arg handleAlphabetPut
def tableGetAlphabetSlot (tag : Byte) (arg : List Byte) : Vks → Vks := takeControl 0x17#8 tag arg handleTableGetAlphabet

/-- WORD_PUT (R9, R10). -/
def execWordPut (tag : Byte) (arg : List Byte) (s : State) : StepOutcome := onPart (wordPutSlot tag arg) s
/-- WORD_SOUNDS (R11). -/
def execWordSounds (tag : Byte) (arg : List Byte) (s : State) : StepOutcome := onPart (wordSoundsSlot tag arg) s
/-- WORD_DROP (R12). -/
def execWordDrop (tag : Byte) (arg : List Byte) (s : State) : StepOutcome := onPart (wordDropSlot tag arg) s
/-- WORD_GET (R13). -/
def execWordGet (tag : Byte) (arg : List Byte) (s : State) : StepOutcome := onPart (wordGetSlot tag arg) s
/-- ALPHABET_PUT (R14). -/
def execAlphabetPut (tag : Byte) (arg : List Byte) (s : State) : StepOutcome := onPart (alphabetPutSlot tag arg) s
/-- TABLE_GET_ALPHABET (R15). -/
def execTableGetAlphabet (tag : Byte) (arg : List Byte) (s : State) : StepOutcome := onPart (tableGetAlphabetSlot tag arg) s

end Sys2Proof.Machine
end

