-- ==== Sys2Proof/Machine/Keys.lean ====
section
/-! DEFINITION. The keymap requests (R82, R83), the 1 ms scan with debounce, ghosts, routing and reports (R74 to R90),
and the sleep scan (R192). -/

namespace Sys2Proof.Machine

/-! ### Requests -/

/-- R82: the checks of a KEYMAP PUT argument. -/
def keymapPutChecks (arg : List Byte) : List (Bool × Nat) :=
  let forms := (List.range (byteAt arg 1)).map (fun j => (byteAt arg (2 + 4 * j), byteAt arg (3 + 4 * j)))
  [ (decide (arg.length < 2) || decide (arg.length ≠ 2 + 4 * byteAt arg 1), 1),
    (decide (byteAt arg 1 < 1) || decide (14 < byteAt arg 1), 11),
    (decide (79 < byteAt arg 0) || decide (80 < byteAt arg 0 + byteAt arg 1), 14),
    (forms.any (fun f => decide (6 < f.1)), 7),
    (forms.any (fun f => decide (f.1 = 1) && badLetter f.2), 4) ]

/-- One keymap entry written. -/
def setKeymapAt (p : Nat) (e : KeymapEntry) (v : Vks) : Vks :=
  { v with keys := { v.keys with keymap := writeAt v.keys.keymap p e } }

/-- KEYMAP PUT (R82). -/
def handleKeymapPut : Handler := fun arg v =>
  checked (keymapPutChecks arg) v
    ((List.range (byteAt arg 1)).foldl
        (fun v j => setKeymapAt (byteAt arg 0 + j) (keymapEntryAt arg (2 + 4 * j)) v) v,
     answerOk (leBytes 1 (byteAt arg 0) ++ leBytes 1 (byteAt arg 1)))

/-- TABLE GET, selector 1 (R83). -/
def handleTableGetKeymap : Handler := fun arg v =>
  checked (tableGetChecks arg (decide (79 < byteAt arg 1))) v
    (let found := window v.keys.keymap (byteAt arg 1) 12
     (v, tableGetAnswer 1 (byteAt arg 1) found.length (found.flatMap KeymapEntry.bytes)))

def keymapPutSlot (tag : Byte) (arg : List Byte) : Vks → Vks := takeControl 0x15#8 tag arg handleKeymapPut
def tableGetKeymapSlot (tag : Byte) (arg : List Byte) : Vks → Vks := takeControl 0x17#8 tag arg handleTableGetKeymap

/-- KEYMAP_PUT (R82). -/
def execKeymapPut (tag : Byte) (arg : List Byte) (s : State) : StepOutcome := onPart (keymapPutSlot tag arg) s
/-- TABLE_GET_KEYMAP (R83). -/
def execTableGetKeymap (tag : Byte) (arg : List Byte) (s : State) : StepOutcome := onPart (tableGetKeymapSlot tag arg) s

/-! ### Debounce (R75) -/

/-- What the debounce of one position gives: its state after, and whether it completed a release or a press. -/
inductive KeyChange where
  | same
  | released
  | pressed
  deriving DecidableEq, Repr

/-- The debounce of one position at one scan (R75). The standing of a completed press is given when it is taken. -/
def debounceKey (debounce : Nat) (raw : Bool) (k : KeyPosition) : KeyPosition × KeyChange :=
  if raw = k.standing.isSome then ({ k with count := 0 }, .same)
  else if k.count + 1 < debounce then ({ k with count := k.count + 1 }, .same)
  else ({ k with count := 0 }, if raw then .pressed else .released)

/-- A position's debounce state. -/
def Vks.keyAt (v : Vks) (p : Nat) : KeyPosition := readAt v.keys.positions p ⟨none, 0⟩

/-- The change one scan completes at a position, from the state before the scan. -/
def scanChange (v : Vks) (raw : Matrix) (p : Nat) : KeyChange :=
  (debounceKey v.params.debounce (raw.getLsbD p) (v.keyAt p)).2

/-- The positions in ascending order at which a scan completes the change given (R76). -/
def changedAt (v : Vks) (raw : Matrix) (c : KeyChange) : List Nat :=
  (List.range Config.keyPositions).filter (fun p => decide (scanChange v raw p = c))

/-- All disagreement counts after a scan; standings are unchanged until the changes are taken. -/
def debounceAll (raw : Matrix) (v : Vks) : Vks :=
  { v with keys := { v.keys with
      positions := (List.range Config.keyPositions).map
        (fun p => (debounceKey v.params.debounce (raw.getLsbD p) (v.keyAt p)).1) } }

/-- A position's standing replaced; its count is 0 at a change (R75). -/
def setStanding (p : Nat) (st : Option Standing) (v : Vks) : Vks :=
  { v with keys := { v.keys with positions := writeAt v.keys.positions p ⟨st, 0⟩ } }

/-! ### Releases (R80) -/

/-- The held-key record of a position (R77). -/
def Vks.heldAt (v : Vks) (p : Nat) : Option HeldKey := v.keys.held.find? (fun h => h.position = p)

/-- The ghost block flag replaced. -/
def setGhostBlock (b : Bool) (v : Vks) : Vks := { v with keys := { v.keys with ghostBlock := b } }

/-- The held-key table replaced. -/
def setHeld (l : List HeldKey) (v : Vks) : Vks := { v with keys := { v.keys with held := l } }

/-- A position is SUSPECT. -/
def Vks.anySuspect (v : Vks) : Bool := v.keys.positions.any (fun k => k.standing = some .suspect)

/-- A debounced release is taken (R80). -/
def takeRelease (v : Vks) (p : Nat) : Vks :=
  let v1 := restartSleepTimer (setStanding p none v)
  match (v.keyAt p).standing with
  | some .tracked =>
    (match v.heldAt p with
     | some h =>
       let v2 := setHeld (v1.keys.held.filter (fun k => k.position ≠ p)) v1
       if h.reported then addReport ⟨.release, p, h.entry, h.disposition, v2.keys.time⟩ v2 else v2
     | none => v1)
  | some .suspect => if v1.anySuspect then v1 else setGhostBlock false v1
  | _ => v1

/-! ### Presses (R77 to R79, R85) -/

/-- A position is held for the ghost check (R78). -/
def Vks.ghostHeld (v : Vks) (p : Nat) : Bool :=
  match (v.keyAt p).standing with
  | some .suspect => false
  | some _ => true
  | none => false

/-- A press at a position completes a rectangle (R78). -/
def completesRectangle (v : Vks) (p : Nat) : Bool :=
  (List.range 8).any (fun r => (List.range 10).any (fun c =>
    decide (r ≠ p / 10) && decide (c ≠ p % 10) && v.ghostHeld (p / 10 * 10 + c) && v.ghostHeld (r * 10 + p % 10)
      && v.ghostHeld (r * 10 + c)))

/-- The classes the Attempt Controller takes (R85). -/
def KeyClass.engine : KeyClass → Bool
  | .none => false
  | .pass => false
  | _ => true

/-- The disposition and the reported mark written into the record of a position (R77, R85). -/
def markHeld (p : Nat) (d : Disposition) (v : Vks) : Vks :=
  setHeld (v.keys.held.map (fun h => if h.position = p then { h with disposition := d, reported := true } else h)) v

/-- A TRACKED press is routed by its captured entry, the routing mode and the attempt state, and reported (R85). One of class
NONE is neither: its record stays as it was made (log 38). -/
def routePress (p : Nat) (e : KeymapEntry) (v : Vks) : Vks :=
  if e.cls = .none then v
  else
    let r := if e.cls.engine ∧ v.params.routeSpell ∧ v.attempt.state ≠ .idle then handlePress e.cls e.letter v
      else (v, .passed)
    let v1 := markHeld p r.2 r.1
    addReport ⟨.press, p, e, r.2, v1.keys.time⟩ v1

/-- A debounced press is taken (R77 to R79). DESIGN CHOICE: the record is made with disposition NONE, and a press of class NONE,
which the router gives no disposition, keeps it (log 38). -/
def takePress (v : Vks) (p : Nat) : Vks :=
  let v0 := restartSleepTimer v
  if completesRectangle v0 p then
    let v1 := setStanding p (some .suspect) v0
    if v0.keys.ghostBlock then v1
    else addReport ⟨.ghost, p, v1.keymapAt p, .none, v1.keys.time⟩ (setGhostBlock true v1)
  else if v0.keys.ghostBlock then setStanding p (some .blocked) v0
  else if Config.heldPlaces ≤ v0.keys.held.length then setStanding p (some .untracked) v0
  else
    let e := v0.keymapAt p
    let v1 := setStanding p (some .tracked) v0
    routePress p e (setHeld (v1.keys.held ++ [⟨p, e, v1.keys.time, .none, false⟩]) v1)

/-- One change of a scan is taken whole, with what follows it in the part (R76). -/
def takeWhole (take : Vks → Nat → Vks) (v : Vks) (p : Nat) : Vks := settle (take v p)

/-- The 1 ms scan of an ACTIVE part (R74 to R76): 1 ms passes (log 1), then releases and then presses are taken in
ascending position order, each whole before the next. -/
def keyScan (raw : Matrix) (v : Vks) : Vks :=
  if v.power.asleep then v
  else
    let v0 := passTime 1 v
    let v1 := (changedAt v0 raw .released).foldl (takeWhole takeRelease) (debounceAll raw v0)
    settle ((changedAt v0 raw .pressed).foldl (takeWhole takePress) v1)

/-- KEY_SCAN (R76). -/
def execKeyScan (raw : Matrix) (s : State) : StepOutcome := onPart (keyScan raw) s

/-- A raw press at a position whose debounced state is up (R192). -/
def wakingPress (raw : Matrix) (v : Vks) : Bool :=
  (List.range Config.keyPositions).any (fun p => raw.getLsbD p && (v.keyAt p).standing.isNone)

/-- The 25 ms scan of a sleeping part (R192): 25 ms pass (log 1), and a waking press wakes the part (R193). -/
def sleepScan (raw : Matrix) (v : Vks) : Vks :=
  if v.power.asleep then
    let v0 := passTime 25 v
    if wakingPress raw v0 then settle (wake 1 v0) else v0
  else v

/-- SLEEP_SCAN (R192). -/
def execSleepScan (raw : Matrix) (s : State) : StepOutcome := onPart (sleepScan raw) s

end Sys2Proof.Machine
end

