-- ==== Sys2Proof/Machine/LessonRequests.lean ====
section
/-! DEFINITION. The lesson, progress and review requests (R54 to R57, R67 to R72). -/

namespace Sys2Proof.Machine

/-- The entries of a LESSON ADD argument, retries clamped to 3 (R54). -/
def lessonEntriesOf (arg : List Byte) : List LessonEntry :=
  (List.range (byteAt arg 0)).map (fun j => ⟨fieldAt arg (1 + 3 * j) 2, min 3 (byteAt arg (3 + 3 * j))⟩)

/-- Entries appended at the tail until the lesson list holds 32 (R54, R72). -/
def appendLesson (es : List LessonEntry) (v : Vks) : Vks :=
  { v with lesson := { v.lesson with
      entries := v.lesson.entries ++ es.take (Config.listPlaces - v.lesson.entries.length) } }

/-- R54: the checks of a LESSON ADD argument. -/
def lessonAddChecks (arg : List Byte) : List (Bool × Nat) :=
  [ (decide (arg.length < 1) || decide (arg.length ≠ 1 + 3 * byteAt arg 0), 1),
    (decide (byteAt arg 0 < 1) || decide (18 < byteAt arg 0), 11),
    ((lessonEntriesOf arg).any (fun e => decide (Config.words ≤ e.word)), 2) ]

/-- LESSON ADD (R54). -/
def handleLessonAdd : Handler := fun arg v =>
  checked (lessonAddChecks arg) v
    (let v1 := appendLesson (lessonEntriesOf arg) v
     (v1, answerOk (leBytes 1 (v1.lesson.entries.length - v.lesson.entries.length) ++ leBytes 1 v1.lesson.entries.length
       ++ [flagByte ((List.range (byteAt arg 0)).any (fun j => decide (3 < byteAt arg (3 + 3 * j))))])))

/-- LESSON CLEAR (R55). -/
def handleLessonClear : Handler := withoutArgument fun v =>
  ({ v with lesson := { v.lesson with entries := [] } }, answerOk (leBytes 1 v.lesson.entries.length))

/-- LESSON FROM REVIEW (R72). -/
def handleLessonFromReview : Handler := withoutArgument fun v =>
  let v1 := appendLesson (v.lesson.review.map (fun w => ⟨w, 0⟩)) v
  (v1, answerOk (leBytes 1 (v1.lesson.entries.length - v.lesson.entries.length) ++ leBytes 1 v1.lesson.entries.length))

/-- LESSON START (R56). -/
def handleLessonStart : Handler := withoutArgument fun v =>
  let v1 := setAuto true v
  let v2 := if v.attempt.state = .idle then settle (lessonWalk v1) else v1
  let opened := if v.attempt.state = .idle ∧ v2.attempt.state ≠ .idle then v2.attempt.ctx.word else 0xFFFF
  (v2, answerOk ([flagByte v.lesson.auto] ++ leBytes 1 v2.attempt.state.code ++ leBytes 2 opened))

/-- LESSON STOP (R57). -/
def handleLessonStop : Handler := withoutArgument fun v =>
  let v1 := setAuto false v
  let v2 := if v.attempt.state = .gap then settle (setAttemptState .idle (stopGap v1)) else v1
  (v2, answerOk ([flagByte v.lesson.auto] ++ leBytes 1 v2.attempt.state.code))

/-- The checks of a list's start position (R55, R71). -/
def startChecks (arg : List Byte) : List (Bool × Nat) := [(decide (arg.length ≠ 1), 1), (decide (31 < byteAt arg 0), 14)]

/-- LESSON GET (R55). -/
def handleLessonGet : Handler := fun arg v =>
  checked (startChecks arg) v
    (let found := window v.lesson.entries (byteAt arg 0) 16
     (v, answerOk (leBytes 1 v.lesson.entries.length ++ leBytes 1 (byteAt arg 0) ++ leBytes 1 found.length
         ++ [flagByte v.lesson.auto]) (found.flatMap LessonEntry.bytes)))

/-- PROGRESS GET (R67). -/
def handleProgressGet : Handler := fun arg v =>
  checked [ (decide (arg.length ≠ 3), 1), (decide (Config.words ≤ fieldAt arg 0 2), 2),
      (decide (byteAt arg 2 < 1) || decide (4 < byteAt arg 2), 11) ] v
    (let found := window v.lesson.records (fieldAt arg 0 2) (byteAt arg 2)
     (v, answerOk (leBytes 2 (fieldAt arg 0 2) ++ leBytes 1 found.length) (found.flatMap ProgressRecord.bytes)))

/-- R68: the checks of a PROGRESS PUT argument. -/
def progressPutChecks (arg : List Byte) : List (Bool × Nat) :=
  let attempts := fieldAt arg 2 2
  [ (decide (arg.length ≠ 14), 1),
    (decide (Config.words ≤ fieldAt arg 0 2), 2),
    (decide (7 < byteAt arg 12) || decide (3 < byteAt arg 13) || decide (2 < byteAt arg 11), 7),
    (decide (attempts < 65535) && decide (fieldAt arg 4 2 + fieldAt arg 6 2 + fieldAt arg 8 2 ≠ attempts), 12),
    (decide (byteAt arg 13 = 0) != decide (attempts = 0), 13) ]

/-- PROGRESS PUT (R68). -/
def handleProgressPut : Handler := fun arg v =>
  checked (progressPutChecks arg) v
    (let r := progressRecordOf arg
     ({ v with lesson := { v.lesson with records := writeAt v.lesson.records (fieldAt arg 0 2) r } },
      answerOk (leBytes 1 r.mastery.code ++ leBytes 1 r.slips ++ [flagByte (decide (r.slips ≠ byteAt arg 11))])))

/-- PROGRESS CLEAR with scope 1: every record and the review list (R69). -/
def clearAllProgress (v : Vks) : Vks :=
  { v with lesson := { v.lesson with
      records := List.replicate Config.words ProgressRecord.zero
      review := [] } }

/-- PROGRESS CLEAR (R69). -/
def handleProgressClear : Handler := fun arg v =>
  checked [ (decide (arg.length ≠ 3), 1), (decide (1 < byteAt arg 0), 7),
      (decide (byteAt arg 0 = 0) && decide (Config.words ≤ fieldAt arg 1 2), 2) ] v
    (let v1 := if byteAt arg 0 = 0 then clearProgress (fieldAt arg 1 2) v else clearAllProgress v
     (v1, answerOk (leBytes 1 (v.lesson.review.length - v1.lesson.review.length))))

/-- REVIEW GET (R71). -/
def handleReviewGet : Handler := fun arg v =>
  checked (startChecks arg) v
    (let found := window v.lesson.review (byteAt arg 0) 24
     (v, answerOk (leBytes 1 v.lesson.review.length ++ leBytes 1 (byteAt arg 0) ++ leBytes 1 found.length)
       (found.flatMap (leBytes 2))))

/-- REVIEW CLEAR (R71). -/
def handleReviewClear : Handler := withoutArgument fun v =>
  ({ v with lesson := { v.lesson with review := [] } }, answerOk (leBytes 1 v.lesson.review.length))

/-! ### The slots and the commands -/

def lessonAddSlot (tag : Byte) (arg : List Byte) : Vks → Vks := takeControl 0x28#8 tag arg handleLessonAdd
def lessonClearSlot (tag : Byte) (arg : List Byte) : Vks → Vks := takeControl 0x29#8 tag arg handleLessonClear
def lessonFromReviewSlot (tag : Byte) (arg : List Byte) : Vks → Vks := takeControl 0x2A#8 tag arg handleLessonFromReview
def lessonStartSlot (tag : Byte) (arg : List Byte) : Vks → Vks := takeControl 0x2B#8 tag arg handleLessonStart
def lessonStopSlot (tag : Byte) (arg : List Byte) : Vks → Vks := takeControl 0x2C#8 tag arg handleLessonStop
def lessonGetSlot (tag : Byte) (arg : List Byte) : Vks → Vks := takeControl 0x2D#8 tag arg handleLessonGet
def progressGetSlot (tag : Byte) (arg : List Byte) : Vks → Vks := takeControl 0x30#8 tag arg handleProgressGet
def progressPutSlot (tag : Byte) (arg : List Byte) : Vks → Vks := takeControl 0x31#8 tag arg handleProgressPut
def progressClearSlot (tag : Byte) (arg : List Byte) : Vks → Vks := takeControl 0x32#8 tag arg handleProgressClear
def reviewGetSlot (tag : Byte) (arg : List Byte) : Vks → Vks := takeControl 0x33#8 tag arg handleReviewGet
def reviewClearSlot (tag : Byte) (arg : List Byte) : Vks → Vks := takeControl 0x34#8 tag arg handleReviewClear

/-- LESSON_ADD (R54). -/
def execLessonAdd (tag : Byte) (arg : List Byte) (s : State) : StepOutcome := onPart (lessonAddSlot tag arg) s
/-- LESSON_CLEAR (R55). -/
def execLessonClear (tag : Byte) (arg : List Byte) (s : State) : StepOutcome := onPart (lessonClearSlot tag arg) s
/-- LESSON_FROM_REVIEW (R72). -/
def execLessonFromReview (tag : Byte) (arg : List Byte) (s : State) : StepOutcome := onPart (lessonFromReviewSlot tag arg) s
/-- LESSON_START (R56). -/
def execLessonStart (tag : Byte) (arg : List Byte) (s : State) : StepOutcome := onPart (lessonStartSlot tag arg) s
/-- LESSON_STOP (R57). -/
def execLessonStop (tag : Byte) (arg : List Byte) (s : State) : StepOutcome := onPart (lessonStopSlot tag arg) s
/-- LESSON_GET (R55). -/
def execLessonGet (tag : Byte) (arg : List Byte) (s : State) : StepOutcome := onPart (lessonGetSlot tag arg) s
/-- PROGRESS_GET (R67). -/
def execProgressGet (tag : Byte) (arg : List Byte) (s : State) : StepOutcome := onPart (progressGetSlot tag arg) s
/-- PROGRESS_PUT (R68). -/
def execProgressPut (tag : Byte) (arg : List Byte) (s : State) : StepOutcome := onPart (progressPutSlot tag arg) s
/-- PROGRESS_CLEAR (R69). -/
def execProgressClear (tag : Byte) (arg : List Byte) (s : State) : StepOutcome := onPart (progressClearSlot tag arg) s
/-- REVIEW_GET (R71). -/
def execReviewGet (tag : Byte) (arg : List Byte) (s : State) : StepOutcome := onPart (reviewGetSlot tag arg) s
/-- REVIEW_CLEAR (R71). -/
def execReviewClear (tag : Byte) (arg : List Byte) (s : State) : StepOutcome := onPart (reviewClearSlot tag arg) s

end Sys2Proof.Machine
end

