-- ==== Sys2Proof/Machine/LinkRequests.lean ====
section
/-! DEFINITION. The resets (R142, R162, R175), the requests of the link itself (R160, R172 to R176, R189), and the slots
that carry no request (R165). -/

namespace Sys2Proof.Machine

/-! ### IDLE and undefined commands (R165) -/

/-- A taken IDLE slot (R165). -/
def idleTaken (v : Vks) : Vks := settle (setReplyNone (wakeByLink v))

/-- IDLE_SLOT (R165). -/
def execIdleSlot (s : State) : StepOutcome := onPart idleTaken s

/-- BAD_COMMAND reaches no block (R165, R171). -/
def handleBadCommand : Handler := fun _ v => (v, answerRefused .badCommand [])

def badCommandSlot (code tag : Byte) (arg : List Byte) : Vks → Vks := takeControl code tag arg handleBadCommand

/-- BAD_COMMAND (R165, log 9). -/
def execBadCommand (code tag : Byte) (arg : List Byte) (s : State) : StepOutcome := onPart (badCommandSlot code tag arg) s

/-! ### IDENTIFY (R174) -/

/-- The 17 bytes of capacities (R174). -/
def identifyBulk : List Byte :=
  leBytes 2 0x1420 ++ leBytes 1 1 ++ leBytes 2 512 ++ leBytes 2 6144 ++ leBytes 2 2048 ++ leBytes 1 16 ++ leBytes 1 1
    ++ leBytes 1 16 ++ leBytes 1 16 ++ leBytes 1 32 ++ leBytes 1 32 ++ leBytes 2 3072

/-- IDENTIFY (R174). -/
def handleIdentify : Handler := withoutArgument fun v =>
  (v, answerOk (leBytes 2 0x1420 ++ leBytes 1 1 ++ leBytes 1 0) identifyBulk)

/-! ### Resets (R51, R73, R90, R117, R142, R162, R175, R178, R181 to R184, R189) -/

/-- The write or erase the flash still runs after a reset (R142, log 16). -/
def cutOff (r : Reader) : Option LinkOp :=
  match r.engine with
  | .link (.write a d) => some (.write a d)
  | .link (.erase a) => some (.erase a)
  | _ => r.interrupted

/-- POWER_ON_RESET (R175): every block in its power-on state. The flash keeps what it holds, and the queue of commands is
outside the part. -/
def execPowerOnReset (s : State) : StepOutcome := .next { s with vks := Vks.powerOn (cutOff s.vks.reader) }

/-- The open transaction's remembered latches are cleared, and what it offered is gone (R168, R175; log 29). -/
def Transaction.forgotten : Transaction := ⟨0, 0, Latches.clear⟩

/-- The parameters with a PLAYOUT_SIZE coming into force: a mark above it is lowered (R148). -/
def lowerMark (p : Params) : Params := { p with playoutMark := min p.playoutMark p.playoutSize }

/-- Every block as the RESET request leaves it (R175). -/
def resetPart (v : Vks) : Vks where
  words := v.words
  attempt := AttemptUnit.cleared
  lesson := { v.lesson with entries := [], auto := false, gapTimer := none }
  keys := KeyUnit.afterReset v.keys.keymap
  sched := Scheduler.afterReset v.sched.rows
  reader := Reader.afterReset v.reader.segmentCount v.reader.storeSize (cutOff v.reader)
  mixer := Mixer.afterReset v.params.playoutSize v.params.hostLevel
  port := { v.port with
    txn := v.port.txn.map (fun _ => Transaction.forgotten), latches := Latches.clear, resetSeen := true }
  notices := NoticeUnit.cleared
  power := Power.cleared
  params := lowerMark v.params

/-- RESET (R175). -/
def handleReset : Handler := withoutArgument fun v => (settle (resetPart v), answerOk [])

/-! ### STREAM RESTART (R160) -/

/-- The pending PLAYOUT_SIZE in force and the playout buffer emptied (R145, R146, R148). -/
def restartBuffer (v : Vks) : Vks :=
  { v with
    params := lowerMark v.params
    mixer := { v.mixer with
      sizeInForce := v.params.playoutSize, samples := [], playing := false, endMark := false, lowArmed := true } }

/-- The part after STREAM RESTART (R117, R143, R160). -/
def restartStream (v : Vks) : Vks :=
  let s := stopVoices v
  settle (startHeads (reportEnds .cut s.1 (newClipWindow (openEnvelope (restartBuffer s.2)))))

/-- STREAM RESTART (R160). -/
def handleStreamRestart : Handler := withoutArgument fun v =>
  (restartStream v, answerOk (leBytes 2 v.params.playoutSize ++ leBytes 2 ((Config.sampleWords - v.params.playoutSize) / 2)))

/-! ### SLEEP (R189) -/

/-- SLEEP (R189, R190). -/
def handleSleep : Handler := withoutArgument fun v =>
  match sleepObstacle v with
  | some n => (v, answerRefused .busy (leBytes 1 n))
  | none => (enterSleep v, answerOk [])

/-! ### SET and GET (R172, R173) -/

/-- The range of a parameter that is clamped and nothing else (08 section 8.6). -/
def paramRange (v : Vks) : Nat → Option (Nat × Nat)
  | 1 => some (0, 16384)
  | 2 => some (0, 16384)
  | 3 => some (1, 1024)
  | 4 => some (1, 1024)
  | 5 => some (0, 2000)
  | 6 => some (0, 16384)
  | 7 => some (0, 16384)
  | 9 => some (0, v.mixer.sizeInForce)
  | 10 => some (0, 500)
  | 11 => some (1, 30)
  | 14 => some (0, 5000)
  | 15 => some (1, 15)
  | 17 => some (0, 255)
  | 21 => some (0, 600)
  | 22 => some (0, 100)
  | 23 => some (0, 3600)
  | _ => none

/-- PLAYOUT_SIZE rounded down to its step and clamped (R145). -/
def sizeUsed (x : Nat) : Nat := clamp 512 2560 (x / 256 * 256)

/-- INACTIVITY: 0, or 2..60 (R44). -/
def inactivityUsed (x : Nat) : Nat := if x = 0 then 0 else clamp 2 60 x

/-- The value a SET of parameter `id` to `x` uses (R172). -/
def paramUsed (v : Vks) (id x : Nat) : Nat :=
  match paramRange v id with
  | some r => clamp r.1 r.2 x
  | none =>
    if id = 8 then sizeUsed x
    else if id = 13 then inactivityUsed x
    else if id = 16 then x % 2 ^ 17
    else if id = 18 ∨ id = 19 ∨ id = 20 then x % 64
    else x

/-- An enumerated value that is none of the defined ones (R84, R172, R182). -/
def paramUndefined (id x : Nat) : Bool :=
  (decide (id = 12) && decide (1 < x)) || (decide (18 ≤ id) && decide (id ≤ 20) && decide (8 < x % 16))

/-- A parameter id that is not in the table (R172). -/
def badParamId (id : Nat) : Bool := decide (id < 1) || decide (23 < id)

/-- The parameters with parameter `id` holding the value used. -/
def Params.put (p : Params) (x : Nat) : Nat → Params
  | 1 => { p with hostLevel := x }
  | 2 => { p with duckLevel := x }
  | 3 => { p with duckFallStep := x }
  | 4 => { p with duckRiseStep := x }
  | 5 => { p with duckHold := x }
  | 6 => { p with mainVoiceLevel := x }
  | 7 => { p with echoVoiceLevel := x }
  | 8 => { p with playoutSize := x }
  | 9 => { p with playoutMark := x }
  | 10 => { p with echoCutFloor := x }
  | 11 => { p with debounce := x }
  | 12 => { p with routeSpell := decide (x = 1) }
  | 13 => { p with inactivity := x }
  | 14 => { p with interWordGap := x }
  | 15 => { p with knownStreak := x }
  | 16 => { p with attnMask := BitVec.ofNat 17 x }
  | 17 => { p with attnGap := x }
  | 18 => { p with lamps := writeAt p.lamps 0 (lampSettingOf x) }
  | 19 => { p with lamps := writeAt p.lamps 1 (lampSettingOf x) }
  | 20 => { p with lamps := writeAt p.lamps 2 (lampSettingOf x) }
  | 21 => { p with ampStandby := x }
  | 22 => { p with ampWarmup := x }
  | 23 => { p with sleepAfter := x }
  | _ => p

/-- The value of parameter `id`; for PLAYOUT_SIZE the pending value (R173). -/
def Params.value (p : Params) : Nat → Nat
  | 1 => p.hostLevel
  | 2 => p.duckLevel
  | 3 => p.duckFallStep
  | 4 => p.duckRiseStep
  | 5 => p.duckHold
  | 6 => p.mainVoiceLevel
  | 7 => p.echoVoiceLevel
  | 8 => p.playoutSize
  | 9 => p.playoutMark
  | 10 => p.echoCutFloor
  | 11 => p.debounce
  | 12 => if p.routeSpell then 1 else 0
  | 13 => p.inactivity
  | 14 => p.interWordGap
  | 15 => p.knownStreak
  | 16 => p.attnMask.toNat
  | 17 => p.attnGap
  | 18 => (readAt p.lamps 0 ⟨.off, false, false⟩).value
  | 19 => (readAt p.lamps 1 ⟨.off, false, false⟩).value
  | 20 => (readAt p.lamps 2 ⟨.off, false, false⟩).value
  | 21 => p.ampStandby
  | 22 => p.ampWarmup
  | 23 => p.sleepAfter
  | _ => 0

/-- A lamp's blink phase is abandoned, so that it begins afresh (R182). -/
def freshBlink (k : Nat) (v : Vks) : Vks :=
  { v with notices := { v.notices with blink := writeAt v.notices.blink k none } }

/-- A new PLAYOUT_MARK: a raise above the fill of a PLAYING buffer is compared (R148, R149; log 28), and a STOPPED buffer is
tested (R148, R151), also where the SET stores the value already in force (log 35). -/
def markChanged (old : Nat) (v : Vks) : Vks :=
  if v.mixer.playing then
    (if old < v.params.playoutMark ∧ v.mixer.samples.length < v.params.playoutMark then lowCompare v else v)
  else testPlayout v

/-- The mark in a SET's reply: the value was changed by clamping or rounding (R172), or bits the mask ignores were sent (R180).
A lamp value's ignored bits (R182) are neither. -/
def paramMarked (id x used : Nat) : Bool := decide (used ≠ x) && !(decide (18 ≤ id) && decide (id ≤ 20))

/-- What the owner of a parameter does in the event of the SET (R44, R111, R148, R182, R191). -/
def paramChanged (old : Vks) (id : Nat) (v : Vks) : Vks :=
  match id with
  | 9 => markChanged old.params.playoutMark v
  | 10 => takeOverEcho (floorPassed v) v
  | 13 => stopInactivity v
  | 18 => freshBlink 0 v
  | 19 => freshBlink 1 v
  | 20 => freshBlink 2 v
  | 23 => restartSleepTimer v
  | _ => v

/-- A parameter set to the value used, with its owner's effect (R172). -/
def setParam (id used : Nat) (v : Vks) : Vks := settle (paramChanged v id { v with params := v.params.put used id })

/-- SET (R172). -/
def handleSet : Handler := fun arg v =>
  let id := byteAt arg 0
  let x := fieldAt arg 1 4
  checked [(decide (arg.length ≠ 5), 1), (badParamId id, 16), (paramUndefined id x, 7)] v
    (let used := paramUsed v id x
     (setParam id used v, answerOk (leBytes 3 used ++ [flagByte (paramMarked id x used)])))

/-- The reply data of GET (R145, R173). -/
def paramData (v : Vks) (id : Nat) : List Byte :=
  if id = 8 then leBytes 2 v.params.playoutSize ++ leBytes 2 v.mixer.sizeInForce else leBytes 4 (v.params.value id)

/-- GET (R173). -/
def handleGet : Handler := fun arg v =>
  checked [(decide (arg.length ≠ 1), 1), (badParamId (byteAt arg 0), 16)] v (v, answerOk (paramData v (byteAt arg 0)))

/-! ### CLEAR FLAGS (R176) -/

/-- RESET_SEEN and CLIP_SEEN cleared (R176). -/
def clearSeen (v : Vks) : Vks :=
  { v with port := { v.port with resetSeen := false }, mixer := { v.mixer with clipSeen := false } }

/-- CLEAR FLAGS (R176). -/
def handleClearFlags : Handler := withoutArgument fun v =>
  (clearSeen v, answerOk (leBytes 1 (bitsValue [v.port.resetSeen, v.mixer.clipSeen])))

/-! ### The slots and the commands -/

def identifySlot (tag : Byte) (arg : List Byte) : Vks → Vks := takeControl 0x01#8 tag arg handleIdentify
def resetSlot (tag : Byte) (arg : List Byte) : Vks → Vks := takeControl 0x02#8 tag arg handleReset
def streamRestartSlot (tag : Byte) (arg : List Byte) : Vks → Vks := takeControl 0x03#8 tag arg handleStreamRestart
def sleepSlot (tag : Byte) (arg : List Byte) : Vks → Vks := takeControl 0x04#8 tag arg handleSleep
def setSlot (tag : Byte) (arg : List Byte) : Vks → Vks := takeControl 0x05#8 tag arg handleSet
def getSlot (tag : Byte) (arg : List Byte) : Vks → Vks := takeControl 0x06#8 tag arg handleGet
def clearFlagsSlot (tag : Byte) (arg : List Byte) : Vks → Vks := takeControl 0x07#8 tag arg handleClearFlags

/-- IDENTIFY (R174). -/
def execIdentify (tag : Byte) (arg : List Byte) (s : State) : StepOutcome := onPart (identifySlot tag arg) s
/-- RESET (R175). -/
def execReset (tag : Byte) (arg : List Byte) (s : State) : StepOutcome := onPart (resetSlot tag arg) s
/-- STREAM_RESTART (R160). -/
def execStreamRestart (tag : Byte) (arg : List Byte) (s : State) : StepOutcome := onPart (streamRestartSlot tag arg) s
/-- SLEEP (R189). -/
def execSleep (tag : Byte) (arg : List Byte) (s : State) : StepOutcome := onPart (sleepSlot tag arg) s
/-- SET (R172). -/
def execSet (tag : Byte) (arg : List Byte) (s : State) : StepOutcome := onPart (setSlot tag arg) s
/-- GET (R173). -/
def execGet (tag : Byte) (arg : List Byte) (s : State) : StepOutcome := onPart (getSlot tag arg) s
/-- CLEAR_FLAGS (R176). -/
def execClearFlags (tag : Byte) (arg : List Byte) (s : State) : StepOutcome := onPart (clearFlagsSlot tag arg) s

end Sys2Proof.Machine
end

