-- ==== Sys2Proof/Machine/Mixer.lean ====
section
/-! DEFINITION. The AUDIO slot (R147), the output instant (R149, R150, R153 to R159) with the standby count (R187), and the
rows of the sample clock: the clip window's end, the duck hold's end and the standby expiry. -/

namespace Sys2Proof.Machine

/-! ### The AUDIO slot (R147) -/

/-- The buffer's room (R147). -/
def playoutRoom (v : Vks) : Nat := v.mixer.sizeInForce - v.mixer.samples.length

/-- The end mark after an AUDIO slot that appended `appended` samples (R147). -/
def endMarkAfter (last : Bool) (appended : Nat) (mark : Bool) : Bool :=
  if last then true else if appended = 0 then mark else false

/-- The samples that fit are appended, and the end mark is set, cleared or kept (R147). -/
def appendAudio (last : Bool) (samples : List Sample) (v : Vks) : Vks :=
  let fit := samples.take (playoutRoom v)
  { v with mixer := { v.mixer with
      samples := v.mixer.samples ++ fit.map BitVec.toInt
      endMark := endMarkAfter last fit.length v.mixer.endMark } }

/-- OVERRUN latched and AUDIO_OVERRUN raised for `lost` samples, when there are any (R147, R168). -/
def reportOverrun (lost : Nat) (v : Vks) : Vks :=
  if lost = 0 then v
  else raiseNotice (.audioOverrun lost v.mixer.samples.length)
    { v with port := { v.port with latches := { v.port.latches with overrun := true } } }

/-- The tests that follow an append or a set end mark: the start of play, and in PLAYING the low crossing (R147). -/
def testAfterAudio (v : Vks) : Vks :=
  let v1 := testPlayout v
  if v1.mixer.playing then lowCompare v1 else v1

/-- An AUDIO slot's samples in a part that is awake (R147). -/
def takeAudio (last : Bool) (samples : List Sample) (v : Vks) : Vks :=
  let fit := min (playoutRoom v) samples.length
  let v1 := reportOverrun (samples.length - fit) (appendAudio last samples v)
  if last ∨ fit ≠ 0 then testAfterAudio v1 else v1

/-- A taken AUDIO slot (R147, R165); a count above 29 discards it (R164 cause 4, log 7). -/
def audioSlot (last : Bool) (samples : List Sample) (v : Vks) : Vks :=
  let v0 := wakeByLink v
  if 29 < samples.length then discardSlot 4 v0
  else settle (takeAudio last samples (setReplyNone v0))

/-- AUDIO_SLOT (R147). -/
def execAudioSlot (last : Bool) (samples : List Sample) (s : State) : StepOutcome := onPart (audioSlot last samples) s

/-! ### The duck envelope (R156 to R159) -/

/-- The effective duck level L_e (R156). -/
def effectiveDuck (p : Params) : Nat := if p.duckLevel ≤ p.hostLevel then p.duckLevel else p.hostLevel

/-- The range step: the host gain is brought into L_e..L_h (R156). -/
def rangeStep (p : Params) (m : Mixer) : Mixer := { m with hostGain := clamp (effectiveDuck p) p.hostLevel m.hostGain }

/-- A fall (R157). -/
def fallStep (p : Params) (m : Mixer) : Mixer :=
  let g := max (effectiveDuck p) (m.hostGain - p.duckFallStep)
  { m with hostGain := g, envelope := if g = effectiveDuck p then .ducked else .falling }

/-- An active instant's step (R157). -/
def activeStep (p : Params) (m : Mixer) : Mixer :=
  match m.envelope with
  | .ducked => if effectiveDuck p < m.hostGain then fallStep p m else m
  | _ => fallStep p m

/-- The RISING row (R158). -/
def riseStep (p : Params) (m : Mixer) : Mixer :=
  let g := min p.hostLevel (m.hostGain + p.duckRiseStep)
  { m with hostGain := g, envelope := if g = p.hostLevel then .opened else .rising }

/-- The HOLD row (R158). -/
def holdStep (p : Params) (m : Mixer) : Mixer :=
  if 0 < m.holdCount then { m with holdCount := m.holdCount - 1 } else riseStep p m

/-- The step of an instant that is not active (R158). -/
def inactiveStep (p : Params) (m : Mixer) : Mixer :=
  match m.envelope with
  | .falling => holdStep p { m with holdCount := p.duckHold * 16, envelope := .hold }
  | .ducked => holdStep p { m with holdCount := p.duckHold * 16, envelope := .hold }
  | .hold => holdStep p m
  | .rising => riseStep p m
  | .opened => if m.hostGain < p.hostLevel then riseStep p m else m

/-- The envelope at one instant: the range step, then the active or the inactive step (R156 to R158). -/
def envelopeStep (p : Params) (active : Bool) (m : Mixer) : Mixer :=
  if active then activeStep p (rangeStep p m) else inactiveStep p (rangeStep p m)

/-- The envelope's step in the part. -/
def stepEnvelope (active : Bool) (v : Vks) : Vks := { v with mixer := envelopeStep v.params active v.mixer }

/-! ### The host sample (R149, R150) -/

/-- The stop of a buffer found empty: quiet with the end mark set, otherwise an underrun (R150). -/
def runEmpty (v : Vks) : Vks :=
  if v.mixer.endMark then { v with mixer := { v.mixer with playing := false, endMark := false } }
  else raiseNotice (.audioUnderrun v.params.playoutMark)
    { v with
      mixer := { v.mixer with playing := false }
      port := { v.port with latches := { v.port.latches with underrun := true } } }

/-- The host sample of an instant, and the part after it is taken (R149, R150, R153). -/
def hostSample (v : Vks) : Int × Vks :=
  if v.mixer.playing ∧ v.power.amp = .on then
    match v.mixer.samples with
    | h :: rest => (h, lowCompare { v with mixer := { v.mixer with samples := rest } })
    | [] => (0, runEmpty v)
  else (0, v)

/-! ### The mix (R153, R154) -/

/-- `acc / 16384` rounded to nearest, ties away from zero (R154). -/
def roundMix (acc : Int) : Int := if 0 ≤ acc then (acc + 8192) / 16384 else -((-acc + 8192) / 16384)

/-- The 16-bit range (R154). -/
def limitSample (x : Int) : Int := if x < -32768 then -32768 else if 32767 < x then 32767 else x

/-- The output sample of an exact sum (R154). -/
def mixOutput (acc : Int) : Int := limitSample (roundMix acc)

/-- The limit changed the sample (R154). -/
def mixClips (acc : Int) : Bool := decide (mixOutput acc ≠ roundMix acc)

/-- The combined gain of a voice, as the sum uses it (R152). -/
def Vks.gainOf (v : Vks) (i : VoiceId) : Int := ((v.voice i).gain : Int)

/-- The voices' terms of the sum, and the part after both draws (R126, R153). DESIGN CHOICE: the main voice draws first, so its
VOICE_STARVED goes ahead of the echo voice's in one instant (log 39); both go ahead of every end (log 41). Nothing is drawn
while the amplifier is not ON (log 32). -/
def drawVoices (v : Vks) : Int × Vks :=
  if v.power.amp = .on then
    let m := draw .main v
    let e := draw .echo m.2
    (m.1 * e.2.gainOf .main + e.1 * e.2.gainOf .echo, e.2)
  else (0, v)

/-- The output sample goes out in the frame that follows the event, and a clipped one sets its marks (R154, R155, R161). -/
def emitSample (acc : Int) (v : Vks) : Vks :=
  { v with mixer := { v.mixer with
      output := mixOutput acc
      i2s := I2s.frame (mixOutput acc)
      clipCurrent := v.mixer.clipCurrent || mixClips acc
      clipSeen := v.mixer.clipSeen || mixClips acc
      windowCount := v.mixer.windowCount + 1 } }

/-- A full window of 256 instants ends: its mark moves to the last window's, and a new window runs (R155). -/
def closeWindow (v : Vks) : Vks :=
  if 256 ≤ v.mixer.windowCount then
    { v with mixer := { v.mixer with clipLast := v.mixer.clipCurrent, clipCurrent := false, windowCount := 0 } }
  else v

/-- Utterances whose last sample this instant drew end FINISHED, main first; free voices take what waits (R102, R126; log 11).
DESIGN CHOICE: both draws precede every end, so a VOICE_STARVED of this instant goes ahead of an end's UTTERANCE_DONE and of
whatever else the end raises (log 41). -/
def endDrained (v : Vks) : Vks :=
  let main := (v.voice .main).drained
  let echo := (v.voice .echo).drained
  let ended := (if main then onVoice v .main else []) ++ (if echo then onVoice v .echo else [])
  let v1 := if main then idleVoice .main v else v
  let v2 := if echo then idleVoice .echo v1 else v1
  startHeads (reportEnds .finished ended v2)

/-- The standby count after an instant, and the amplifier OFF when it reaches its limit (R187). -/
def countStandby (active : Bool) (v : Vks) : Vks :=
  if v.power.amp = .on then
    let n := if !active ∧ v.mixer.output = 0 then v.power.standby + 1 else 0
    let v1 := { v with power := { v.power with standby := n } }
    if v.params.ampStandby ≠ 0 ∧ v.params.ampStandby * 16000 ≤ n then ampGoesOff v1 else v1
  else v

/-- Either voice is PLAYING (R157, R187). -/
def voicesActive (v : Vks) : Bool := v.voicePlaying .main || v.voicePlaying .echo

/-- The waiting echo takes over when this instant's draw brought the playing echo's age to the cut floor (R110). -/
def floorTakeOver (ageBefore : Nat) (v : Vks) : Vks :=
  takeOverEcho (decide (ageBefore < echoAge v) && floorReached v) v

/-- The mix of one instant: window, envelope, host sample, draws, sum, output (R153 to R158). The ends at the draws follow it
(log 41). -/
def mixInstant (v : Vks) : Vks :=
  let v1 := stepEnvelope (voicesActive v) (closeWindow v)
  let h := hostSample v1
  let d := drawVoices h.2
  emitSample (h.1 * (d.2.mixer.hostGain : Int) + d.1) d.2

/-- What follows the mix in the same event: ends, starts, the echo's take-over, the standby count, and the readings that go on.
DESIGN CHOICE: this order of the steps, and so of the notices they raise (log 41). -/
def afterMix (active : Bool) (ageBefore : Nat) (v : Vks) : Vks :=
  settle (countStandby active (floorTakeOver ageBefore (endDrained v)))

/-- One output instant (R153); none runs in SLEEP (R190). -/
def outputInstant (v : Vks) : Vks :=
  if v.power.asleep then v else afterMix (voicesActive v) (echoAge v) (mixInstant v)

/-- OUTPUT_INSTANT (R153). -/
def execOutputInstant (s : State) : StepOutcome := onPart outputInstant s

/-! ### The sample clock's other rows -/

/-- CLIP_WINDOW_END (R155): a full window ends; otherwise nothing (log 3). -/
def execClipWindowEnd (s : State) : StepOutcome := onPart closeWindow s

/-- A hold that has run out becomes a rise, whose first step the next instant makes (R158, log 4). -/
def endHold (v : Vks) : Vks :=
  if v.mixer.envelope = .hold ∧ v.mixer.holdCount = 0 then { v with mixer := { v.mixer with envelope := .rising } } else v

/-- DUCK_HOLD_END (R158, log 4). -/
def execDuckHoldEnd (s : State) : StepOutcome := onPart endHold s

/-- The next output instant raises the standby count to its limit (R187): the amplifier is ON, no voice is PLAYING at its
start, and its output sample is 0. -/
def standbyDue (v : Vks) : Bool :=
  !v.power.asleep && decide (v.power.amp = .on) && !voicesActive v && decide ((mixInstant v).mixer.output = 0)
    && decide (v.params.ampStandby ≠ 0) && decide (v.params.ampStandby * 16000 ≤ v.power.standby + 1)

/-- The standby expiry is the output instant that reaches the limit (R187, R188; log 5). -/
def standbyExpiry (v : Vks) : Vks := if standbyDue v then outputInstant v else v

/-- AMP_STANDBY_EXPIRY (R187). -/
def execAmpStandbyExpiry (s : State) : StepOutcome := onPart standbyExpiry s

end Sys2Proof.Machine
end

