-- ==== Sys2Proof/Machine/SpeechRequests.lean ====
section
/-! DEFINITION. The response table and utterance requests (R95, R96, R106, R112, R116). -/

namespace Sys2Proof.Machine

/-- R95: the checks of a RESPONSE PUT argument. -/
def responsePutChecks (arg : List Byte) : List (Bool × Nat) :=
  [ (decide (arg.length < 2) || decide (arg.length ≠ 2 + 3 * byteAt arg 1), 1),
    ((partFields arg).any badPartSegment, 6),
    ((partFields arg).any badPartKind, 7),
    (decide (6 < byteAt arg 1), 11),
    (decide (15 < byteAt arg 0), 14) ]

/-- RESPONSE PUT (R95). -/
def handleResponsePut : Handler := fun arg v =>
  checked (responsePutChecks arg) v
    ({ v with sched := { v.sched with rows := writeAt v.sched.rows (byteAt arg 0) ((partFields arg).map partOf) } },
     answerOk (leBytes 1 (byteAt arg 0) ++ leBytes 1 (byteAt arg 1) ++ [flagByte ((partFields arg).any pauseClamped)]))

/-- The 19-byte form of a row (R96). -/
def rowBytes (row : List Part) : List Byte := leBytes 1 row.length ++ padTo 18 (row.flatMap Part.bytes)

/-- TABLE GET, selector 2 (R96). -/
def handleTableGetResponses : Handler := fun arg v =>
  checked (tableGetChecks arg (decide (15 < byteAt arg 1))) v
    (let found := window v.sched.rows (byteAt arg 1) 2
     (v, tableGetAnswer 2 (byteAt arg 1) found.length (found.flatMap rowBytes)))

/-- R106: the checks of a SAY argument. -/
def sayChecks (arg : List Byte) : List (Bool × Nat) :=
  [ (decide (arg.length < 2) || decide (arg.length ≠ 2 + 3 * byteAt arg 1), 1),
    ((partFields arg).any badPartSegment, 6),
    ((partFields arg).any badPartKind, 7),
    (decide (byteAt arg 1 < 1) || decide (18 < byteAt arg 1), 11) ]

/-- A SAY utterance joins the tail of the main queue, or is started at once (R106, R107). -/
def placeSay (u : Utterance) (v : Vks) : Vks :=
  if mainTakesAtOnce v then startVoice .main u v else setQueue (v.sched.queue ++ [u]) v

/-- SAY (R106). -/
def handleSay : Handler := fun arg v =>
  checked (sayChecks arg) v
    (let items := expandAll v (sayExpansion v) ((partFields arg).map partOf)
     if items = [] then (v, answerOk [])
     else if Config.queuePlaces ≤ v.sched.queue.length then (v, answerRefused .queueFull [])
     else
       let made := makeUtterance .say (BitVec.ofNat 8 (byteAt arg 0)) items v
       (settle (placeSay made.1 made.2),
        answerOk (leBytes 2 made.1.id ++ leBytes 1 made.1.items.length
          ++ leBytes 1 (bitsValue [made.1.truncated, (partFields arg).any pauseClamped]))))

/-- R112, scope ALL: everything waiting and everything on the voices, in the order of R103. -/
def silenceAll (v : Vks) : Vks :=
  let s := stopVoices (setEchoLine none (setQueue [] v))
  reportEnds .cut (onVoice v .main ++ v.sched.queue ++ onVoice v .echo ++ v.sched.echoLine.toList) s.2

/-- R112, scopes SAY and TAG: the SAY utterances chosen, waiting or on the main voice. -/
def silenceSome (chosen : Utterance → Bool) (v : Vks) : Vks :=
  let playing := (onVoice v .main).filter chosen
  let v1 := setQueue (v.sched.queue.filter (fun u => !chosen u)) v
  let v2 := if playing = [] then v1 else idleVoice .main v1
  reportEnds .cut (playing ++ v.sched.queue.filter chosen) v2

/-- The utterances scope SAY or TAG chooses (R112). -/
def silenceChooses (scope : Nat) (tag : Nat) (u : Utterance) : Bool :=
  decide (u.source = .say) && (decide (scope = 1) || decide (u.tag.toNat = tag))

/-- SILENCE (R112). -/
def handleSilence : Handler := fun arg v =>
  checked [(decide (arg.length ≠ 2), 1), (decide (2 < byteAt arg 0), 7)] v
    (let all := decide (byteAt arg 0 = 0)
     let chosen := silenceChooses (byteAt arg 0) (byteAt arg 1)
     let v1 := if all then silenceAll v else silenceSome chosen v
     let removed := if all then v.sched.queue.length + v.sched.echoLine.toList.length else (v.sched.queue.filter chosen).length
     let cut := if all then (onVoice v .main).length + (onVoice v .echo).length else ((onVoice v .main).filter chosen).length
     (settle (startHeads v1), answerOk (leBytes 1 removed ++ leBytes 1 cut)))

/-- Eight bytes of QUEUE GET on a voice (R116). -/
def voiceBytes (w : Voice) : List Byte :=
  leBytes 1 w.state.code ++
    (match w.utterance with
     | some u => leBytes 2 u.id ++ leBytes 1 u.source.code ++ [u.tag] ++ leBytes 1 u.playItem ++ leBytes 1 u.items.length
         ++ leBytes 1 u.flags
     | none => leBytes 7 0)

/-- Five bytes of QUEUE GET on a waiting utterance (R116). -/
def queueEntryBytes (u : Utterance) : List Byte :=
  leBytes 2 u.id ++ leBytes 1 u.source.code ++ [u.tag] ++ leBytes 1 u.items.length

/-- The waiting echo is held by the store condition (R116). -/
def echoHeld (v : Vks) : Bool := match v.sched.echoLine with | some u => !(admitsEcho v u) | none => false

/-- QUEUE GET (R116). -/
def handleQueueGet : Handler := fun arg v =>
  checked [(decide (arg.length ≠ 1), 1), (decide (15 < byteAt arg 0), 14)] v
    (let found := window v.sched.queue (byteAt arg 0) 5
     (v, answerOk (leBytes 1 v.sched.queue.length ++ [flagByte v.sched.echoLine.isSome] ++ leBytes 1 found.length)
       (voiceBytes v.reader.mainVoice ++ voiceBytes v.reader.echoVoice ++ [flagByte v.sched.echoLine.isSome]
         ++ leBytes 2 (match v.sched.echoLine with | some u => u.id | none => 0)
         ++ leBytes 1 (bitsValue [!v.storeOpen, echoHeld v]) ++ leBytes 1 v.sched.queue.length
         ++ leBytes 1 (byteAt arg 0) ++ leBytes 1 found.length ++ found.flatMap queueEntryBytes)))

/-! ### The slots and the commands -/

def responsePutSlot (tag : Byte) (arg : List Byte) : Vks → Vks := takeControl 0x16#8 tag arg handleResponsePut
def tableGetResponsesSlot (tag : Byte) (arg : List Byte) : Vks → Vks := takeControl 0x17#8 tag arg handleTableGetResponses
def saySlot (tag : Byte) (arg : List Byte) : Vks → Vks := takeControl 0x38#8 tag arg handleSay
def silenceSlot (tag : Byte) (arg : List Byte) : Vks → Vks := takeControl 0x39#8 tag arg handleSilence
def queueGetSlot (tag : Byte) (arg : List Byte) : Vks → Vks := takeControl 0x3A#8 tag arg handleQueueGet

/-- RESPONSE_PUT (R95). -/
def execResponsePut (tag : Byte) (arg : List Byte) (s : State) : StepOutcome := onPart (responsePutSlot tag arg) s
/-- TABLE_GET_RESPONSES (R96). -/
def execTableGetResponses (tag : Byte) (arg : List Byte) (s : State) : StepOutcome := onPart (tableGetResponsesSlot tag arg) s
/-- SAY (R106). -/
def execSay (tag : Byte) (arg : List Byte) (s : State) : StepOutcome := onPart (saySlot tag arg) s
/-- SILENCE (R112). -/
def execSilence (tag : Byte) (arg : List Byte) (s : State) : StepOutcome := onPart (silenceSlot tag arg) s
/-- QUEUE_GET (R116). -/
def execQueueGet (tag : Byte) (arg : List Byte) (s : State) : StepOutcome := onPart (queueGetSlot tag arg) s

end Sys2Proof.Machine
end

