-- ==== Sys2Proof/Machine/StoreClaim.lean ====
section
/-! DEFINITION. The grant of a store claim (R136) and the check of a store header, a directory entry and a block
(R118, R119, R121, R123). -/

namespace Sys2Proof.Machine

/-- The store state replaced. -/
def setStore (st : StoreState) (v : Vks) : Vks := { v with reader := { v.reader with store := st } }

/-- The engine replaced. -/
def setEngine (e : Engine) (v : Vks) : Vks := { v with reader := { v.reader with engine := e } }

/-- The code STORE_GRANTED gives the state a claim was made from (R136). -/
def claimFromCode : StoreState → Nat
  | .usable => 1
  | _ => 0

/-- The grant (R136): both voices stopped and their utterances CUT, the store CLAIMED; a late grant raises STORE_GRANTED. -/
def grantClaim (late : Bool) (v : Vks) : Vks :=
  let s := stopVoices v
  let v1 := reportEnds .cut s.1 (setStore .claimed s.2)
  if late then raiseNotice (.storeGranted (claimFromCode v1.reader.claimFrom)) v1 else v1

/-- R136: a pending claim is granted in the event that ends the read in flight. -/
def grantIfPending (v : Vks) : Vks := if v.reader.store = .claimPending then grantClaim true v else v

/-- The header check sum of 16 header bytes (R118). -/
def headerPasses (h : List Byte) : Bool := decide (byteSum (h.take 14) = fieldAt h 14 2)

/-- Steps 4 and 5 of the header check, on a header whose sum passed (R121). -/
def headerFields (h : List Byte) : HeaderOutcome :=
  if fieldAt h 0 2 ≠ 0x5653 then .badMark
  else if fieldAt h 2 2 < 1 ∨ 2048 < fieldAt h 2 2 then .badCount
  else if byteAt h 4 = 0 then .badSize
  else .good

/-- The header check on the flash's answer and the two readings: the outcome and the reading that decided it (R121). -/
def headerCheck (present : Bool) (h1 h2 : List Byte) : HeaderOutcome × List Byte :=
  if !present then (.absent, h1)
  else if headerPasses h1 then (headerFields h1, h1)
  else if headerPasses h2 then (headerFields h2, h2)
  else (.badCheck, h2)

/-- A directory entry from its 8 bytes, the level clamped to 128 (R118). -/
def directoryEntry (d : List Byte) : DirEntry :=
  ⟨fieldAt d 0 3, fieldAt d 3 2, byteAt d 5, min 128 (byteAt d 6)⟩

/-- The blocks of a segment (R119). -/
def segmentBlocks (count : Nat) : Nat := (count + 255) / 256

/-- R123 causes 3 to 6, decided when the directory read ends; 0 for a readable segment. -/
def entryCause (v : Vks) (d : DirEntry) : Nat :=
  if d.count = 0 then 3
  else if v.reader.storeSize * 65536 < d.start + segmentBlocks d.count * 258 then 4
  else if 1 < d.rate then 5
  else if d.rate = 1 ∧ v.ringCapacity < 512 then 6
  else 0

/-- A block's check (R119). -/
def blockPasses (b : List Byte) : Bool := decide (byteSum (b.take 256) = fieldAt b 256 2)

/-- The result of a block read and its accepted sample bytes, empty on CHECK_FAIL (R131). -/
def blockCheck (b1 b2 : List Byte) : ReadResult × List Byte :=
  if blockPasses b1 then (.ok, b1)
  else if blockPasses b2 then (.retryOk, b2)
  else (.fail, [])

/-- A stored sample as it enters the ring (R119). -/
def ringValue (b : Byte) : Int := b.toInt * 256

/-- Stored samples as output samples: doubled at 8 kHz (R118, R125). -/
def atRate (rate : Nat) (xs : List Int) : List Int :=
  if rate = 1 then xs.flatMap (fun x => [x, x]) else xs

/-- The samples a block gives: its first `take`, or as much silence on CHECK_FAIL (R130, R131). -/
def blockSamples (result : ReadResult) (bytes : List Byte) (take rate : Nat) : List Int :=
  atRate rate (if result = .fail then List.replicate take 0 else (bytes.take take).map ringValue)

/-- The fault record and READ_FAULT after a CHECK_FAIL (R132). -/
def noteFail (segment block address : Nat) (v : Vks) : Vks :=
  if v.reader.fault.full then
    { v with reader := { v.reader with fault := { v.reader.fault with more := satSucc 255 v.reader.fault.more } } }
  else
    raiseNotice (.readFault segment block address)
      { v with reader := { v.reader with fault := ⟨true, segment, block, address, v.reader.fault.more⟩ } }

/-- The last result and the accumulated set after a block read (R131, R132). -/
def noteResult (r : ReadResult) (v : Vks) : Vks :=
  { v with reader := { v.reader with
      lastResult := r
      accRetry := v.reader.accRetry || decide (r = .retryOk)
      accFail := v.reader.accFail || decide (r = .fail) } }

/-- A voice after a block of its read item (R130, R131): the samples enter with their marks, the utterance is marked
FAULTED on CHECK_FAIL, and the reading goes to the next block or, after the last, to the next item. DEDUCED (log 31,
safe): the marks of a bad block 0 and of a bad block after a bad block. -/
def Voice.takeBlock (w : Voice) (d : DirEntry) (result : ReadResult) (samples : List Int) (take : Nat) : Voice :=
  let begins := if w.nextBlock = 0 then some w.readItem else none
  let level :=
    if result = .fail then some 128
    else if w.nextBlock = 0 ∨ w.rehand then some d.level
    else none
  let w1 := w.enter samples begins level
  let w2 := { w1 with
    utterance := w1.utterance.map (fun u => if result = .fail then { u with faulted := true } else u)
    nextBlock := w.nextBlock + 1
    samplesLeft := w.samplesLeft - take
    rehand := decide (result = .fail) }
  if w2.samplesLeft = 0 then w2.nextItem else w2

end Sys2Proof.Machine
end

