-- ==== Sys2Proof/Machine/StoreRequests.lean ====
section
/-! DEFINITION. The store requests: claim and release (R135 to R137), the link operations (R138 to R141), the fetch (R141)
and the fault record (R133). -/

namespace Sys2Proof.Machine

/-- The store state in data byte 0 (R135, R137). -/
def storeByte (v : Vks) : List Byte := leBytes 1 v.reader.store.code

/-- The reply data of STORE CLAIM (R135). -/
def claimData (v : Vks) : List Byte := storeByte v ++ leBytes 1 v.reader.headerOutcome.code

/-- A claim that waits for the read in flight (R135). -/
def claimPending (v : Vks) : Vks :=
  { v with reader := { v.reader with store := .claimPending, claimFrom := v.reader.store } }

/-- The store state after STORE CLAIM: granted at once, pending, or unchanged (R135). -/
def claimStore (v : Vks) : Vks × Result :=
  match v.reader.store with
  | .usable => if v.reader.engine = .idle then (grantClaim false v, .ok) else (claimPending v, .accepted)
  | .unusable => (grantClaim false v, .ok)
  | .checking => (claimPending v, .accepted)
  | .claimPending => (v, .accepted)
  | .claimed => (v, .ok)

/-- STORE CLAIM (R135). -/
def handleStoreClaim : Handler := withoutArgument fun v =>
  let r := claimStore v
  (settle r.1, ⟨r.2, claimData r.1, []⟩)

/-- The store enters CHECKING and the header check begins (R121, R137). -/
def beginCheck (v : Vks) : Vks := setEngine .header (setStore .checking v)

/-- STORE RELEASE (R137). -/
def handleStoreRelease : Handler := withoutArgument fun v =>
  match v.reader.store with
  | .claimed =>
    if v.storeBusy then (v, answerRefused .busy (storeByte v)) else (settle (beginCheck v), answerOk (leBytes 1 0))
  | .claimPending => (v, answerRefused .busy (storeByte v))
  | _ => (v, answerRefused .notClaimed (storeByte v))

/-- The part with a link operation taken: the engine enters LINK; a STORE READ empties the holding area (R138, R141). -/
def beginLinkOp (op : LinkOp) (v : Vks) : Vks :=
  let v1 := setEngine (.link op) v
  match op with
  | .read _ _ => { v1 with reader := { v1.reader with holding := none } }
  | _ => v1

/-- A link operation whose argument passed (R138). ACCEPTED, NOT_CLAIMED and BUSY carry data 0, not the store state: R120 gives
the store state in the replies to the store requests, R138 gives these replies no data (log 23). -/
def linkRequest (op : LinkOp) (v : Vks) : Vks × Answer :=
  if v.reader.store ≠ .claimed then (v, answerRefused .notClaimed [])
  else if v.storeBusy then (v, answerRefused .busy [])
  else (settle (beginLinkOp op v), ⟨.accepted, [], []⟩)

/-- R139: the checks of a STORE WRITE argument. -/
def storeWriteChecks (arg : List Byte) : List (Bool × Nat) :=
  [ (decide (arg.length < 4) || decide (arg.length ≠ 4 + byteAt arg 3), 1),
    (decide (byteAt arg 3 < 1) || decide (32 < byteAt arg 3), 11),
    (decide (0xFEFFFF < fieldAt arg 0 3), 14),
    (decide (256 < fieldAt arg 0 3 % 256 + byteAt arg 3), 15) ]

/-- STORE WRITE (R138, R139). -/
def handleStoreWrite : Handler := fun arg v =>
  checked (storeWriteChecks arg) v (linkRequest (.write (fieldAt arg 0 3) (arg.drop 4)) v)

/-- R140: the checks of a STORE ERASE argument. -/
def storeEraseChecks (arg : List Byte) : List (Bool × Nat) :=
  [ (decide (arg.length ≠ 3), 1),
    (decide (0xFEFFFF < fieldAt arg 0 3), 14),
    (decide (fieldAt arg 0 3 % 4096 ≠ 0), 15) ]

/-- STORE ERASE (R138, R140). -/
def handleStoreErase : Handler := fun arg v =>
  checked (storeEraseChecks arg) v (linkRequest (.erase (fieldAt arg 0 3)) v)

/-- R141: the checks of a STORE READ argument. -/
def storeReadChecks (arg : List Byte) : List (Bool × Nat) :=
  [ (decide (arg.length ≠ 4), 1),
    (decide (byteAt arg 3 < 1) || decide (48 < byteAt arg 3), 11),
    (decide (0xFF0000 < fieldAt arg 0 3 + byteAt arg 3), 14) ]

/-- STORE READ (R138, R141). -/
def handleStoreRead : Handler := fun arg v =>
  checked (storeReadChecks arg) v (linkRequest (.read (fieldAt arg 0 3) (byteAt arg 3)) v)

/-- A STORE READ is in flight (R141). -/
def Vks.readInFlight (v : Vks) : Bool := match v.reader.engine with | .link (.read _ _) => true | _ => false

/-- The holding area as reply and bulk (R141). -/
def holdingAnswer : Option Holding → Answer
  | some h => answerOk (leBytes 3 h.address ++ leBytes 1 h.bytes.length) h.bytes
  | none => answerOk []

/-- STORE FETCH (R141). DESIGN CHOICE: four data bytes of 0 with BUSY; R120 gives the store state in the replies to the store
requests, R141 gives this reply no data (log 23). -/
def handleStoreFetch : Handler := withoutArgument fun v =>
  if v.readInFlight then (v, answerRefused .busy []) else (v, holdingAnswer v.reader.holding)

/-- The accumulated set as a byte (R133). -/
def Reader.accumulated (r : Reader) : Nat := bitsValue [r.accRetry, r.accFail]

/-- The FAULT GET bulk (R133). -/
def faultBulk (r : Reader) : List Byte :=
  [flagByte r.fault.full] ++ leBytes 2 r.fault.segment ++ leBytes 1 r.fault.block ++ leBytes 3 r.fault.address
    ++ leBytes 1 r.fault.more ++ leBytes 1 r.lastResult.code ++ leBytes 1 r.accumulated ++ leBytes 1 r.store.code
    ++ leBytes 1 r.headerOutcome.code ++ leBytes 2 r.segmentCount

/-- The record and the accumulated set emptied (R133). -/
def emptyFault (v : Vks) : Vks :=
  { v with reader := { v.reader with fault := FaultRecord.empty, accRetry := false, accFail := false } }

/-- FAULT GET (R133). -/
def handleFaultGet : Handler := withoutArgument fun v =>
  (emptyFault v,
   answerOk ([flagByte v.reader.fault.full] ++ leBytes 1 v.reader.fault.more ++ leBytes 1 v.reader.accumulated
     ++ storeByte v) (faultBulk v.reader))

/-! ### The slots and the commands -/

def storeClaimSlot (tag : Byte) (arg : List Byte) : Vks → Vks := takeControl 0x40#8 tag arg handleStoreClaim
def storeReleaseSlot (tag : Byte) (arg : List Byte) : Vks → Vks := takeControl 0x41#8 tag arg handleStoreRelease
def storeWriteSlot (tag : Byte) (arg : List Byte) : Vks → Vks := takeControl 0x42#8 tag arg handleStoreWrite
def storeEraseSlot (tag : Byte) (arg : List Byte) : Vks → Vks := takeControl 0x43#8 tag arg handleStoreErase
def storeReadSlot (tag : Byte) (arg : List Byte) : Vks → Vks := takeControl 0x44#8 tag arg handleStoreRead
def storeFetchSlot (tag : Byte) (arg : List Byte) : Vks → Vks := takeControl 0x45#8 tag arg handleStoreFetch
def faultGetSlot (tag : Byte) (arg : List Byte) : Vks → Vks := takeControl 0x46#8 tag arg handleFaultGet

/-- STORE_CLAIM (R135). -/
def execStoreClaim (tag : Byte) (arg : List Byte) (s : State) : StepOutcome := onPart (storeClaimSlot tag arg) s
/-- STORE_RELEASE (R137). -/
def execStoreRelease (tag : Byte) (arg : List Byte) (s : State) : StepOutcome := onPart (storeReleaseSlot tag arg) s
/-- STORE_WRITE (R138, R139). -/
def execStoreWrite (tag : Byte) (arg : List Byte) (s : State) : StepOutcome := onPart (storeWriteSlot tag arg) s
/-- STORE_ERASE (R138, R140). -/
def execStoreErase (tag : Byte) (arg : List Byte) (s : State) : StepOutcome := onPart (storeEraseSlot tag arg) s
/-- STORE_READ (R138, R141). -/
def execStoreRead (tag : Byte) (arg : List Byte) (s : State) : StepOutcome := onPart (storeReadSlot tag arg) s
/-- STORE_FETCH (R141). -/
def execStoreFetch (tag : Byte) (arg : List Byte) (s : State) : StepOutcome := onPart (storeFetchSlot tag arg) s
/-- FAULT_GET (R133). -/
def execFaultGet (tag : Byte) (arg : List Byte) (s : State) : StepOutcome := onPart (faultGetSlot tag arg) s

end Sys2Proof.Machine
end

