-- ==== Sys2Proof/Machine/LinkEvents.lean ====
section
/-! DEFINITION. Transactions: composing and sending the upstream slot (R164, R166 to R170), judging and dispatching the downstream slot
(R164, R165), and delivery (R166, R168). -/

namespace Sys2Proof.Machine

/-! ### The upstream slot (R166 to R170) -/

/-- The reply field, bytes 6..13 (R169). -/
def replyField (r : Reply) : List Byte :=
  [r.code, r.tag] ++ leBytes 1 r.result.code ++ leBytes 1 r.bulk.length ++ r.data

/-- Key reports offered: up to 6, none in a slot with bulk (R170). -/
def offeredReports (v : Vks) : Nat := if v.port.reply.bulk ≠ [] then 0 else min 6 v.keys.reports.length

/-- Notices offered in the places left (R170). -/
def offeredNotices (v : Vks) : Nat :=
  if v.port.reply.bulk ≠ [] then 0 else min (6 - offeredReports v) v.notices.queue.length

/-- The records area, bytes 14..61 (R170). -/
def recordsArea (v : Vks) : List Byte :=
  padTo 48
    (if v.port.reply.bulk ≠ [] then v.port.reply.bulk
     else (v.keys.reports.take (offeredReports v)).flatMap KeyReport.bytes
       ++ (v.notices.queue.take (offeredNotices v)).flatMap Notice.bytes)

/-- The upstream slot as things stand (R166). -/
def composeSlot (v : Vks) : List Byte := withCheck (v.statusSummary ++ replyField v.port.reply ++ recordsArea v)

/-- The first `n` bytes the Slot Port sends in the running transaction: the composed slot, and 0 beyond byte 63 (R164). The host
has clocked as many when it releases LNK_SEL as TRANSACTION_END carries. `none` with LNK_SEL released. -/
def sentUpstream (n : Nat) (v : Vks) : Option (List Byte) :=
  v.port.txn.map (fun _ => padTo n (v.port.upstream.take (min n 64)))

/-- LNK_OUT over `n` bytes of the running transaction, in wire order (R164, 08 section 8.1). -/
def lnkOut (n : Nat) (v : Vks) : Option (List Bool) := (sentUpstream n v).map wireBits

/-- The Slot Port as it begins to send the slot: the latches are remembered with it and cleared (R168). -/
def openTransaction (v : Vks) : Vks :=
  { v with port := { v.port with
      txn := some ⟨offeredReports v, offeredNotices v, v.port.latches⟩
      upstream := composeSlot v
      latches := Latches.clear } }

/-- A transaction begins (R164, R166, R181); one that finds the part asleep wakes it before the slot is composed (R193).
While LNK_SEL is asserted it cannot be asserted again: then nothing changes (log 27). -/
def transactionBegin (v : Vks) : Vks :=
  if v.port.txn.isSome then v
  else settle (dropAttn (openTransaction (if v.power.asleep then wake 2 v else v)))

/-- TRANSACTION_BEGIN (R166). -/
def execTransactionBegin (s : State) : StepOutcome := onPart transactionBegin s

/-! ### The downstream slot (R164, R165) -/

/-- A taken slot's effect (R165); a command that is no slot has none here. -/
def slotEffect : Instr → Vks → Vks
  | .idleSlot => idleTaken
  | .audioSlot last samples => audioSlot last samples
  | .badCommand code tag arg => badCommandSlot code tag arg
  | .identify tag arg => identifySlot tag arg
  | .reset tag arg => resetSlot tag arg
  | .streamRestart tag arg => streamRestartSlot tag arg
  | .sleep tag arg => sleepSlot tag arg
  | .set tag arg => setSlot tag arg
  | .get tag arg => getSlot tag arg
  | .clearFlags tag arg => clearFlagsSlot tag arg
  | .wordPut tag arg => wordPutSlot tag arg
  | .wordSounds tag arg => wordSoundsSlot tag arg
  | .wordDrop tag arg => wordDropSlot tag arg
  | .wordGet tag arg => wordGetSlot tag arg
  | .alphabetPut tag arg => alphabetPutSlot tag arg
  | .tableGetAlphabet tag arg => tableGetAlphabetSlot tag arg
  | .tableGetKeymap tag arg => tableGetKeymapSlot tag arg
  | .tableGetResponses tag arg => tableGetResponsesSlot tag arg
  | .keymapPut tag arg => keymapPutSlot tag arg
  | .responsePut tag arg => responsePutSlot tag arg
  | .attemptOpen tag arg => attemptOpenSlot tag arg
  | .attemptCancel tag arg => attemptCancelSlot tag arg
  | .attemptShelve tag arg => attemptShelveSlot tag arg
  | .attemptUnshelve tag arg => attemptUnshelveSlot tag arg
  | .attemptGet tag arg => attemptGetSlot tag arg
  | .lessonAdd tag arg => lessonAddSlot tag arg
  | .lessonClear tag arg => lessonClearSlot tag arg
  | .lessonFromReview tag arg => lessonFromReviewSlot tag arg
  | .lessonStart tag arg => lessonStartSlot tag arg
  | .lessonStop tag arg => lessonStopSlot tag arg
  | .lessonGet tag arg => lessonGetSlot tag arg
  | .progressGet tag arg => progressGetSlot tag arg
  | .progressPut tag arg => progressPutSlot tag arg
  | .progressClear tag arg => progressClearSlot tag arg
  | .reviewGet tag arg => reviewGetSlot tag arg
  | .reviewClear tag arg => reviewClearSlot tag arg
  | .say tag arg => saySlot tag arg
  | .silence tag arg => silenceSlot tag arg
  | .queueGet tag arg => queueGetSlot tag arg
  | .storeClaim tag arg => storeClaimSlot tag arg
  | .storeRelease tag arg => storeReleaseSlot tag arg
  | .storeWrite tag arg => storeWriteSlot tag arg
  | .storeErase tag arg => storeEraseSlot tag arg
  | .storeRead tag arg => storeReadSlot tag arg
  | .storeFetch tag arg => storeFetchSlot tag arg
  | .faultGet tag arg => faultGetSlot tag arg
  | .powerOnReset => id
  | .transactionBegin => id
  | .transactionEnd _ => id
  | .storeWriteEnd _ _ _ => id
  | .storeEraseEnd _ _ _ => id
  | .storeReadEnd _ _ => id
  | .headerCheckEnd _ _ _ => id
  | .directoryReadEnd _ => id
  | .blockReadEnd _ _ => id
  | .keyScan _ => id
  | .sleepScan _ => id
  | .outputInstant => id
  | .clipWindowEnd => id
  | .duckHoldEnd => id
  | .ampWarmupExpiry => id
  | .ampStandbyExpiry => id
  | .inactivityExpiry => id
  | .gapExpiry => id
  | .lampTimerExpiry _ => id
  | .lampBlinkToggle _ => id
  | .attnGapExpiry => id
  | .sleepTimerExpiry => id

/-- LNK_SEL is released. -/
def closeTransaction (v : Vks) : Vks := { v with port := { v.port with txn := none } }

/-- Delivery: the offered records leave the heads of their queues, and the remembered latches are dropped (R166, R168, R170). -/
def deliver (t : Transaction) (v : Vks) : Vks :=
  { v with
    keys := { v.keys with reports := v.keys.reports.drop t.keyReports }
    notices := { v.notices with queue := v.notices.queue.drop t.noticeCount } }

/-- Latches set in either (R168). -/
def Latches.union (a b : Latches) : Latches :=
  ⟨a.underrun || b.underrun, a.overrun || b.overrun, a.noticeLost || b.noticeLost, a.keyLost || b.keyLost,
    a.badSlot || b.badSlot⟩

/-- A slot that was not delivered: each remembered latch is set again (R168). -/
def takeBack (t : Transaction) (v : Vks) : Vks :=
  { v with port := { v.port with latches := v.port.latches.union t.remembered } }

/-- The downstream slot is judged: discarded with its cause, or dispatched (R164, R165). -/
def judgeSlot (bytes : List Byte) (v : Vks) : Vks :=
  match decodeSlot bytes with
  | .error cause => discardSlot cause v
  | .ok i => slotEffect i v

/-- A transaction ends (R164, R166, R168, R191); with none open nothing changes (log 27). -/
def transactionEnd (bytes : List Byte) (v : Vks) : Vks :=
  match v.port.txn with
  | none => v
  | some t =>
    let v1 := closeTransaction (if bytes.length = 64 then deliver t v else takeBack t v)
    settle (restartSleepTimer (judgeSlot bytes v1))

/-- TRANSACTION_END (R164). -/
def execTransactionEnd (bytes : List Byte) (s : State) : StepOutcome := onPart (transactionEnd bytes) s

end Sys2Proof.Machine
end

