-- ==== Sys2Proof/Machine/FlashMemory.lean ====
section
/-! DEFINITION. The flash as memory: one byte, runs of bytes, programming, erasing, and its canonical form. -/

namespace Sys2Proof.Machine

/-- The byte a cell list holds at an address; an unlisted address reads as an erased byte (log 13). -/
def cellsRead : List Host.Cell → Nat → Byte
  | [], _ => Config.erasedByte
  | (k, b) :: t, a => if a = k then b else cellsRead t a

/-- The cell list with one byte written, kept in canonical form. -/
def cellsWrite : List Host.Cell → Nat → Byte → List Host.Cell
  | [], a, b => if b = Config.erasedByte then [] else [(a, b)]
  | (k, c) :: t, a, b =>
    if a < k then (if b = Config.erasedByte then (k, c) :: t else (a, b) :: (k, c) :: t)
    else if a = k then (if b = Config.erasedByte then t else (a, b) :: t)
    else (k, c) :: cellsWrite t a b

/-- Every listed address is above `lo`, the addresses rise strictly, and no listed byte is an erased byte. -/
def cellsCanonicalFrom : Option Nat → List Host.Cell → Bool
  | _, [] => true
  | lo, (k, b) :: t =>
    (match lo with | none => true | some l => decide (l < k)) && decide (b ≠ Config.erasedByte)
      && cellsCanonicalFrom (some k) t

/-- The canonical form of the flash (INVENTORY.md, Memory and ordering). -/
def Flash.wf (f : Flash) : Bool := cellsCanonicalFrom none f.cells

/-- One byte of the flash. -/
def Flash.read (f : Flash) (a : Nat) : Byte := cellsRead f.cells a

/-- One byte of the flash set. -/
def Flash.write (f : Flash) (a : Nat) (b : Byte) : Flash := { f with cells := cellsWrite f.cells a b }

/-- `n` bytes from address `a` on. -/
def Flash.readBytes (f : Flash) (a n : Nat) : List Byte := (List.range n).map (fun i => f.read (a + i))

/-- Programming turns one bits into zero bits and never the other way (R139). -/
def Flash.program (f : Flash) (a : Nat) : List Byte → Flash
  | [] => f
  | b :: bs => (f.write a (f.read a &&& b)).program (a + 1) bs

/-- Erasing makes `n` bytes from `a` on 0xFF (R140). -/
def Flash.erase (f : Flash) (a n : Nat) : Flash :=
  { f with cells := f.cells.filter (fun c => !(decide (a ≤ c.1) && decide (c.1 < a + n))) }

/-- Programming the bytes an interrupted write reached, the free value saying which (R142, log 15). -/
def Flash.programReached (f : Flash) (a : Nat) : List Byte → Flash
  | [] => f
  | b :: bs =>
    (if Config.flashReached f.epoch a then f.write a (f.read a &&& b) else f).programReached (a + 1) bs

/-- Erasing the bytes an interrupted erase reached, the free value saying which (R142, log 15). -/
def Flash.eraseReached (f : Flash) (a n : Nat) : Flash :=
  { f with cells := f.cells.filter (fun c =>
      !(decide (a ≤ c.1) && decide (c.1 < a + n) && Config.flashReached f.epoch c.1)) }

/-- The bytes of one sector (R140). -/
abbrev sectorBytes : Nat := 4096

/-- What an operation that a reset cut off has done once the flash shows ready (R121 step 2, R142). -/
def Flash.finishInterrupted (f : Flash) : Option LinkOp → Flash
  | some (.write a data) => { f.programReached a data with epoch := f.epoch + 1 }
  | some (.erase a) => { f.eraseReached a sectorBytes with epoch := f.epoch + 1 }
  | _ => f

/-- The bytes received when `bs` was read and the port got `bad` wrong (log 14). -/
def misread (bs : List Byte) (bad : Misread) : List Byte := bad.foldl (fun l p => writeAt l p.1 p.2) bs

/-- All of `n` bytes from `a` on lie inside the flash (log 17). -/
def insideFlash (a n : Nat) : Bool := decide (a + n ≤ Config.flashBytes)

end Sys2Proof.Machine
end

