-- ==== Sys2Proof/Machine/StoreEvents.lean ====
section
/-! DEFINITION. The ends of the flash operations: the header check (R121, R122), the directory read (R130), the block read
(R131), and the link operations (R138 to R141). A row that ends an operation not in flight changes nothing (log 27). -/

namespace Sys2Proof.Machine

/-! ### The header check (R121, R122) -/

/-- The outcome recorded and the engine IDLE. -/
def recordHeader (o : HeaderOutcome) (v : Vks) : Vks :=
  { v with reader := { v.reader with headerOutcome := o, engine := .idle } }

/-- The segment count and the store size in force. -/
def setInForce (count size : Nat) (v : Vks) : Vks :=
  { v with reader := { v.reader with segmentCount := count, storeSize := size } }

/-- The end of the header check (R122), or the grant of the claim pending on it (R136). -/
def headerCheckEnd (present : Bool) (h1 h2 : List Byte) (v : Vks) : Vks :=
  let c := headerCheck present h1 h2
  let v1 := recordHeader c.1 v
  settle
    (if v1.reader.store = .claimPending then grantClaim true (setInForce 0 0 v1)
     else if c.1 = .good then setStore .usable (setInForce (fieldAt c.2 2 2) (byteAt c.2 4) v1)
     else setStore .unusable (setInForce 0 0 v1))

/-- The first byte and the number of bytes of an interrupted operation (R142). -/
def interruptedBytes : Option LinkOp → Nat × Nat
  | some (.write a d) => (a, d.length)
  | some (.erase a) => (a, sectorBytes)
  | _ => (0, 0)

/-- The interrupted operation is over: the header check has ended (R121 step 2; log 16). -/
def clearInterrupted (v : Vks) : Vks := { v with reader := { v.reader with interrupted := none } }

/-- HEADER_CHECK_END (R121, R122). An operation that a reset cut off is over at every end, at ABSENT too, which R121 decides
before its busy wait (log 16). -/
def execHeaderCheckEnd (present : Bool) (bad1 bad2 : Misread) (s : State) : StepOutcome :=
  if s.vks.reader.engine = .header then
    let r := interruptedBytes s.vks.reader.interrupted
    if insideFlash r.1 r.2 then
      let f := s.flash.finishInterrupted s.vks.reader.interrupted
      let h := f.readBytes 0 16
      .next { s with
        flash := f
        vks := headerCheckEnd present (misread h bad1) (misread h bad2) (clearInterrupted s.vks) }
    else .fault (.noSuchFlashAddress r.1)
  else .next s

/-! ### Voice reads (R130, R131) -/

/-- A directory entry taken into its voice's context, or the unreadable segment replaced (R123, R130). DESIGN CHOICE: the entry of
an unreadable segment does not stay in the context while its CLICK is written (log 40). -/
def takeEntry (i : VoiceId) (segment : Nat) (d : DirEntry) (v : Vks) : Vks :=
  let cause := entryCause v d
  readAhead i
    (if cause = 0 then
      setVoice i { v.voice i with phase := .blocks, dir := some d, nextBlock := 0, samplesLeft := d.count } v
     else replaceSegment i segment cause v)

/-- The end of a directory read (R130); in CLAIM_PENDING no segment is decided (R123, log 20). -/
def directoryReadEnd (i : VoiceId) (segment : Nat) (live : Bool) (d : List Byte) (v : Vks) : Vks :=
  let v1 := setEngine .idle v
  settle (grantIfPending
    (if live ∧ v1.reader.store = .usable then takeEntry i segment (directoryEntry d) v1 else v1))

/-- The bytes of a directory entry (R118). -/
def entryAddress (segment : Nat) : Nat := 16 + 8 * segment

/-- DIRECTORY_READ_END (R130). -/
def execDirectoryReadEnd (bad : Misread) (s : State) : StepOutcome :=
  match s.vks.reader.engine with
  | .entryRead i segment live =>
    if insideFlash (entryAddress segment) 8 then
      onPart (directoryReadEnd i segment live (misread (s.flash.readBytes (entryAddress segment) 8) bad)) s
    else .fault (.noSuchFlashAddress (entryAddress segment))
  | _ => .next s

/-- The samples of a block, or its silence, enter their voice's ring (R130, R131). -/
def feedBlock (i : VoiceId) (take rate : Nat) (c : ReadResult × List Byte) (v : Vks) : Vks :=
  let w := v.voice i
  match w.dir with
  | some d => readAhead i (setVoice i (w.takeBlock d c.1 (blockSamples c.1 c.2 take rate) take) v)
  | none => v

/-- The result of a block read in the fault record (R131, R132). -/
def recordBlock (segment block address : Nat) (r : ReadResult) (v : Vks) : Vks :=
  let v1 := noteResult r v
  if r = .fail then noteFail segment block address v1 else v1

/-- The end of a block read (R130, R131). -/
def blockReadEnd (i : VoiceId) (segment block address take rate : Nat) (live : Bool) (b1 b2 : List Byte) (v : Vks) : Vks :=
  let c := blockCheck b1 b2
  let v1 := recordBlock segment block address c.1 (setEngine .idle v)
  settle (grantIfPending (if live then feedBlock i take rate c v1 else v1))

/-- BLOCK_READ_END (R130, R131). -/
def execBlockReadEnd (bad1 bad2 : Misread) (s : State) : StepOutcome :=
  match s.vks.reader.engine with
  | .blockRead i segment block address take rate live =>
    if insideFlash address 258 then
      let b := s.flash.readBytes address 258
      onPart (blockReadEnd i segment block address take rate live (misread b bad1) (misread b bad2)) s
    else .fault (.noSuchFlashAddress address)
  | _ => .next s

/-! ### Link operations (R138 to R141) -/

/-- A link operation ends: the engine is IDLE and STORE_DONE is raised (R138). -/
def linkDone (op : LinkOp) (ok : Bool) (passes : Nat) (v : Vks) : Vks :=
  settle (raiseNotice (.storeDone op.code (if ok then 0 else 1) op.address passes) (setEngine .idle v))

/-- A program or an erase on the flash, verified and repeated once: the flash after it, whether it ended OK, and the
passes made (R138, R139, R140). -/
def verifiedTwice (act : Flash → Flash) (a n : Nat) (want : List Byte) (present : Bool) (bad1 bad2 : Misread) (f : Flash) :
    Flash × Bool × Nat :=
  if !present then (f, false, 0)
  else
    let f1 := act f
    if misread (f1.readBytes a n) bad1 = want then (f1, true, 1)
    else
      let f2 := act f1
      (f2, decide (misread (f2.readBytes a n) bad2 = want), 2)

/-- STORE_WRITE_END (R138, R139). -/
def execStoreWriteEnd (present : Bool) (bad1 bad2 : Misread) (s : State) : StepOutcome :=
  match s.vks.reader.engine with
  | .link (.write a d) =>
    if insideFlash a d.length then
      let r := verifiedTwice (fun f => f.program a d) a d.length d present bad1 bad2 s.flash
      .next { s with flash := r.1, vks := linkDone (.write a d) r.2.1 r.2.2 s.vks }
    else .fault (.noSuchFlashAddress a)
  | _ => .next s

/-- STORE_ERASE_END (R138, R140). -/
def execStoreEraseEnd (present : Bool) (bad1 bad2 : Misread) (s : State) : StepOutcome :=
  match s.vks.reader.engine with
  | .link (.erase a) =>
    if insideFlash a sectorBytes then
      let r := verifiedTwice (fun f => f.erase a sectorBytes) a sectorBytes (List.replicate sectorBytes 0xFF#8)
        present bad1 bad2 s.flash
      .next { s with flash := r.1, vks := linkDone (.erase a) r.2.1 r.2.2 s.vks }
    else .fault (.noSuchFlashAddress a)
  | _ => .next s

/-- The holding area replaced (R141). -/
def setHolding (h : Option Holding) (v : Vks) : Vks := { v with reader := { v.reader with holding := h } }

/-- STORE_READ_END (R138, R141). -/
def execStoreReadEnd (present : Bool) (bad : Misread) (s : State) : StepOutcome :=
  match s.vks.reader.engine with
  | .link (.read a n) =>
    if insideFlash a n then
      let got := if present then some (Holding.mk a (misread (s.flash.readBytes a n) bad)) else none
      .next { s with vks := linkDone (.read a n) present (if present then 1 else 0) (setHolding got s.vks) }
    else .fault (.noSuchFlashAddress a)
  | _ => .next s

end Sys2Proof.Machine
end

