-- ==== Sys2Proof/Machine/TimerEvents.lean ====
section
/-! DEFINITION. The expiries of the ms timers. Each row acts when its timer is due, that is when it has counted down to 0,
and changes nothing otherwise (log 1, log 2). -/

namespace Sys2Proof.Machine

/-- The warm-up's end (R186). A waiting echo takes over at once where the cut floor is 0 (log 24). -/
def warmupExpiry (v : Vks) : Vks :=
  if v.power.amp = .warming ∧ v.power.warmup = some 0 then
    let v1 := ampBecomesOn v
    settle (takeOverEcho (floorReached v1) v1)
  else v

/-- AMP_WARMUP_EXPIRY (R186). -/
def execAmpWarmupExpiry (s : State) : StepOutcome := onPart warmupExpiry s

/-- The inactivity timer's expiry while its conditions hold (R42, R43). -/
def inactivityExpiry (v : Vks) : Vks :=
  if v.attempt.inactivity = some 0 ∧ inactivityCounts v then settle (inactivityExpires (stopInactivity v)) else v

/-- INACTIVITY_EXPIRY (R43). -/
def execInactivityExpiry (s : State) : StepOutcome := onPart inactivityExpiry s

/-- The gap timer's expiry: the lesson walk (R58, R59). -/
def gapExpiry (v : Vks) : Vks :=
  if v.attempt.state = .gap ∧ v.lesson.gapTimer = some 0 then settle (lessonWalk v) else v

/-- GAP_EXPIRY (R59). -/
def execGapExpiry (s : State) : StepOutcome := onPart gapExpiry s

/-- One of the lamp timers (R183). -/
def lampTimer (v : Vks) : LampTimer → Option Nat
  | .correct => v.notices.correct
  | .wrong => v.notices.wrong

/-- One of the lamp timers stopped. -/
def stopLampTimer (t : LampTimer) (v : Vks) : Vks :=
  match t with
  | .correct => { v with notices := { v.notices with correct := none } }
  | .wrong => { v with notices := { v.notices with wrong := none } }

/-- A lamp timer's second is over (R183). -/
def lampTimerExpiry (t : LampTimer) (v : Vks) : Vks :=
  if lampTimer v t = some 0 then settle (stopLampTimer t v) else v

/-- LAMP_TIMER_EXPIRY (R183). -/
def execLampTimerExpiry (which : LampTimer) (s : State) : StepOutcome := onPart (lampTimerExpiry which) s

/-- The blink phase of a lamp replaced. -/
def setBlink (k : Nat) (p : Option BlinkPhase) (v : Vks) : Vks :=
  { v with notices := { v.notices with blink := writeAt v.notices.blink k p } }

/-- A blink phase whose 500 ms are over alternates (R184). -/
def blinkToggle (lamp : Fin 3) (v : Vks) : Vks :=
  match v.blinkPhase lamp.val with
  | some p => if p.left = 0 then setBlink lamp.val (some ⟨!p.lit, 500⟩) v else v
  | none => v

/-- LAMP_BLINK_TOGGLE (R184). -/
def execLampBlinkToggle (lamp : Fin 3) (s : State) : StepOutcome := onPart (blinkToggle lamp) s

/-- The ATTN gap timer's expiry (R181). -/
def attnGapExpiry (v : Vks) : Vks :=
  if v.notices.attnGap = some 0 then settle { v with notices := { v.notices with attnGap := none } } else v

/-- ATTN_GAP_EXPIRY (R181). -/
def execAttnGapExpiry (s : State) : StepOutcome := onPart attnGapExpiry s

/-- The sleep timer's expiry while its conditions hold (R191). -/
def sleepTimerExpiry (v : Vks) : Vks := if v.power.sleepTimer = some 0 ∧ sleepTimerRuns v then enterSleep v else v

/-- SLEEP_TIMER_EXPIRY (R191). -/
def execSleepTimerExpiry (s : State) : StepOutcome := onPart sleepTimerExpiry s

end Sys2Proof.Machine
end

