-- ==== Sys2Proof/Machine/Dispatch.lean ====
section
/-! DEFINITION. One arm per command: its meaning. -/

namespace Sys2Proof.Machine

def exec (i : Instr) (s : State) : Host.Outcome State Fault Refusal :=
  match i with
  | .powerOnReset => Sys2Proof.Machine.execPowerOnReset s
  | .transactionBegin => Sys2Proof.Machine.execTransactionBegin s
  | .transactionEnd bytes => Sys2Proof.Machine.execTransactionEnd bytes s
  | .idleSlot => Sys2Proof.Machine.execIdleSlot s
  | .audioSlot last samples => Sys2Proof.Machine.execAudioSlot last samples s
  | .badCommand code tag arg => Sys2Proof.Machine.execBadCommand code tag arg s
  | .identify tag arg => Sys2Proof.Machine.execIdentify tag arg s
  | .reset tag arg => Sys2Proof.Machine.execReset tag arg s
  | .streamRestart tag arg => Sys2Proof.Machine.execStreamRestart tag arg s
  | .sleep tag arg => Sys2Proof.Machine.execSleep tag arg s
  | .set tag arg => Sys2Proof.Machine.execSet tag arg s
  | .get tag arg => Sys2Proof.Machine.execGet tag arg s
  | .clearFlags tag arg => Sys2Proof.Machine.execClearFlags tag arg s
  | .wordPut tag arg => Sys2Proof.Machine.execWordPut tag arg s
  | .wordSounds tag arg => Sys2Proof.Machine.execWordSounds tag arg s
  | .wordDrop tag arg => Sys2Proof.Machine.execWordDrop tag arg s
  | .wordGet tag arg => Sys2Proof.Machine.execWordGet tag arg s
  | .alphabetPut tag arg => Sys2Proof.Machine.execAlphabetPut tag arg s
  | .tableGetAlphabet tag arg => Sys2Proof.Machine.execTableGetAlphabet tag arg s
  | .tableGetKeymap tag arg => Sys2Proof.Machine.execTableGetKeymap tag arg s
  | .tableGetResponses tag arg => Sys2Proof.Machine.execTableGetResponses tag arg s
  | .keymapPut tag arg => Sys2Proof.Machine.execKeymapPut tag arg s
  | .responsePut tag arg => Sys2Proof.Machine.execResponsePut tag arg s
  | .attemptOpen tag arg => Sys2Proof.Machine.execAttemptOpen tag arg s
  | .attemptCancel tag arg => Sys2Proof.Machine.execAttemptCancel tag arg s
  | .attemptShelve tag arg => Sys2Proof.Machine.execAttemptShelve tag arg s
  | .attemptUnshelve tag arg => Sys2Proof.Machine.execAttemptUnshelve tag arg s
  | .attemptGet tag arg => Sys2Proof.Machine.execAttemptGet tag arg s
  | .lessonAdd tag arg => Sys2Proof.Machine.execLessonAdd tag arg s
  | .lessonClear tag arg => Sys2Proof.Machine.execLessonClear tag arg s
  | .lessonFromReview tag arg => Sys2Proof.Machine.execLessonFromReview tag arg s
  | .lessonStart tag arg => Sys2Proof.Machine.execLessonStart tag arg s
  | .lessonStop tag arg => Sys2Proof.Machine.execLessonStop tag arg s
  | .lessonGet tag arg => Sys2Proof.Machine.execLessonGet tag arg s
  | .progressGet tag arg => Sys2Proof.Machine.execProgressGet tag arg s
  | .progressPut tag arg => Sys2Proof.Machine.execProgressPut tag arg s
  | .progressClear tag arg => Sys2Proof.Machine.execProgressClear tag arg s
  | .reviewGet tag arg => Sys2Proof.Machine.execReviewGet tag arg s
  | .reviewClear tag arg => Sys2Proof.Machine.execReviewClear tag arg s
  | .say tag arg => Sys2Proof.Machine.execSay tag arg s
  | .silence tag arg => Sys2Proof.Machine.execSilence tag arg s
  | .queueGet tag arg => Sys2Proof.Machine.execQueueGet tag arg s
  | .storeClaim tag arg => Sys2Proof.Machine.execStoreClaim tag arg s
  | .storeRelease tag arg => Sys2Proof.Machine.execStoreRelease tag arg s
  | .storeWrite tag arg => Sys2Proof.Machine.execStoreWrite tag arg s
  | .storeErase tag arg => Sys2Proof.Machine.execStoreErase tag arg s
  | .storeRead tag arg => Sys2Proof.Machine.execStoreRead tag arg s
  | .storeFetch tag arg => Sys2Proof.Machine.execStoreFetch tag arg s
  | .faultGet tag arg => Sys2Proof.Machine.execFaultGet tag arg s
  | .storeWriteEnd present bad1 bad2 => Sys2Proof.Machine.execStoreWriteEnd present bad1 bad2 s
  | .storeEraseEnd present bad1 bad2 => Sys2Proof.Machine.execStoreEraseEnd present bad1 bad2 s
  | .storeReadEnd present bad => Sys2Proof.Machine.execStoreReadEnd present bad s
  | .headerCheckEnd present bad1 bad2 => Sys2Proof.Machine.execHeaderCheckEnd present bad1 bad2 s
  | .directoryReadEnd bad => Sys2Proof.Machine.execDirectoryReadEnd bad s
  | .blockReadEnd bad1 bad2 => Sys2Proof.Machine.execBlockReadEnd bad1 bad2 s
  | .keyScan raw => Sys2Proof.Machine.execKeyScan raw s
  | .sleepScan raw => Sys2Proof.Machine.execSleepScan raw s
  | .outputInstant => Sys2Proof.Machine.execOutputInstant s
  | .clipWindowEnd => Sys2Proof.Machine.execClipWindowEnd s
  | .duckHoldEnd => Sys2Proof.Machine.execDuckHoldEnd s
  | .ampWarmupExpiry => Sys2Proof.Machine.execAmpWarmupExpiry s
  | .ampStandbyExpiry => Sys2Proof.Machine.execAmpStandbyExpiry s
  | .inactivityExpiry => Sys2Proof.Machine.execInactivityExpiry s
  | .gapExpiry => Sys2Proof.Machine.execGapExpiry s
  | .lampTimerExpiry which => Sys2Proof.Machine.execLampTimerExpiry which s
  | .lampBlinkToggle lamp => Sys2Proof.Machine.execLampBlinkToggle lamp s
  | .attnGapExpiry => Sys2Proof.Machine.execAttnGapExpiry s
  | .sleepTimerExpiry => Sys2Proof.Machine.execSleepTimerExpiry s

end Sys2Proof.Machine
end

