-- ==== Sys2Proof/Safety.lean ====
section
/-! DEFINITION. What counts as a safe run, the invariants of the part, and the words the statements use for what a command
leaves unchanged. -/

namespace Sys2Proof

open Sys2Proof.Machine

/-- A command runs: it ends in a next state, not in a fault and not in a refusal. -/
def Runs (o : StepOutcome) : Prop := ∃ t, o = .next t

/-- The part is ACTIVE (R189). -/
def Awake (s : State) : Prop := s.vks.power.asleep = false

/-- The state with the part replaced; flash and waiting commands stay. -/
def withPart (s : State) (v : Vks) : State := { s with vks := v }

/-- The part with the pending reply replaced. -/
def replying (code tag : Byte) (result : Result) (data bulk : List Byte) (v : Vks) : Vks :=
  { v with port := { v.port with reply := ⟨code, tag, result, data, bulk⟩ } }

/-- What the starts, readings, timers, lamps and ATTN that follow an event never change (R42, R107, R110, R127, R129,
R181, R184, R191): everything but the voices, the engine, the queues' heads, playing and low armed of the buffer, the
amplifier with its timers, the notice queue with its latch, ATTN, the blink phases, and the inactivity and sleep timers. -/
structure Untouched (a b : Vks) : Prop where
  words : a.words = b.words
  state : a.attempt.state = b.attempt.state
  ctx : a.attempt.ctx = b.attempt.ctx
  shelf : a.attempt.shelf = b.attempt.shelf
  lesson : a.lesson = b.lesson
  keys : a.keys = b.keys
  rows : a.sched.rows = b.sched.rows
  nextId : a.sched.nextId = b.sched.nextId
  store : a.reader.store = b.reader.store
  claimFrom : a.reader.claimFrom = b.reader.claimFrom
  headerOutcome : a.reader.headerOutcome = b.reader.headerOutcome
  segmentCount : a.reader.segmentCount = b.reader.segmentCount
  storeSize : a.reader.storeSize = b.reader.storeSize
  fault : a.reader.fault = b.reader.fault
  lastResult : a.reader.lastResult = b.reader.lastResult
  accRetry : a.reader.accRetry = b.reader.accRetry
  accFail : a.reader.accFail = b.reader.accFail
  holding : a.reader.holding = b.reader.holding
  interrupted : a.reader.interrupted = b.reader.interrupted
  samples : a.mixer.samples = b.mixer.samples
  endMark : a.mixer.endMark = b.mixer.endMark
  sizeInForce : a.mixer.sizeInForce = b.mixer.sizeInForce
  hostGain : a.mixer.hostGain = b.mixer.hostGain
  envelope : a.mixer.envelope = b.mixer.envelope
  holdCount : a.mixer.holdCount = b.mixer.holdCount
  clipCurrent : a.mixer.clipCurrent = b.mixer.clipCurrent
  clipLast : a.mixer.clipLast = b.mixer.clipLast
  clipSeen : a.mixer.clipSeen = b.mixer.clipSeen
  windowCount : a.mixer.windowCount = b.mixer.windowCount
  output : a.mixer.output = b.mixer.output
  i2s : a.mixer.i2s = b.mixer.i2s
  reply : a.port.reply = b.port.reply
  txn : a.port.txn = b.port.txn
  upstream : a.port.upstream = b.port.upstream
  underrun : a.port.latches.underrun = b.port.latches.underrun
  overrun : a.port.latches.overrun = b.port.latches.overrun
  keyLost : a.port.latches.keyLost = b.port.latches.keyLost
  badSlot : a.port.latches.badSlot = b.port.latches.badSlot
  resetSeen : a.port.resetSeen = b.port.resetSeen
  correct : a.notices.correct = b.notices.correct
  wrong : a.notices.wrong = b.notices.wrong
  asleep : a.power.asleep = b.power.asleep
  params : a.params = b.params

/-- What the Attempt Controller and the lesson walk never change, whatever they do in an event (R17, R22, R23, R37, R58):
`Untouched` without the attempt, the lesson unit, the identity counter and the two lamp timers. -/
structure OutsideAttempt (a b : Vks) : Prop where
  words : a.words = b.words
  keys : a.keys = b.keys
  rows : a.sched.rows = b.sched.rows
  store : a.reader.store = b.reader.store
  claimFrom : a.reader.claimFrom = b.reader.claimFrom
  headerOutcome : a.reader.headerOutcome = b.reader.headerOutcome
  segmentCount : a.reader.segmentCount = b.reader.segmentCount
  storeSize : a.reader.storeSize = b.reader.storeSize
  fault : a.reader.fault = b.reader.fault
  lastResult : a.reader.lastResult = b.reader.lastResult
  accRetry : a.reader.accRetry = b.reader.accRetry
  accFail : a.reader.accFail = b.reader.accFail
  holding : a.reader.holding = b.reader.holding
  interrupted : a.reader.interrupted = b.reader.interrupted
  samples : a.mixer.samples = b.mixer.samples
  endMark : a.mixer.endMark = b.mixer.endMark
  sizeInForce : a.mixer.sizeInForce = b.mixer.sizeInForce
  hostGain : a.mixer.hostGain = b.mixer.hostGain
  envelope : a.mixer.envelope = b.mixer.envelope
  holdCount : a.mixer.holdCount = b.mixer.holdCount
  clipCurrent : a.mixer.clipCurrent = b.mixer.clipCurrent
  clipLast : a.mixer.clipLast = b.mixer.clipLast
  clipSeen : a.mixer.clipSeen = b.mixer.clipSeen
  windowCount : a.mixer.windowCount = b.mixer.windowCount
  output : a.mixer.output = b.mixer.output
  i2s : a.mixer.i2s = b.mixer.i2s
  reply : a.port.reply = b.port.reply
  txn : a.port.txn = b.port.txn
  upstream : a.port.upstream = b.port.upstream
  underrun : a.port.latches.underrun = b.port.latches.underrun
  overrun : a.port.latches.overrun = b.port.latches.overrun
  keyLost : a.port.latches.keyLost = b.port.latches.keyLost
  badSlot : a.port.latches.badSlot = b.port.latches.badSlot
  resetSeen : a.port.resetSeen = b.port.resetSeen
  asleep : a.power.asleep = b.power.asleep
  params : a.params = b.params

/-- An engine utterance was made for `v` with the first 40 of the items given, under the next identity, and `t` holds it on
the main voice or waiting (R97, R99, R101, R102). -/
def EngineQueued (v t : Vks) (source : Source) (items : List Item) : Prop :=
  ∃ u ∈ t.sched.queue ++ t.reader.mainVoice.utterance.toList,
    u.id = v.sched.nextId ∧ u.source = source ∧ u.items = items.take 40

/-- An echo was made for `v` under the next identity, a CLICK while the store is CLAIM_PENDING or CLAIMED, and `t` holds it on
the echo voice or waiting (R101, R102, R108). -/
def EchoQueued (v t : Vks) (item : Item) : Prop :=
  ∃ u ∈ t.sched.echoLine.toList ++ t.reader.echoVoice.utterance.toList, u.id = v.sched.nextId ∧ u.source = .echo
    ∧ u.items = [if v.reader.store = .claimPending ∨ v.reader.store = .claimed then .tone .click else item]

/-- Every table has the number of places the spec gives it (R1, R6, R62, R75, R81, R93, R182). -/
structure TablesSized (v : Vks) : Prop where
  entries : v.words.entries.length = 512
  alphabet : v.words.alphabet.length = 48
  records : v.lesson.records.length = 512
  positions : v.keys.positions.length = 80
  keymap : v.keys.keymap.length = 80
  rows : v.sched.rows.length = 16
  lamps : v.params.lamps.length = 3
  blink : v.notices.blink.length = 3

/-- The main queue holds 16 engine utterances, so an arriving one ends at once (R105). -/
def TurnsAway (v : Vks) : Prop := 16 ≤ v.sched.queue.length ∧ ∀ y ∈ v.sched.queue, y.source ≠ .say

/-- The attempt awaits an engine utterance of source RESPONSE with the first 40 of the items given, outstanding, on the main
voice or waiting (R22, R35, R37, R99). -/
def AwaitsResponse (t : Vks) (kind : AwaitKind) (items : List Item) : Prop :=
  ∃ u ∈ t.sched.queue ++ t.reader.mainVoice.utterance.toList, u.source = .response ∧ u.items = items.take 40
    ∧ t.attempt.ctx.awaited = some (kind, u.id) ∧ u.id ∈ t.attempt.ctx.outstanding

/-- The lesson walk of R58 over the lesson unit `l` gave `t`: the first valid word is open with its entry's settings and retries,
the entries up to it are gone, and the gap timer is stopped; with no valid word the list is empty, lesson auto mode is off, and
the state is IDLE. -/
structure TakesNextWord (v t : Vks) (l : LessonUnit) : Prop where
  opens : ∀ (bad : List LessonEntry) (e : LessonEntry) (rest : List LessonEntry) (x : WordEntry),
    l.entries = bad ++ e :: rest → (∀ b ∈ bad, v.entry b.word = none) → v.entry e.word = some x →
    t.lesson = { l with entries := rest, gapTimer := none } ∧ (t.attempt.state = .prompting ∨ t.attempt.state = .listening)
      ∧ t.attempt.ctx.word = e.word ∧ t.attempt.ctx.origin = .lesson e.retries ∧ t.attempt.ctx.settings = x.settings
  empties : (∀ b ∈ l.entries, v.entry b.word = none) →
    t.lesson = { l with entries := [], auto := false, gapTimer := none } ∧ t.attempt.state = .idle

/-- Between `v` and `t` the closing response has ended and the lesson unit stood at `l` (R22, R45, R59): IDLE with lesson auto
mode off; with it on, GAP with its timer at INTER_WORD_GAP, and a gap of 0 over at once. -/
structure LeavesClosing (v t : Vks) (l : LessonUnit) (c : Context) : Prop where
  idle : l.auto = false → t.attempt.state = .idle ∧ t.lesson = l
    ∧ t.attempt.ctx = { c with awaited := none, outstanding := [] }
  gap : l.auto = true → v.params.interWordGap ≠ 0 → t.attempt.state = .gap
    ∧ t.lesson = { l with gapTimer := some v.params.interWordGap } ∧ t.attempt.ctx = { c with awaited := none, outstanding := [] }
  walk : l.auto = true → v.params.interWordGap = 0 → TakesNextWord v t l

/-- Between `v` and `t` the attempt whose context stood at `c` closes with a verdict other than CANCELLED and its position (R36,
R37). The closing row of the class and the verdict is enqueued and awaited in RESPONDING, or, where it gives no items or is
turned away, the closing response ends at once. ATTEMPT_CLOSED goes ahead of the MASTERY notice, the close is counted by
`countClose` with its class and origin, and the lamp's second starts (R183). The notices are stated where nothing can be raised
before them. -/
structure ClosesAttempt (v t : Vks) (c : Context) (verdict : Verdict) (p : Nat) : Prop where
  spoken :
    let cls := closeClass verdict c
    let items := expandAll v ⟨v.entry c.word, c.buffer, p, some verdict⟩ (v.row (closeRow verdict cls))
    let counted := countClose c.word verdict cls c.origin v
    let kept := { c with verdict := some verdict, verdictPosition := p, closed := true }
    (items ≠ [] → ¬ TurnsAway v → t.attempt.state = .responding ∧ AwaitsResponse t .closing items
      ∧ t.attempt.ctx = { kept with awaited := t.attempt.ctx.awaited, outstanding := t.attempt.ctx.outstanding }
      ∧ t.lesson = counted.lesson)
    ∧ ((items = [] ∨ TurnsAway v) → LeavesClosing v t counted.lesson kept)
  lamps : (verdict = .exact → t.notices.correct = some 1000) ∧ (verdict ≠ .exact → t.notices.wrong = some 1000)
  told : v.power.amp ≠ .on → v.params.ampWarmup ≠ 0 → v.sched.queue.length < 16 → v.notices.queue.length < 15 →
    TablesSized v → c.word < 512 →
    ∃ later, t.notices.queue = v.notices.queue ++ [.attemptClosed c.word verdict.code c.tryNumber c.hintsUsed c.mistakes p]
      ++ (let old := v.record c.word
          let new := (countClose c.word verdict (closeClass verdict c) c.origin v).record c.word
          if new.mastery = old.mastery then [] else [.mastery c.word old.mastery.code new.mastery.code new.streak]) ++ later

/-- Between `v` and `t` the attempt whose context stood at `c` fails a try with its verdict and position (R35). The row of the
verdict is enqueued and awaited in RESPONDING, or, where it gives no items or is turned away, the next try begins at once.
TRY_FAILED is raised, stated where nothing can be raised before it, and the WRONG lamp's second starts. -/
structure FailsTry (v t : Vks) (c : Context) (verdict : Verdict) (p : Nat) : Prop where
  spoken :
    let items := expandAll v ⟨v.entry c.word, c.buffer, p, some verdict⟩ (v.row (tryRow verdict))
    (items ≠ [] → ¬ TurnsAway v → t.attempt.state = .responding ∧ AwaitsResponse t .tryResponse items
      ∧ t.attempt.ctx = { c with verdict := some verdict, verdictPosition := p
                                 awaited := t.attempt.ctx.awaited, outstanding := t.attempt.ctx.outstanding })
    ∧ ((items = [] ∨ TurnsAway v) → t.attempt.state = .listening
      ∧ t.attempt.ctx = { c with verdict := some verdict, verdictPosition := p, buffer := [], tryNumber := c.tryNumber + 1
                                 hintStage := 0, hintPosition := 0, awaited := none
                                 outstanding := t.attempt.ctx.outstanding })
  lesson : t.lesson = v.lesson
  lamp : t.notices.wrong = some 1000
  told : v.power.amp ≠ .on → v.params.ampWarmup ≠ 0 → v.sched.queue.length < 16 → v.notices.queue.length < 16 →
    ∃ later, t.notices.queue = v.notices.queue ++ .tryFailed c.word verdict.code c.tryNumber p :: later

/-- A voice needs a read (R128): it is PLAYING, the store is USABLE, and its read item is a SEG whose entry has not been read, or
one with blocks left and a block's worth of room in the ring. -/
def WantsRead (v : Vks) (i : VoiceId) : Prop :=
  (v.voice i).state = .playing ∧ v.reader.store = .usable
    ∧ ((v.voice i).phase = .needEntry
      ∨ ((v.voice i).phase = .blocks ∧ ∃ d, (v.voice i).dir = some d
        ∧ (if d.rate = 1 then 512 else 256) ≤ (3072 - v.mixer.sizeInForce) / 2 - (v.voice i).ring.length))

/-- The engine reads what voice `i` needs: the entry of the segment of its read item, or that segment's next block (R119,
R129). -/
def ReadsFor (v : Vks) (i : VoiceId) : Prop :=
  ∀ segment, (v.voice i).items[(v.voice i).readItem - 1]? = some (.seg segment) →
    ((v.voice i).phase = .needEntry → v.reader.engine = .entryRead i segment true)
    ∧ (∀ d, (v.voice i).phase = .blocks → (v.voice i).dir = some d →
      v.reader.engine = .blockRead i segment (v.voice i).nextBlock (d.start + 258 * (v.voice i).nextBlock)
        (min 256 (v.voice i).samplesLeft) d.rate true)

/-- R129: the arbiter has looked at an IDLE engine. It serves the voice that needs a read, of two the one with fewer samples
buffered, on equal counts the main voice; with none in need the engine is IDLE. -/
structure ArbiterServes (v : Vks) : Prop where
  none : ¬ WantsRead v .main → ¬ WantsRead v .echo → v.reader.engine = .idle
  main : WantsRead v .main → (WantsRead v .echo → v.reader.mainVoice.ring.length ≤ v.reader.echoVoice.ring.length) →
    ReadsFor v .main
  echo : WantsRead v .echo → (WantsRead v .main → v.reader.echoVoice.ring.length < v.reader.mainVoice.ring.length) →
    ReadsFor v .echo

/-- The 23 parameters by id, with the GET data of each (08 section 8.6, R145, R173). -/
def parameterTable (v : Vks) : List (Nat × List Byte) :=
  [ (1, leBytes 4 v.params.hostLevel), (2, leBytes 4 v.params.duckLevel), (3, leBytes 4 v.params.duckFallStep),
    (4, leBytes 4 v.params.duckRiseStep), (5, leBytes 4 v.params.duckHold), (6, leBytes 4 v.params.mainVoiceLevel),
    (7, leBytes 4 v.params.echoVoiceLevel), (8, leBytes 2 v.params.playoutSize ++ leBytes 2 v.mixer.sizeInForce),
    (9, leBytes 4 v.params.playoutMark), (10, leBytes 4 v.params.echoCutFloor), (11, leBytes 4 v.params.debounce),
    (12, leBytes 4 (if v.params.routeSpell then 1 else 0)), (13, leBytes 4 v.params.inactivity),
    (14, leBytes 4 v.params.interWordGap), (15, leBytes 4 v.params.knownStreak), (16, leBytes 4 v.params.attnMask.toNat),
    (17, leBytes 4 v.params.attnGap), (18, leBytes 4 (v.lamp 0).value), (19, leBytes 4 (v.lamp 1).value),
    (20, leBytes 4 (v.lamp 2).value), (21, leBytes 4 v.params.ampStandby), (22, leBytes 4 v.params.ampWarmup),
    (23, leBytes 4 v.params.sleepAfter) ]

/-! ### Invariants -/

/-- Items used by all valid entries (R4). -/
def itemsUsed (entries : List (Option WordEntry)) : Nat := (entries.map entryItems).sum

/-- R3, R4: the table has 512 entries, an override list is as long as its word, and the pool's account balances. -/
def PoolBalances (v : Vks) : Prop :=
  v.words.entries.length = Config.words
    ∧ (∀ e ∈ v.words.entries, ∀ x, e = some x → ∀ o, x.overrides = some o → o.length = x.letters.length)
    ∧ itemsUsed v.words.entries + v.words.freeItems = Config.poolItems

/-- R178: the notice queue holds at most 16 notices. -/
def NoticesFit (v : Vks) : Prop := v.notices.queue.length ≤ Config.queuePlaces

/-- R77, R89: at most 4 held keys and at most 16 key reports. -/
def KeysFit (v : Vks) : Prop := v.keys.held.length ≤ Config.heldPlaces ∧ v.keys.reports.length ≤ Config.queuePlaces

/-- R53, R70: at most 32 lesson entries and at most 32 review entries, each word once. -/
def ListsFit (v : Vks) : Prop :=
  v.lesson.entries.length ≤ Config.listPlaces ∧ v.lesson.review.length ≤ Config.listPlaces ∧ v.lesson.review.Nodup

/-- R104: the main queue holds at most 16 waiting utterances. -/
def QueueFits (v : Vks) : Prop := v.sched.queue.length ≤ Config.queuePlaces

/-- R145, R146: the playout buffer holds no more than its capacity, which is 512..2560 in steps of 256, as is the pending size. -/
def BufferFits (v : Vks) : Prop :=
  v.mixer.samples.length ≤ v.mixer.sizeInForce
    ∧ (512 ≤ v.mixer.sizeInForce ∧ v.mixer.sizeInForce ≤ 2560 ∧ v.mixer.sizeInForce % 256 = 0)
    ∧ (512 ≤ v.params.playoutSize ∧ v.params.playoutSize ≤ 2560 ∧ v.params.playoutSize % 256 = 0)

/-- R154, R161: the output sample is a 16-bit value, and both words of the I2S frame carry the same sample. -/
def OutputFits (v : Vks) : Prop :=
  -32768 ≤ v.mixer.output ∧ v.mixer.output ≤ 32767 ∧ v.mixer.i2s.left = v.mixer.i2s.right

/-- R169: the reply carries 4 data bytes. -/
def ReplyFits (v : Vks) : Prop := v.port.reply.data.length = 4

/-- R189, R190: a sleeping part has its amplifier OFF, its playout buffer STOPPED, the output 0 and the I2S lines stopped, and
the conditions under which it fell asleep still hold: attempt IDLE, voices IDLE, nothing waiting, engine IDLE. That the
held output sample is 0 is the model's choice (log 18). -/
def SleepIsQuiet (v : Vks) : Prop :=
  v.power.asleep = true →
    v.power.amp = .off ∧ v.mixer.playing = false ∧ v.mixer.output = 0 ∧ v.mixer.i2s.driven = false ∧ sleepObstacle v = none

end Sys2Proof
end

