-- ==== Sys2Proof/WellFormed.lean ====
section
/-! DEFINITION. Which commands the rules can produce. An ill-formed command still has a meaning (log 7, log 8, log 9). -/

namespace Sys2Proof

open Sys2Proof.Machine

/-- The command codes some block owns (08 section 8.5). -/
def ownedCodes : List Nat :=
  [0x01, 0x02, 0x03, 0x04, 0x05, 0x06, 0x07, 0x10, 0x11, 0x12, 0x13, 0x14, 0x15, 0x16, 0x17, 0x20, 0x21, 0x22, 0x23, 0x24,
    0x28, 0x29, 0x2A, 0x2B, 0x2C, 0x2D, 0x30, 0x31, 0x32, 0x33, 0x34, 0x38, 0x39, 0x3A, 0x40, 0x41, 0x42, 0x43, 0x44, 0x45, 0x46]

/-- A code no block owns (R165). -/
def Instr.codeUnowned (code : Byte) : Bool := !ownedCodes.contains code.toNat

/-- An argument a CONTROL slot can carry (R164 cause 4). -/
def Instr.argFits (arg : List Byte) : Bool := decide (arg.length ≤ 58)

/-- Samples an AUDIO slot can carry (R147, R164 cause 4). -/
def Instr.samplesFit (samples : List Sample) : Bool := decide (samples.length ≤ 29)

/-- The argument is a TABLE GET of the given selector (R171). -/
def Instr.selects (selector : Nat) (arg : List Byte) : Bool := decide (arg.length = 2) && decide (byteAt arg 0 = selector)

/-- Wrong bytes that lie inside a reading of `n` bytes. -/
def Instr.misreadFits (n : Nat) (bad : Misread) : Bool := bad.all (fun p => decide (p.1 < n))

/-- Well-formed commands. -/
def Instr.wf : Instr → Bool
  | .powerOnReset => true
  | .transactionBegin => true
  | .transactionEnd _ => true
  | .idleSlot => true
  | .audioSlot _ samples => samplesFit samples
  | .badCommand code _ arg => codeUnowned code && argFits arg
  | .identify _ arg => argFits arg
  | .reset _ arg => argFits arg
  | .streamRestart _ arg => argFits arg
  | .sleep _ arg => argFits arg
  | .set _ arg => argFits arg
  | .get _ arg => argFits arg
  | .clearFlags _ arg => argFits arg
  | .wordPut _ arg => argFits arg
  | .wordSounds _ arg => argFits arg
  | .wordDrop _ arg => argFits arg
  | .wordGet _ arg => argFits arg
  | .alphabetPut _ arg => argFits arg
  | .tableGetAlphabet _ arg => argFits arg && !selects 1 arg && !selects 2 arg
  | .tableGetKeymap _ arg => selects 1 arg
  | .tableGetResponses _ arg => selects 2 arg
  | .keymapPut _ arg => argFits arg
  | .responsePut _ arg => argFits arg
  | .attemptOpen _ arg => argFits arg
  | .attemptCancel _ arg => argFits arg
  | .attemptShelve _ arg => argFits arg
  | .attemptUnshelve _ arg => argFits arg
  | .attemptGet _ arg => argFits arg
  | .lessonAdd _ arg => argFits arg
  | .lessonClear _ arg => argFits arg
  | .lessonFromReview _ arg => argFits arg
  | .lessonStart _ arg => argFits arg
  | .lessonStop _ arg => argFits arg
  | .lessonGet _ arg => argFits arg
  | .progressGet _ arg => argFits arg
  | .progressPut _ arg => argFits arg
  | .progressClear _ arg => argFits arg
  | .reviewGet _ arg => argFits arg
  | .reviewClear _ arg => argFits arg
  | .say _ arg => argFits arg
  | .silence _ arg => argFits arg
  | .queueGet _ arg => argFits arg
  | .storeClaim _ arg => argFits arg
  | .storeRelease _ arg => argFits arg
  | .storeWrite _ arg => argFits arg
  | .storeErase _ arg => argFits arg
  | .storeRead _ arg => argFits arg
  | .storeFetch _ arg => argFits arg
  | .faultGet _ arg => argFits arg
  | .storeWriteEnd _ bad1 bad2 => misreadFits 32 bad1 && misreadFits 32 bad2
  | .storeEraseEnd _ bad1 bad2 => misreadFits 4096 bad1 && misreadFits 4096 bad2
  | .storeReadEnd _ bad => misreadFits 48 bad
  | .headerCheckEnd _ bad1 bad2 => misreadFits 16 bad1 && misreadFits 16 bad2
  | .directoryReadEnd bad => misreadFits 8 bad
  | .blockReadEnd bad1 bad2 => misreadFits 258 bad1 && misreadFits 258 bad2
  | .keyScan _ => true
  | .sleepScan _ => true
  | .outputInstant => true
  | .clipWindowEnd => true
  | .duckHoldEnd => true
  | .ampWarmupExpiry => true
  | .ampStandbyExpiry => true
  | .inactivityExpiry => true
  | .gapExpiry => true
  | .lampTimerExpiry _ => true
  | .lampBlinkToggle _ => true
  | .attnGapExpiry => true
  | .sleepTimerExpiry => true

end Sys2Proof
end

