-- ==== Sys2Proof/Certificates/Slice0/Obligations.lean ====
section
/-! DEFINITION. The statements about the model. -/

open Sys2Proof Sys2Proof.Machine

/-! ### The machine -/

/-- The command at the front of the queue runs on the state with the queue's rest. With none waiting the state stays, which
is the model's choice (log 21). -/
def Obligations.StepRunsTheFrontCommand : Prop :=
  (∀ (c : Instr) (rest : List Instr) (s : State), step { s with pending := c :: rest } = exec c { s with pending := rest })
    ∧ (∀ s : State, s.pending = [] → step s = .next s)

/-- R175, R81, R93, R142, R161, R178, R185, R189: a power-on reset leaves the values below, the 16 default response rows and
the 80 default keymap entries among them, and keeps the flash. That the waiting commands stay (log 21), and that a transaction
it abandons is over at once (log 33), are the model's choices. -/
def Obligations.PowerOnResetRestoresEveryBlock : Prop :=
  ∀ s : State, ∃ t, exec .powerOnReset s = .next t ∧ t.flash = s.flash ∧ t.pending = s.pending
    ∧ (∀ w, t.vks.entry w = none) ∧ t.vks.words.freeItems = 6144 ∧ (∀ c, t.vks.letter c = ⟨none, none⟩)
    ∧ t.vks.attempt.state = .idle ∧ t.vks.attempt.shelf = none ∧ t.vks.attempt.inactivity = none
    ∧ t.vks.lesson.entries = [] ∧ t.vks.lesson.auto = false ∧ t.vks.lesson.gapTimer = none
    ∧ (∀ w, t.vks.record w = ProgressRecord.zero) ∧ t.vks.lesson.review = []
    ∧ (∀ k ∈ t.vks.keys.positions, k = ⟨some .latched, 0⟩) ∧ t.vks.keys.held = [] ∧ t.vks.keys.ghostBlock = false
    ∧ t.vks.keys.reports = [] ∧ t.vks.keys.time = 0#16
    ∧ t.vks.sched.queue = [] ∧ t.vks.sched.echoLine = none ∧ t.vks.sched.nextId = 1
    ∧ t.vks.reader.mainVoice.state = .idle ∧ t.vks.reader.echoVoice.state = .idle
    ∧ t.vks.reader.store = .checking ∧ t.vks.reader.engine = .header ∧ t.vks.reader.headerOutcome = .none
    ∧ t.vks.reader.fault.full = false ∧ t.vks.reader.fault.more = 0 ∧ t.vks.reader.holding = none
    ∧ t.vks.mixer.samples = [] ∧ t.vks.mixer.playing = false ∧ t.vks.mixer.sizeInForce = 1536
    ∧ t.vks.mixer.hostGain = 16384 ∧ t.vks.mixer.envelope = .opened ∧ t.vks.mixer.clipSeen = false
    ∧ t.vks.port.reply = ⟨0#8, 0#8, .none, [0#8, 0#8, 0#8, 0#8], []⟩ ∧ t.vks.port.latches = ⟨false, false, false, false, false⟩
    ∧ t.vks.port.resetSeen = true ∧ t.vks.notices.queue = [] ∧ t.vks.notices.attn = false
    ∧ t.vks.power.amp = .off ∧ t.vks.power.asleep = false ∧ t.vks.mixer.i2s.driven = false ∧ t.vks.port.txn = none
    ∧ t.vks.sched.rows =
        [ [.tone .chime, .word], [.tone .chime, .word], [.tone .buzz, .letterNameAt], [.tone .buzz], [.tone .buzz], [.tone .buzz],
          [.tone .buzz], [.tone .buzz, .spellTarget], [.tone .buzz, .spellTarget], [.tone .buzz, .spellTarget],
          [.tone .buzz, .spellTarget], [.tone .buzz, .spellTarget], [.tone .buzz], [.spellTarget, .word], [.prompt], [.word] ]
    ∧ t.vks.keys.keymap = (List.range 80).map (fun p => ⟨.pass, 0, BitVec.ofNat 8 p⟩)
    ∧ t.vks.params.playoutSize = 1536 ∧ t.vks.params.attnMask = 0x1FFDF#17 ∧ t.vks.params.debounce = 8

/-- R175, R19, R20, R51, R73, R90, R117, R142, R146, R159, R161, R168, R178, R181, R183, R185, R189: a taken RESET keeps the
tables, the records, the review list, the keymap, the rows and the parameters but a lowered mark. It clears the context and
the shelf, empties the lists, the queues, the held keys, the fault record and the holding area, makes every position down
and LATCHED, stops the buffer, the I2S output, the timers and ATTN, puts the pending PLAYOUT_SIZE in force, and answers
RESET OK with RESET_SEEN set. That the waiting commands stay (log 21), and that the open transaction then delivers nothing
(log 29), are the model's choices. -/
def Obligations.ResetKeepsTablesAndEmptiesTheRest : Prop :=
  ∀ (s : State) (tag : Byte), Awake s → ∃ t, exec (.reset tag []) s = .next t ∧ t.flash = s.flash ∧ t.pending = s.pending
    ∧ t.vks.words = s.vks.words ∧ t.vks.lesson.records = s.vks.lesson.records ∧ t.vks.lesson.review = s.vks.lesson.review
    ∧ t.vks.keys.keymap = s.vks.keys.keymap ∧ t.vks.sched.rows = s.vks.sched.rows
    ∧ t.vks.params = { s.vks.params with playoutMark := min s.vks.params.playoutMark s.vks.params.playoutSize }
    ∧ t.vks.attempt.state = .idle ∧ t.vks.attempt.shelf = none ∧ t.vks.attempt.inactivity = none
    ∧ t.vks.attempt.ctx = { word := 0, settings := ⟨.immediate, .name, false, 0, 0, 0⟩, tryNumber := 0, buffer := [], mistakes := 0
                            hintsUsed := 0, hintStage := 0, hintPosition := 0, nudged := false, origin := .command
                            verdict := none, verdictPosition := 0, closed := false, awaited := none, outstanding := [] }
    ∧ t.vks.lesson.entries = [] ∧ t.vks.lesson.auto = false ∧ t.vks.lesson.gapTimer = none
    ∧ t.vks.sched.queue = [] ∧ t.vks.sched.echoLine = none ∧ t.vks.sched.nextId = 1
    ∧ t.vks.reader.mainVoice = Voice.idle ∧ t.vks.reader.echoVoice = Voice.idle
    ∧ t.vks.reader.store = .checking ∧ t.vks.reader.engine = .header ∧ t.vks.reader.headerOutcome = .none
    ∧ t.vks.reader.fault = ⟨false, 0, 0, 0, 0⟩ ∧ t.vks.reader.lastResult = .none ∧ t.vks.reader.accRetry = false
    ∧ t.vks.reader.accFail = false ∧ t.vks.reader.holding = none
    ∧ t.vks.mixer.samples = [] ∧ t.vks.mixer.playing = false ∧ t.vks.mixer.endMark = false ∧ t.vks.mixer.lowArmed = true
    ∧ t.vks.mixer.sizeInForce = s.vks.params.playoutSize
    ∧ t.vks.mixer.hostGain = s.vks.params.hostLevel ∧ t.vks.mixer.envelope = .opened ∧ t.vks.mixer.holdCount = 0
    ∧ t.vks.mixer.clipCurrent = false ∧ t.vks.mixer.clipLast = false ∧ t.vks.mixer.clipSeen = false
    ∧ t.vks.mixer.i2s.driven = false ∧ t.vks.keys.positions = List.replicate 80 ⟨some .latched, 0⟩ ∧ t.vks.keys.ghostBlock = false
    ∧ t.vks.keys.held = [] ∧ t.vks.keys.reports = [] ∧ t.vks.keys.time = 0#16
    ∧ t.vks.notices.queue = [] ∧ t.vks.notices.attn = false ∧ t.vks.notices.attnGap = none
    ∧ t.vks.notices.correct = none ∧ t.vks.notices.wrong = none
    ∧ t.vks.power.asleep = false ∧ t.vks.power.amp = .off ∧ t.vks.power.warmup = none ∧ t.vks.power.standby = 0
    ∧ t.vks.port.txn = s.vks.port.txn.map (fun _ => ⟨0, 0, ⟨false, false, false, false, false⟩⟩)
    ∧ t.vks.port.latches = ⟨false, false, false, false, false⟩ ∧ t.vks.port.resetSeen = true
    ∧ t.vks.port.reply = ⟨0x02#8, tag, .ok, [0#8, 0#8, 0#8, 0#8], []⟩

/-- R160: STREAM RESTART puts the pending size in force, empties the buffer and opens the envelope; the parameters but a
lowered mark, CLIP_SEEN, the store and the four latches no cut can set stay; with nothing waiting and nothing outstanding,
both voices are IDLE with empty rings. -/
def Obligations.StreamRestartEmptiesTheStream : Prop :=
  ∀ (s : State) (tag : Byte), Awake s → ∃ t, exec (.streamRestart tag []) s = .next t
    ∧ t.flash = s.flash ∧ t.pending = s.pending
    ∧ OutsideAttempt t.vks (replying 0x03#8 tag .ok
        (leBytes 2 s.vks.params.playoutSize ++ leBytes 2 ((3072 - s.vks.params.playoutSize) / 2)) []
        { s.vks with
          params := { s.vks.params with playoutMark := min s.vks.params.playoutMark s.vks.params.playoutSize }
          mixer := { s.vks.mixer with
            sizeInForce := s.vks.params.playoutSize, samples := [], endMark := false
            hostGain := s.vks.params.hostLevel, envelope := .opened, holdCount := 0
            clipCurrent := false, clipLast := false, windowCount := 0 } })
    ∧ t.vks.mixer.playing = false
    ∧ (s.vks.attempt.ctx.outstanding = [] → s.vks.sched.queue = [] → s.vks.sched.echoLine = none →
        t.vks.reader.mainVoice = Voice.idle ∧ t.vks.reader.echoVoice = Voice.idle)

/-- R189, R190, R161: SLEEP is taken when its four conditions hold, and the part is then asleep with amplifier, buffer, I2S
output, lamps and timers stopped and everything else kept; otherwise BUSY names the first condition that fails and nothing else
changes. That the words of the stopped I2S output are held as 0 is the model's choice (log 18). -/
def Obligations.SleepStopsTheOutputs : Prop :=
  ∀ (s : State) (tag : Byte), Awake s →
    (s.vks.attempt.state = .idle → s.vks.reader.mainVoice.state = .idle → s.vks.reader.echoVoice.state = .idle →
      s.vks.sched.queue = [] → s.vks.sched.echoLine = none → s.vks.reader.engine = .idle →
      exec (.sleep tag []) s = .next (withPart s (replying 0x04#8 tag .ok [0#8, 0#8, 0#8, 0#8] []
        { s.vks with
          mixer := { s.vks.mixer with
            playing := false, hostGain := s.vks.params.hostLevel, envelope := .opened, holdCount := 0
            clipCurrent := false, clipLast := false, windowCount := 0, output := 0, i2s := ⟨false, 0#16, 0#16⟩ }
          notices := { s.vks.notices with correct := none, wrong := none, blink := [none, none, none] }
          power := { asleep := true, amp := .off, warmup := none, standby := 0, sleepTimer := none } })))
    ∧ (s.vks.attempt.state ≠ .idle →
      exec (.sleep tag []) s = .next (withPart s (replying 0x04#8 tag .busy [1#8, 0#8, 0#8, 0#8] [] s.vks)))
    ∧ (s.vks.attempt.state = .idle → (s.vks.reader.mainVoice.state ≠ .idle ∨ s.vks.reader.echoVoice.state ≠ .idle) →
      exec (.sleep tag []) s = .next (withPart s (replying 0x04#8 tag .busy [2#8, 0#8, 0#8, 0#8] [] s.vks)))
    ∧ (s.vks.attempt.state = .idle → s.vks.reader.mainVoice.state = .idle → s.vks.reader.echoVoice.state = .idle →
      (s.vks.sched.queue ≠ [] ∨ s.vks.sched.echoLine ≠ none) →
      exec (.sleep tag []) s = .next (withPart s (replying 0x04#8 tag .busy [3#8, 0#8, 0#8, 0#8] [] s.vks)))
    ∧ (s.vks.attempt.state = .idle → s.vks.reader.mainVoice.state = .idle → s.vks.reader.echoVoice.state = .idle →
      s.vks.sched.queue = [] → s.vks.sched.echoLine = none → s.vks.reader.engine ≠ .idle →
      exec (.sleep tag []) s = .next (withPart s (replying 0x04#8 tag .busy [4#8, 0#8, 0#8, 0#8] [] s.vks)))

/-! ### The link (08) -/

/-- R165, R129: an IDLE slot sets the reply NONE and leaves what `Untouched` names; the voices, the queues' heads and the
notices may go on as they do in any event, and an IDLE read engine is handed to the voice the arbiter chooses. A BAD_COMMAND
slot is answered with its own code and tag and changes nothing else, whatever its code: for the codes a block owns that is
the model's choice (log 9), the codes no block owns are R165's. -/
def Obligations.SlotsThatReachNoBlock : Prop :=
  (∀ s : State, Awake s → ∃ t, exec .idleSlot s = .next t ∧ t.flash = s.flash ∧ t.pending = s.pending
    ∧ Untouched t.vks (replying 0#8 0#8 .none [0#8, 0#8, 0#8, 0#8] [] s.vks)
    ∧ (s.vks.reader.engine = .idle → ArbiterServes t.vks))
  ∧ (∀ (s : State) (code tag : Byte) (arg : List Byte), Awake s → arg.length ≤ 58 →
    exec (.badCommand code tag arg) s = .next (withPart s (replying code tag .badCommand [0#8, 0#8, 0#8, 0#8] [] s.vks)))

/-- R147, R148, R149, R185, R186: the samples that fit join the tail of the playout buffer; a discard latches OVERRUN and
raises AUDIO_OVERRUN with its count and the fill; the end mark is set by LAST, cleared by an append without it, and kept by
an empty slot without it. An append or a set end mark is then tested: a STOPPED buffer that is ready plays with the
amplifier ON, asks for it in OFF, and waits in WARMING; one that is not ready stays STOPPED; a PLAYING one is compared with
the mark. -/
def Obligations.AudioSlotAppendsWhatFits : Prop :=
  ∀ (s : State) (last : Bool) (samples : List Sample), Awake s → samples.length ≤ 29 →
    s.vks.mixer.samples.length ≤ s.vks.mixer.sizeInForce →
    let size := s.vks.mixer.sizeInForce
    let old := s.vks.mixer.samples.length
    let fill := min size (old + samples.length)
    let mark := s.vks.params.playoutMark
    ∃ t, exec (.audioSlot last samples) s = .next t ∧ t.flash = s.flash ∧ t.pending = s.pending
      ∧ t.vks.mixer.samples = s.vks.mixer.samples ++ (samples.take (size - old)).map BitVec.toInt
      ∧ t.vks.mixer.samples.length = fill
      ∧ (last = true → t.vks.mixer.endMark = true)
      ∧ (last = false → samples ≠ [] → old < size → t.vks.mixer.endMark = false)
      ∧ (last = false → samples = [] → t.vks.mixer.endMark = s.vks.mixer.endMark)
      ∧ (size < old + samples.length → t.vks.port.latches.overrun = true
          ∧ (s.vks.notices.queue.length < 16 → ∃ later, t.vks.notices.queue
              = s.vks.notices.queue ++ .audioOverrun (old + samples.length - size) size :: later))
      ∧ (old + samples.length ≤ size → t.vks.port.latches.overrun = s.vks.port.latches.overrun)
      ∧ ((last = true ∨ old < fill) → s.vks.mixer.playing = false → 1 ≤ fill → mark ≤ fill →
          (s.vks.power.amp = .on → t.vks.mixer.playing = true ∧ t.vks.mixer.lowArmed = true)
          ∧ (s.vks.power.amp = .off → s.vks.params.ampWarmup ≠ 0 → t.vks.mixer.playing = false
            ∧ t.vks.power.amp = .warming ∧ t.vks.power.warmup = some s.vks.params.ampWarmup)
          ∧ (s.vks.power.amp = .off → s.vks.params.ampWarmup = 0 → t.vks.mixer.playing = true ∧ t.vks.power.amp = .on)
          ∧ (s.vks.power.amp = .warming → t.vks.mixer.playing = false ∧ t.vks.power.amp = .warming
            ∧ t.vks.power.warmup = s.vks.power.warmup))
      ∧ (s.vks.mixer.playing = false → (fill = 0 ∨ fill < mark) → t.vks.mixer.playing = false)
      ∧ (s.vks.mixer.playing = true → t.vks.mixer.playing = true)
      ∧ ((last = true ∨ old < fill) → s.vks.mixer.playing = true →
          (mark ≤ fill → t.vks.mixer.lowArmed = true)
          ∧ (fill < mark → s.vks.mixer.lowArmed = true → t.vks.mixer.endMark = false → t.vks.mixer.lowArmed = false
            ∧ (old + samples.length ≤ size → s.vks.notices.queue.length < 16 →
                ∃ later, t.vks.notices.queue = s.vks.notices.queue ++ .audioLow fill mark :: later)))
      ∧ t.vks.port.reply = ⟨0#8, 0#8, .none, [0#8, 0#8, 0#8, 0#8], []⟩
      ∧ t.vks.words = s.vks.words ∧ t.vks.attempt.ctx = s.vks.attempt.ctx ∧ t.vks.attempt.state = s.vks.attempt.state
      ∧ t.vks.lesson = s.vks.lesson ∧ t.vks.keys = s.vks.keys ∧ t.vks.params = s.vks.params

/-- R174: IDENTIFY carries no argument; it returns the part code, the revision and the 17 bytes of capacities, and changes
nothing; any other length is BAD_ARGS cause 1. -/
def Obligations.IdentifyReturnsTheCapacities : Prop :=
  ∀ (s : State) (tag : Byte), Awake s →
    exec (.identify tag []) s = .next (withPart s (replying 0x01#8 tag .ok [0x20#8, 0x14#8, 1#8, 0#8]
      [0x20#8, 0x14#8, 1#8, 0x00#8, 0x02#8, 0x00#8, 0x18#8, 0x00#8, 0x08#8, 16#8, 1#8, 16#8, 16#8, 32#8, 32#8, 0x00#8, 0x0C#8]
      s.vks))
    ∧ ∀ arg : List Byte, arg ≠ [] → arg.length ≤ 58 →
      exec (.identify tag arg) s = .next (withPart s (replying 0x01#8 tag .badArgs [1#8, 0#8, 0#8, 0#8] [] s.vks))

/-- R173: GET answers the value in force of each of the 23 parameters and changes nothing; any other length is BAD_ARGS
cause 1, any other id cause 16; after a power-on reset every GET returns the default of section 8.6. -/
def Obligations.GetReturnsTheValueInForce : Prop :=
  (∀ (s : State) (tag : Byte), Awake s →
    (∀ p ∈ parameterTable s.vks, exec (.get tag [BitVec.ofNat 8 p.1]) s
        = .next (withPart s (replying 0x06#8 tag .ok p.2 [] s.vks)))
    ∧ (∀ arg : List Byte, arg.length ≠ 1 → arg.length ≤ 58 →
      exec (.get tag arg) s = .next (withPart s (replying 0x06#8 tag .badArgs [1#8, 0#8, 0#8, 0#8] [] s.vks)))
    ∧ (∀ id : Byte, (id = 0#8 ∨ 23 < id.toNat) →
      exec (.get tag [id]) s = .next (withPart s (replying 0x06#8 tag .badArgs [16#8, 0#8, 0#8, 0#8] [] s.vks))))
  ∧ (∀ s t : State, exec .powerOnReset s = .next t → parameterTable t.vks =
      [ (1, leBytes 4 16384), (2, leBytes 4 4096), (3, leBytes 4 16), (4, leBytes 4 4), (5, leBytes 4 300),
        (6, leBytes 4 16384), (7, leBytes 4 12288), (8, leBytes 2 1536 ++ leBytes 2 1536), (9, leBytes 4 512),
        (10, leBytes 4 150), (11, leBytes 4 8), (12, leBytes 4 1), (13, leBytes 4 10), (14, leBytes 4 1500),
        (15, leBytes 4 3), (16, leBytes 4 0x1FFDF), (17, leBytes 4 0), (18, leBytes 4 2), (19, leBytes 4 4),
        (20, leBytes 4 5), (21, leBytes 4 5), (22, leBytes 4 20), (23, leBytes 4 0) ])

/-- R172, R84, R182, R44, R111, R148, R149, R191: a SET stores the value used, keeps every other parameter, and answers the
value used with the mark of a change; the ignored bits of a lamp are not marked. In the same event INACTIVITY re-arms the
counting timer or stops it; an ECHO_CUT_FLOOR that the playing echo's age has reached lets a waiting echo take over; a
PLAYOUT_MARK raised above the fill of a PLAYING buffer is compared (a reading of R148 and R149: log 28), and a STOPPED
buffer is tested, at a SET of the mark in force too, which is the model's choice (log 35); SLEEP_AFTER starts its timer
afresh where its conditions hold. A KEY_ROUTE above 1, a lamp mode above 8, an id outside 1..23 or a wrong length is refused
and changes nothing. -/
def Obligations.SetStoresTheValueUsed : Prop :=
  ∀ (s : State) (tag : Byte), Awake s → TablesSized s.vks →
    let undefinedValue := fun id x : Nat => (id = 12 ∧ 1 < x) ∨ (18 ≤ id ∧ id ≤ 20 ∧ 8 < x % 16)
    (∀ id x : Nat, 1 ≤ id → id ≤ 23 → x < 2 ^ 32 → ¬ undefinedValue id x →
      ∃ t, exec (.set tag (leBytes 1 id ++ leBytes 4 x)) s = .next t ∧ t.flash = s.flash ∧ t.pending = s.pending
        ∧ t.vks.params.value id = paramUsed s.vks id x
        ∧ (∀ j, j ≠ id → t.vks.params.value j = s.vks.params.value j)
        ∧ OutsideAttempt t.vks (replying 0x05#8 tag .ok
            (leBytes 3 (paramUsed s.vks id x)
              ++ [if paramUsed s.vks id x = x ∨ id = 18 ∨ id = 19 ∨ id = 20 then 0#8 else 1#8]) []
            { s.vks with params := t.vks.params })
        ∧ (id ≠ 10 → Untouched t.vks (replying 0x05#8 tag .ok t.vks.port.reply.data [] { s.vks with params := t.vks.params })))
    ∧ (∀ x : Nat, x < 2 ^ 32 →
      let used := fun id => paramUsed s.vks id x
      let fill := s.vks.mixer.samples.length
      let did := fun (id : Nat) (effect : Vks → Prop) =>
        ∃ t, exec (.set tag (leBytes 1 id ++ leBytes 4 x)) s = .next t ∧ effect t.vks
      did 13 (fun v => v.attempt.inactivity = if s.vks.attempt.state = .listening ∧ s.vks.attempt.ctx.outstanding = [] ∧ used 13 ≠ 0
        then some (used 13 * 1000) else none)
      ∧ (∀ p w, s.vks.reader.echoVoice.utterance = some p → s.vks.sched.echoLine = some w →
        s.vks.reader.echoVoice.state = .playing →
        let passed := used 10 * 16 ≤ p.playSamples
          ∧ (s.vks.reader.store = .usable ∨ s.vks.reader.store = .unusable ∨ ∃ k : Tone, w.items = [.tone k])
        did 10 (fun v =>
          (passed → v.sched.echoLine = none ∧ v.reader.echoVoice.utterance = some { w with playItem := 1, playSamples := 0 }
            ∧ v.attempt.ctx = { s.vks.attempt.ctx with outstanding := s.vks.attempt.ctx.outstanding.filter (fun y => y ≠ p.id) })
          ∧ (¬ passed → v.sched.echoLine = some w ∧ v.reader.echoVoice.utterance = some p ∧ v.attempt.ctx = s.vks.attempt.ctx)))
      ∧ did 9 (fun v =>
        let compared := s.vks.params.playoutMark < used 9 ∧ fill < used 9
        let ready := 1 ≤ fill ∧ used 9 ≤ fill
        (s.vks.mixer.playing = true → v.mixer.playing = true
          ∧ (¬ compared → v.mixer.lowArmed = s.vks.mixer.lowArmed)
          ∧ (compared → v.mixer.lowArmed = (s.vks.mixer.lowArmed && s.vks.mixer.endMark)
            ∧ (s.vks.mixer.lowArmed = true → s.vks.mixer.endMark = false → s.vks.notices.queue.length < 16 →
              ∃ later, v.notices.queue = s.vks.notices.queue ++ .audioLow fill (used 9) :: later)))
        ∧ (s.vks.mixer.playing = false → (¬ ready → v.mixer.playing = false)
          ∧ (ready → s.vks.power.amp = .on → v.mixer.playing = true ∧ v.mixer.lowArmed = true)
          ∧ (ready → s.vks.power.amp = .warming → v.mixer.playing = false)
          ∧ (ready → s.vks.power.amp = .off → s.vks.params.ampWarmup ≠ 0 → v.mixer.playing = false ∧ v.power.amp = .warming
            ∧ v.power.warmup = some s.vks.params.ampWarmup)
          ∧ (ready → s.vks.power.amp = .off → s.vks.params.ampWarmup = 0 → v.mixer.playing = true ∧ v.power.amp = .on)))
      ∧ did 23 (fun v => v.power.sleepTimer = if used 23 ≠ 0 ∧ v.attempt.state = .idle ∧ v.reader.mainVoice.state = .idle
          ∧ v.reader.echoVoice.state = .idle ∧ v.sched.queue = [] ∧ v.sched.echoLine = none ∧ v.reader.engine = .idle
          ∧ v.mixer.playing = false ∧ v.port.txn = none then some (used 23 * 1000) else none))
    ∧ (∀ id x : Nat, 1 ≤ id → id ≤ 23 → x < 2 ^ 32 → undefinedValue id x →
      exec (.set tag (leBytes 1 id ++ leBytes 4 x)) s
        = .next (withPart s (replying 0x05#8 tag .badArgs [7#8, 0#8, 0#8, 0#8] [] s.vks)))
    ∧ (∀ id x : Nat, (id = 0 ∨ 23 < id) → id < 256 → exec (.set tag (leBytes 1 id ++ leBytes 4 x)) s
        = .next (withPart s (replying 0x05#8 tag .badArgs [16#8, 0#8, 0#8, 0#8] [] s.vks)))
    ∧ (∀ arg : List Byte, arg.length ≠ 5 → arg.length ≤ 58 → exec (.set tag arg) s
        = .next (withPart s (replying 0x05#8 tag .badArgs [1#8, 0#8, 0#8, 0#8] [] s.vks)))

/-- R172, R44, R84, R145, R148, R156, R180, R182 and the ranges of section 8.6: the value a SET uses is clamped to its range;
PLAYOUT_SIZE is rounded down to its step, the ATTN mask keeps its 17 bits and each of the three lamps its 6. -/
def Obligations.ValuesUsedAreClampedToTheirRanges : Prop :=
  (∀ (v : Vks) (id lo hi x : Nat),
    (id, lo, hi) ∈ [(1, 0, 16384), (2, 0, 16384), (3, 1, 1024), (4, 1, 1024), (5, 0, 2000), (6, 0, 16384), (7, 0, 16384),
      (9, 0, v.mixer.sizeInForce), (10, 0, 500), (11, 1, 30), (14, 0, 5000), (15, 1, 15), (17, 0, 255), (21, 0, 600),
      (22, 0, 100), (23, 0, 3600)] →
    (x < lo → paramUsed v id x = lo) ∧ (lo ≤ x → x ≤ hi → paramUsed v id x = x) ∧ (hi < x → lo ≤ hi → paramUsed v id x = hi))
  ∧ (∀ (v : Vks) (x : Nat), 512 ≤ paramUsed v 8 x ∧ paramUsed v 8 x ≤ 2560 ∧ paramUsed v 8 x % 256 = 0
      ∧ (512 ≤ x → x < 2816 → paramUsed v 8 x ≤ x ∧ x < paramUsed v 8 x + 256)
      ∧ (x < 512 → paramUsed v 8 x = 512) ∧ (2560 < x → paramUsed v 8 x = 2560))
  ∧ (∀ (v : Vks) (x : Nat), paramUsed v 13 0 = 0 ∧ paramUsed v 13 1 = 2 ∧ (60 < x → paramUsed v 13 x = 60)
      ∧ (2 ≤ x → x ≤ 60 → paramUsed v 13 x = x))
  ∧ (∀ (v : Vks) (x : Nat), paramUsed v 12 x = x ∧ paramUsed v 16 x = x % 131072
      ∧ paramUsed v 18 x = x % 64 ∧ paramUsed v 19 x = x % 64 ∧ paramUsed v 20 x = x % 64)

/-- R176: CLEAR FLAGS clears RESET_SEEN and CLIP_SEEN, answers which were set, and changes nothing else; any other length is
BAD_ARGS cause 1. -/
def Obligations.ClearFlagsClearsBothMarks : Prop :=
  ∀ (s : State) (tag : Byte), Awake s →
    exec (.clearFlags tag []) s = .next (withPart s (replying 0x07#8 tag .ok
      [BitVec.ofNat 8 ((if s.vks.port.resetSeen then 1 else 0) + (if s.vks.mixer.clipSeen then 2 else 0)), 0#8, 0#8, 0#8] []
      { s.vks with
        port := { s.vks.port with resetSeen := false }
        mixer := { s.vks.mixer with clipSeen := false } }))
    ∧ ∀ arg : List Byte, arg ≠ [] → arg.length ≤ 58 →
      exec (.clearFlags tag arg) s = .next (withPart s (replying 0x07#8 tag .badArgs [1#8, 0#8, 0#8, 0#8] [] s.vks))

/-- R164, R166, R167, R168, R169, R170, R181, R87, R179: a transaction that begins on a part that is awake composes the
upstream slot from the status summary, the reply and the bulk or the records with their check, remembers the latches, clears
the four that nothing in the event can set again, and drops ATTN, whose fall starts the gap timer. Over as many bytes as the
host clocks, LNK_OUT sends that slot, byte 0 first and each byte most significant bit first, and 0 beyond byte 63. The six
bytes of the summary, the 8-byte records of a key report and of each notice, and the codes they carry are spelled. -/
def Obligations.TransactionBeginComposesTheSlot : Prop :=
  (∀ s : State, Awake s → s.vks.port.txn = none → ReplyFits s.vks →
    ∃ t, exec .transactionBegin s = .next t ∧ t.flash = s.flash ∧ t.pending = s.pending
      ∧ (∃ area : List Byte, t.vks.port.upstream = withCheck (s.vks.statusSummary
            ++ [s.vks.port.reply.code, s.vks.port.reply.tag, BitVec.ofNat 8 s.vks.port.reply.result.code,
              BitVec.ofNat 8 s.vks.port.reply.bulk.length] ++ s.vks.port.reply.data ++ area)
          ∧ (s.vks.port.reply.bulk = [] → t.vks.port.upstream.length = 64
            ∧ area = padTo 48 ((s.vks.keys.reports.take 6).flatMap KeyReport.bytes
              ++ (s.vks.notices.queue.take (6 - (s.vks.keys.reports.take 6).length)).flatMap Notice.bytes))
          ∧ (s.vks.port.reply.bulk ≠ [] → area = padTo 48 s.vks.port.reply.bulk))
      ∧ (s.vks.port.reply.bulk.length ≤ 48 → ∀ n,
          sentUpstream n t.vks = some ((t.vks.port.upstream ++ List.replicate n 0#8).take n))
      ∧ (∃ x, t.vks.port.txn = some x ∧ x.remembered = s.vks.port.latches
          ∧ (s.vks.port.reply.bulk = [] → x.keyReports = min 6 s.vks.keys.reports.length
            ∧ x.noticeCount = min (6 - x.keyReports) s.vks.notices.queue.length)
          ∧ (s.vks.port.reply.bulk ≠ [] → x.keyReports = 0 ∧ x.noticeCount = 0))
      ∧ t.vks.port.latches.underrun = false ∧ t.vks.port.latches.overrun = false ∧ t.vks.port.latches.keyLost = false
      ∧ t.vks.port.latches.badSlot = false
      ∧ t.vks.notices.attn = false
      ∧ (s.vks.notices.attn = true → t.vks.notices.attnGap
          = if s.vks.params.attnGap = 0 then none else some s.vks.params.attnGap)
      ∧ (s.vks.notices.attn = false → t.vks.notices.attnGap = s.vks.notices.attnGap)
      ∧ t.vks.port.reply = s.vks.port.reply ∧ t.vks.port.resetSeen = s.vks.port.resetSeen
      ∧ t.vks.words = s.vks.words ∧ t.vks.attempt.ctx = s.vks.attempt.ctx ∧ t.vks.lesson = s.vks.lesson
      ∧ t.vks.keys = s.vks.keys ∧ t.vks.mixer.samples = s.vks.mixer.samples ∧ t.vks.params = s.vks.params)
  ∧ (∀ (v : Vks) (n : Nat) (bs : List Byte), (v.port.txn = none → sentUpstream n v = none ∧ lnkOut n v = none)
      ∧ (sentUpstream n v = some bs → bs.length = n ∧ ∃ wire, lnkOut n v = some wire ∧ wire.length = 8 * n
        ∧ ∀ i j, i < n → j < 8 → wire[8 * i + j]? = some ((bs.getD i 0#8).getLsbD (7 - j))))
  ∧ (∀ v : Vks,
      let sum := fun bits : List (Nat × Bool) => BitVec.ofNat 8 ((bits.map (fun x => if x.2 then 2 ^ x.1 else 0)).sum)
      v.statusSummary = leBytes 2 v.mixer.samples.length
        ++ [BitVec.ofNat 8 (v.attempt.state.code + (if v.attempt.shelf.isSome then 8 else 0) + (if v.lesson.auto then 16 else 0)),
          BitVec.ofNat 8 (v.sched.queue.length + (if v.sched.echoLine.isSome then 32 else 0)),
          sum [(0, v.reader.mainVoice.state ≠ .idle), (1, v.reader.echoVoice.state ≠ .idle),
            (2, v.mixer.hostGain ≠ v.params.hostLevel), (3, v.mixer.clipCurrent || v.mixer.clipLast), (4, v.mixer.clipSeen),
            (5, v.reader.store = .claimPending ∨ v.reader.store = .claimed), (6, v.power.amp = .on),
            (7, v.mixer.playing ∧ v.mixer.samples.length < v.params.playoutMark ∧ v.mixer.endMark = false)],
          sum [(0, v.port.latches.underrun), (1, v.port.latches.overrun), (2, v.port.latches.noticeLost),
            (3, v.port.latches.keyLost), (4, v.port.latches.badSlot), (5, v.port.resetSeen),
            (6, match v.reader.engine with | .link _ => true | _ => false), (7, v.port.reply.bulk ≠ [])]])
  ∧ (∀ r : KeyReport, r.bytes = [BitVec.ofNat 8 (match r.event with | .press => 0x81 | .release => 0x82 | .ghost => 0x83),
      BitVec.ofNat 8 r.position, BitVec.ofNat 8 r.entry.cls.code, BitVec.ofNat 8 r.entry.letter, r.entry.pass,
      BitVec.ofNat 8 r.disposition.code] ++ leBytes 2 r.time.toNat)
  ∧ (let b := fun x : Nat => BitVec.ofNat 8 x
     ∀ (w x y z p q n : Nat) (tag : Byte),
      (Notice.attemptOpened w x y z p q).bytes = [1#8] ++ leBytes 2 w ++ [b x, b y, b z, b p, b q]
      ∧ (Notice.attemptClosed w x y z p q).bytes = [2#8] ++ leBytes 2 w ++ [b x, b y, b z, b p, b q]
      ∧ (Notice.tryFailed w x y z).bytes = [3#8] ++ leBytes 2 w ++ [b x, b y, b z, 0#8, 0#8]
      ∧ (Notice.mastery w x y z).bytes = [4#8] ++ leBytes 2 w ++ [b x, b y, b z, 0#8, 0#8]
      ∧ (Notice.utteranceDone tag n x y).bytes = [5#8, tag] ++ leBytes 2 n ++ [b x, b y, 0#8, 0#8]
      ∧ (Notice.audioLow x y).bytes = [6#8] ++ leBytes 2 x ++ leBytes 2 y ++ [0#8, 0#8, 0#8]
      ∧ (Notice.audioUnderrun x).bytes = [7#8] ++ leBytes 2 x ++ [0#8, 0#8, 0#8, 0#8, 0#8]
      ∧ (Notice.audioOverrun x y).bytes = [8#8, b x] ++ leBytes 2 y ++ [0#8, 0#8, 0#8, 0#8]
      ∧ (Notice.readFault w x n).bytes = [9#8] ++ leBytes 2 w ++ [b x] ++ leBytes 3 n ++ [0#8]
      ∧ (Notice.storeDone x y n z).bytes = [10#8, b x, b y] ++ leBytes 3 n ++ [b z, 0#8]
      ∧ (Notice.storeGranted x).bytes = [11#8, b x, 0#8, 0#8, 0#8, 0#8, 0#8, 0#8]
      ∧ (Notice.shelfLost w).bytes = [12#8] ++ leBytes 2 w ++ [0#8, 0#8, 0#8, 0#8, 0#8]
      ∧ (Notice.lessonEmpty x).bytes = [13#8, b x, 0#8, 0#8, 0#8, 0#8, 0#8, 0#8]
      ∧ (Notice.wake x).bytes = [14#8, b x, 0#8, 0#8, 0#8, 0#8, 0#8, 0#8]
      ∧ (Notice.voiceStarved x n).bytes = [15#8, b x] ++ leBytes 2 n ++ [0#8, 0#8, 0#8, 0#8]
      ∧ (Notice.badSegment w x).bytes = [16#8] ++ leBytes 2 w ++ [b x, 0#8, 0#8, 0#8, 0#8])
  ∧ [AttemptState.idle, .prompting, .listening, .responding, .gap].map AttemptState.code = [0, 1, 2, 3, 4]
  ∧ [Result.ok, .accepted, .none, .linkError, .badCommand, .badArgs, .busy, .inUse, .tableFull, .queueFull, .noAttempt,
      .notClaimed].map Result.code = List.range 12
  ∧ [KeyClass.none, .letter, .erase, .submit, .hint, .repeatPrompt, .pass].map KeyClass.code = List.range 7
  ∧ [Disposition.none, .accepted, .ignored, .refused, .passed].map Disposition.code = List.range 5

/-- R193, R161: a transaction that begins on a sleeping part wakes it with cause LINK before the slot is composed: it does
what it does on the part that has just woken. So does a bare slot row, on the part that has woken and settled (log 6). The
wake raises WAKE, starts a new clip window and frames of 0, and otherwise leaves what `Untouched` names. -/
def Obligations.SlotsWakeASleepingPart : Prop :=
  ∀ s : State, ¬ Awake s →
    let woken : Vks := { s.vks with
      mixer := { s.vks.mixer with
        clipCurrent := false, clipLast := false, windowCount := 0, i2s := ⟨true, 0#16, 0#16⟩ }
      power := { s.vks.power with asleep := false } }
    (∃ u : State, Awake u ∧ u.flash = s.flash ∧ u.pending = s.pending ∧ Untouched u.vks woken
      ∧ (s.vks.notices.queue.length < 16 → ∃ later, u.vks.notices.queue = s.vks.notices.queue ++ .wake 2 :: later)
      ∧ exec .idleSlot s = exec .idleSlot u
      ∧ (∀ (last : Bool) (samples : List Sample), exec (.audioSlot last samples) s = exec (.audioSlot last samples) u)
      ∧ (∀ (code tag : Byte) (arg : List Byte), ∀ c ∈ [Instr.badCommand code tag arg, .identify tag arg, .reset tag arg,
          .streamRestart tag arg, .sleep tag arg, .set tag arg, .get tag arg, .clearFlags tag arg, .wordPut tag arg,
          .wordSounds tag arg, .wordDrop tag arg, .wordGet tag arg, .alphabetPut tag arg, .tableGetAlphabet tag arg,
          .tableGetKeymap tag arg, .tableGetResponses tag arg, .keymapPut tag arg, .responsePut tag arg, .attemptOpen tag arg,
          .attemptCancel tag arg, .attemptShelve tag arg, .attemptUnshelve tag arg, .attemptGet tag arg, .lessonAdd tag arg,
          .lessonClear tag arg, .lessonFromReview tag arg, .lessonStart tag arg, .lessonStop tag arg, .lessonGet tag arg,
          .progressGet tag arg, .progressPut tag arg, .progressClear tag arg, .reviewGet tag arg, .reviewClear tag arg,
          .say tag arg, .silence tag arg, .queueGet tag arg, .storeClaim tag arg, .storeRelease tag arg, .storeWrite tag arg,
          .storeErase tag arg, .storeRead tag arg, .storeFetch tag arg, .faultGet tag arg], exec c s = exec c u))
    ∧ (s.vks.port.txn = none → ∃ u : State, Awake u ∧ u.flash = s.flash ∧ u.pending = s.pending ∧ Untouched u.vks woken
      ∧ u.vks.notices.attn = s.vks.notices.attn ∧ u.vks.notices.attnGap = s.vks.notices.attnGap
      ∧ (s.vks.notices.queue.length < 16 → ∃ later, u.vks.notices.queue = s.vks.notices.queue ++ .wake 2 :: later)
      ∧ exec .transactionBegin s = exec .transactionBegin u)

/-- R164, R166, R168: a transaction whose downstream slot is discarded. With exactly 64 bytes the offered records leave their
queues and the remembered latches are dropped; with any other number the records stay and each remembered latch is set again.
The reply is LINK_ERROR with the cause, and BAD_SLOT is latched. -/
def Obligations.DiscardedSlotDeliversBy64Bytes : Prop :=
  ∀ (s : State) (bytes : List Byte) (cause : Nat) (x : Transaction), s.vks.port.txn = some x →
    decodeSlot bytes = .error cause →
    let held := s.vks.port.latches
    let quiet := s.vks.reader.mainVoice.state = .idle ∧ s.vks.reader.echoVoice.state = .idle
      ∧ s.vks.sched.queue = [] ∧ s.vks.sched.echoLine = none
    ∃ t, exec (.transactionEnd bytes) s = .next t ∧ t.flash = s.flash ∧ t.pending = s.pending
      ∧ t.vks.port.txn = none ∧ t.vks.port.latches.badSlot = true
      ∧ t.vks.port.reply = ⟨0#8, 0#8, .linkError, [BitVec.ofNat 8 cause, 0#8, 0#8, 0#8], []⟩
      ∧ (bytes.length = 64 → t.vks.keys.reports = s.vks.keys.reports.drop x.keyReports
          ∧ (∃ later, t.vks.notices.queue = s.vks.notices.queue.drop x.noticeCount ++ later)
          ∧ t.vks.port.latches.underrun = held.underrun ∧ t.vks.port.latches.overrun = held.overrun
          ∧ t.vks.port.latches.keyLost = held.keyLost
          ∧ (held.noticeLost = true → t.vks.port.latches.noticeLost = true)
          ∧ (quiet → t.vks.port.latches.noticeLost = held.noticeLost))
      ∧ (bytes.length ≠ 64 → t.vks.keys.reports = s.vks.keys.reports
          ∧ (∃ later, t.vks.notices.queue = s.vks.notices.queue ++ later)
          ∧ t.vks.port.latches.underrun = (held.underrun || x.remembered.underrun)
          ∧ t.vks.port.latches.overrun = (held.overrun || x.remembered.overrun)
          ∧ t.vks.port.latches.keyLost = (held.keyLost || x.remembered.keyLost)
          ∧ (held.noticeLost = true ∨ x.remembered.noticeLost = true → t.vks.port.latches.noticeLost = true)
          ∧ (quiet → t.vks.port.latches.noticeLost = (held.noticeLost || x.remembered.noticeLost)))
      ∧ t.vks.words = s.vks.words ∧ t.vks.attempt.ctx = s.vks.attempt.ctx ∧ t.vks.lesson = s.vks.lesson
      ∧ t.vks.mixer.samples = s.vks.mixer.samples ∧ t.vks.params = s.vks.params

/-- R164, R165: a downstream slot is discarded by the first cause that applies, and an IDLE slot is read as such. -/
def Obligations.SlotsAreDiscardedByTheFirstCause : Prop :=
  ∀ bytes : List Byte,
    (bytes.length ≠ 64 → decodeSlot bytes = .error 1)
    ∧ (bytes.length = 64 → byteSum (bytes.take 62) ≠ fieldAt bytes 62 2 → decodeSlot bytes = .error 2)
    ∧ (bytes.length = 64 → byteSum (bytes.take 62) = fieldAt bytes 62 2 → 2 < byteAt bytes 0 → decodeSlot bytes = .error 3)
    ∧ (bytes.length = 64 → byteSum (bytes.take 62) = fieldAt bytes 62 2 →
        ((byteAt bytes 0 = 1 ∧ 29 < byteAt bytes 1) ∨ (byteAt bytes 0 = 2 ∧ 58 < byteAt bytes 1)) → decodeSlot bytes = .error 4)
    ∧ (bytes.length = 64 → byteSum (bytes.take 62) = fieldAt bytes 62 2 → byteAt bytes 0 = 0 → decodeSlot bytes = .ok .idleSlot)

/-- R164, R165, R191: a transaction of a slot that is taken does what the slot's own row does on the part as delivery leaves
it, and then the sleep timer starts afresh and the event settles. -/
def Obligations.TransactionEndRunsTheSlotsRow : Prop :=
  ∀ (s : State) (bytes : List Byte) (i : Instr) (x : Transaction), s.vks.port.txn = some x → decodeSlot bytes = .ok i →
    ∃ t u : State, exec (.transactionEnd bytes) s = .next t
      ∧ exec i (withPart s { s.vks with
          port := { s.vks.port with txn := none }
          keys := { s.vks.keys with reports := s.vks.keys.reports.drop x.keyReports }
          notices := { s.vks.notices with queue := s.vks.notices.queue.drop x.noticeCount } }) = .next u
      ∧ t = withPart u (settle { u.vks with power := { u.vks.power with sleepTimer := none } })

/-- R164, R165, 08 sections 8.1 and 8.5: a well-formed slot command written as its 64 bytes is read back as itself, every
operand at every value. -/
def Obligations.DecodeReadsBackEverySlotCommand : Prop :=
  ∀ (i : Instr) (bytes : List Byte), i.wf = true → encodeSlot i = some bytes → decodeSlot bytes = .ok i

/-! ### Words, letters and tables (01, 04, 05) -/

/-- R13, R15, R50, R55, R67, R71, R83, R96, R116, R141: whatever its argument, a request that only reads leaves everything
but the pending reply as it was, and the reply carries its tag and four data bytes. R171: so does every request that is
refused. -/
def Obligations.ReadsAndRefusalsChangeOnlyTheReply : Prop :=
  (∀ (s : State) (tag : Byte) (arg : List Byte), Awake s → arg.length ≤ 58 →
    ∀ c ∈ [Instr.identify tag arg, .get tag arg, .wordGet tag arg, .tableGetAlphabet tag arg, .tableGetKeymap tag arg,
        .tableGetResponses tag arg, .attemptGet tag arg, .lessonGet tag arg, .progressGet tag arg, .reviewGet tag arg,
        .queueGet tag arg, .storeFetch tag arg],
      ∃ code result data bulk, data.length = 4 ∧ exec c s = .next (withPart s (replying code tag result data bulk s.vks)))
  ∧ (∀ (s t : State) (tag : Byte) (arg : List Byte), Awake s → arg.length ≤ 58 →
    ∀ c ∈ [Instr.reset tag arg, .streamRestart tag arg, .sleep tag arg, .set tag arg, .clearFlags tag arg, .wordPut tag arg,
        .wordSounds tag arg, .wordDrop tag arg, .alphabetPut tag arg, .keymapPut tag arg, .responsePut tag arg,
        .attemptOpen tag arg, .attemptCancel tag arg, .attemptShelve tag arg, .attemptUnshelve tag arg, .lessonAdd tag arg,
        .lessonClear tag arg, .lessonFromReview tag arg, .lessonStart tag arg, .lessonStop tag arg, .progressPut tag arg,
        .progressClear tag arg, .reviewClear tag arg, .say tag arg, .silence tag arg, .storeClaim tag arg,
        .storeRelease tag arg, .storeWrite tag arg, .storeErase tag arg, .storeRead tag arg, .faultGet tag arg],
      exec c s = .next t → t.vks.port.reply.result ≠ .ok → t.vks.port.reply.result ≠ .accepted →
        t = withPart s { s.vks with port := { s.vks.port with reply := t.vks.port.reply } })

/-- R5, R8, R9, R10: a WORD PUT whose argument passes is IN_USE with the holder for a word in use (1 the open attempt, 2 the
shelf, 3 both), TABLE_FULL with the items needed and available where the pool does not hold it, and otherwise replaces the
entry as a whole with clamped limits and an absent override list, moves the free count by the difference, clears the word's
record with fresh, and changes nothing else. -/
def Obligations.WordPutReplacesTheEntry : Prop :=
  ∀ (s : State) (tag : Byte) (w tries mistakes hints : Nat) (letters prompts : List Nat) (segment : Option Nat)
    (fresh barge : Bool) (mode : CheckMode) (echo : EchoStyle),
    Awake s → w < 512 → tries < 256 → mistakes < 256 → hints < 256 →
    1 ≤ letters.length → letters.length ≤ 16 → (∀ c ∈ letters, 1 ≤ c ∧ c ≤ 48) →
    prompts.length ≤ 4 → (∀ p ∈ prompts, p < 2048) → (∀ x, segment = some x → x < 2048) →
    let e : WordEntry := ⟨letters, segment, prompts, none,
      ⟨mode, echo, barge, max 1 (min 3 tries), max 1 (min 9 mistakes), min 3 hints⟩⟩
    let needed := letters.length + prompts.length
    let available := s.vks.words.freeItems + entryItems (s.vks.entry w)
    let open_ := s.vks.attempt.state = .prompting ∨ s.vks.attempt.state = .listening ∨ s.vks.attempt.state = .responding
    let request : Instr := .wordPut tag (leBytes 2 w
        ++ leBytes 1 ((if fresh then 1 else 0) + 2 * mode.bit + (if barge then 4 else 0) + 8 * echo.code)
        ++ leBytes 1 tries ++ leBytes 1 mistakes ++ leBytes 1 hints ++ leBytes 2 (segmentField segment)
        ++ leBytes 1 letters.length ++ leBytes 1 prompts.length
        ++ letters.flatMap (leBytes 1) ++ prompts.flatMap (leBytes 2))
    wordHolder w s.vks = (if open_ ∧ s.vks.attempt.ctx.word = w then 1 else 0)
        + (if s.vks.attempt.shelf.map Context.word = some w then 2 else 0)
    ∧ (wordHolder w s.vks ≠ 0 → exec request s
      = .next (withPart s (replying 0x10#8 tag .inUse [BitVec.ofNat 8 (wordHolder w s.vks), 0#8, 0#8, 0#8] [] s.vks)))
    ∧ (wordHolder w s.vks = 0 → available < needed → exec request s
      = .next (withPart s (replying 0x10#8 tag .tableFull (leBytes 2 needed ++ leBytes 2 available) [] s.vks)))
    ∧ (wordHolder w s.vks = 0 → needed ≤ available → exec request s
      = .next (withPart s (replying 0x10#8 tag .ok
          [BitVec.ofNat 8 e.settings.tries, BitVec.ofNat 8 e.settings.mistakeLimit, BitVec.ofNat 8 e.settings.hintLimit,
            BitVec.ofNat 8 ((if e.settings.tries = tries then 0 else 1) + (if e.settings.mistakeLimit = mistakes then 0 else 2)
              + (if e.settings.hintLimit = hints then 0 else 4))] []
          { s.vks with
            words := { s.vks.words with
              entries := s.vks.words.entries.set w (some e)
              freeItems := available - needed }
            lesson := if fresh then
                { s.vks.lesson with
                  records := s.vks.lesson.records.set w ProgressRecord.zero
                  review := s.vks.lesson.review.filter (fun x => x ≠ w) }
              else s.vks.lesson })))

/-- R5, R8, R11: a WORD SOUNDS whose argument passes is IN_USE with the holder for a word in use, TABLE_FULL with the items
needed and available where the pool does not hold it, and otherwise replaces the override list of a valid entry and nothing
else of it. -/
def Obligations.WordSoundsReplacesTheOverrides : Prop :=
  ∀ (s : State) (tag : Byte) (w : Nat) (e : WordEntry) (items : List (Option Nat)),
    Awake s → w < 512 → s.vks.entry w = some e → items.length = e.letters.length → items.length ≤ 16 →
    (∀ x, some x ∈ items → x < 2048) →
    let needed := 2 * e.letters.length + e.prompts.length
    let available := s.vks.words.freeItems + e.items
    let request : Instr :=
      .wordSounds tag (leBytes 2 w ++ leBytes 1 items.length ++ items.flatMap (fun x => leBytes 2 (overrideField x)))
    (wordHolder w s.vks ≠ 0 → exec request s
      = .next (withPart s (replying 0x11#8 tag .inUse [BitVec.ofNat 8 (wordHolder w s.vks), 0#8, 0#8, 0#8] [] s.vks)))
    ∧ (wordHolder w s.vks = 0 → available < needed → exec request s
      = .next (withPart s (replying 0x11#8 tag .tableFull (leBytes 2 needed ++ leBytes 2 available) [] s.vks)))
    ∧ (wordHolder w s.vks = 0 → needed ≤ available → exec request s
      = .next (withPart s (replying 0x11#8 tag .ok (leBytes 2 (available - needed) ++ [BitVec.ofNat 8 e.letters.length, 0#8]) []
            { s.vks with words := { s.vks.words with
                entries := s.vks.words.entries.set w (some { e with overrides := some items })
                freeItems := available - needed } })))

/-- R8, R12: a WORD DROP of a word not in use makes its entry invalid, releases its items, clears its record and removes it
from the review list, whether the entry was valid or not. A word in use is IN_USE; a length other than 2 is BAD_ARGS cause 1,
an index of 512 or above cause 2. -/
def Obligations.WordDropInvalidatesTheEntry : Prop :=
  ∀ (s : State) (tag : Byte), Awake s →
    (∀ w : Nat, w < 512 → wordHolder w s.vks = 0 →
      exec (.wordDrop tag (leBytes 2 w)) s
      = .next (withPart s (replying 0x12#8 tag .ok
          ([if (s.vks.entry w).isSome then 1#8 else 0#8, 0#8] ++ leBytes 2 (s.vks.words.freeItems + entryItems (s.vks.entry w))) []
          { s.vks with
            words := { s.vks.words with
              entries := s.vks.words.entries.set w none
              freeItems := s.vks.words.freeItems + entryItems (s.vks.entry w) }
            lesson := { s.vks.lesson with
              records := s.vks.lesson.records.set w ProgressRecord.zero
              review := s.vks.lesson.review.filter (fun x => x ≠ w) } })))
    ∧ (∀ w : Nat, w < 512 → wordHolder w s.vks ≠ 0 → exec (.wordDrop tag (leBytes 2 w)) s
      = .next (withPart s (replying 0x12#8 tag .inUse [BitVec.ofNat 8 (wordHolder w s.vks), 0#8, 0#8, 0#8] [] s.vks)))
    ∧ (∀ w : Nat, 512 ≤ w → w < 65536 → exec (.wordDrop tag (leBytes 2 w)) s
      = .next (withPart s (replying 0x12#8 tag .badArgs [2#8, 0#8, 0#8, 0#8] [] s.vks)))
    ∧ (∀ arg : List Byte, arg.length ≠ 2 → arg.length ≤ 58 → exec (.wordDrop tag arg) s
      = .next (withPart s (replying 0x12#8 tag .badArgs [1#8, 0#8, 0#8, 0#8] [] s.vks)))

/-- R1, R13: WORD GET returns the entry (part 0) or the override list (part 1) of a word, and an invalid entry with numbers 0
and an absent word segment. -/
def Obligations.WordGetReturnsTheEntry : Prop :=
  ∀ (s : State) (tag : Byte) (w : Nat), Awake s → w < 512 →
    (∀ e, s.vks.entry w = some e →
      exec (.wordGet tag (leBytes 2 w ++ [0#8])) s = .next (withPart s (replying 0x13#8 tag .ok
        ([1#8, BitVec.ofNat 8 e.letters.length] ++ leBytes 2 s.vks.words.freeItems)
        (leBytes 2 w ++ leBytes 1 (1 + 2 * e.settings.checkMode.bit + (if e.settings.barge then 4 else 0)
              + 8 * e.settings.echoStyle.code + (if e.overrides.isSome then 32 else 0))
          ++ leBytes 1 e.settings.tries ++ leBytes 1 e.settings.mistakeLimit ++ leBytes 1 e.settings.hintLimit
          ++ leBytes 2 (segmentField e.wordSegment) ++ leBytes 1 e.letters.length ++ leBytes 1 e.prompts.length
          ++ e.letters.flatMap (leBytes 1) ++ e.prompts.flatMap (leBytes 2) ++ leBytes 2 e.items
          ++ leBytes 2 s.vks.words.freeItems) s.vks))
      ∧ exec (.wordGet tag (leBytes 2 w ++ [1#8])) s = .next (withPart s (replying 0x13#8 tag .ok
        ([1#8, BitVec.ofNat 8 e.letters.length] ++ leBytes 2 s.vks.words.freeItems)
        (leBytes 2 w ++ leBytes 1 (e.overrides.getD []).length
          ++ (e.overrides.getD []).flatMap (fun x => leBytes 2 (overrideField x))) s.vks)))
    ∧ (s.vks.entry w = none →
      exec (.wordGet tag (leBytes 2 w ++ [0#8])) s = .next (withPart s (replying 0x13#8 tag .ok
        ([0#8, 0#8] ++ leBytes 2 s.vks.words.freeItems)
        (leBytes 2 w ++ [0#8, 0#8, 0#8, 0#8, 0xFF#8, 0xFF#8, 0#8, 0#8, 0#8, 0#8] ++ leBytes 2 s.vks.words.freeItems) s.vks)))

/-- R14: ALPHABET PUT writes its items in order: for each side of each letter the last item that selects it wins, an
unselected side keeps its value, and nothing else changes. -/
def Obligations.AlphabetPutWritesItsItems : Prop :=
  ∀ (s : State) (tag : Byte) (items : List AlphabetItem), Awake s → TablesSized s.vks →
    1 ≤ items.length → items.length ≤ 9 →
    (∀ x ∈ items, 1 ≤ x.code ∧ x.code ≤ 48 ∧ 1 ≤ x.selection ∧ x.selection ≤ 3
      ∧ (x.name < 2048 ∨ x.name = 0xFFFF) ∧ (x.sound < 2048 ∨ x.sound = 0xFFFF)) →
    ∃ t, exec (.alphabetPut tag (leBytes 1 items.length ++ items.flatMap (fun x =>
        leBytes 1 x.code ++ leBytes 1 x.selection ++ leBytes 2 x.name ++ leBytes 2 x.sound))) s = .next t
      ∧ (∀ c, 1 ≤ c → c ≤ 48 →
        (t.vks.letter c).name = (match (items.filter (fun x => x.code = c ∧ x.selection ≠ 2)).getLast? with
          | some x => segmentOf x.name
          | none => (s.vks.letter c).name)
        ∧ (t.vks.letter c).sound = (match (items.filter (fun x => x.code = c ∧ x.selection ≠ 1)).getLast? with
          | some x => segmentOf x.sound
          | none => (s.vks.letter c).sound))
      ∧ t = withPart s (replying 0x14#8 tag .ok [BitVec.ofNat 8 items.length, 0#8, 0#8, 0#8] []
          { s.vks with words := { s.vks.words with alphabet := t.vks.words.alphabet } })

/-- R82: KEYMAP PUT writes the entries of the positions it names, storing letter code 0 for a class other than LETTER, and
nothing else. -/
def Obligations.KeymapPutWritesItsPositions : Prop :=
  ∀ (s : State) (tag : Byte) (start : Nat) (entries : List KeymapEntry), Awake s → TablesSized s.vks →
    1 ≤ entries.length → entries.length ≤ 14 → start + entries.length ≤ 80 →
    (∀ e ∈ entries, e.letter < 256 ∧ (e.cls = .letter → 1 ≤ e.letter ∧ e.letter ≤ 48)) →
    ∃ t, exec (.keymapPut tag (leBytes 1 start ++ leBytes 1 entries.length ++ entries.flatMap (fun e =>
        leBytes 1 e.cls.code ++ leBytes 1 e.letter ++ [e.pass, 0#8]))) s = .next t
      ∧ (∀ p, p < 80 → t.vks.keymapAt p =
          if start ≤ p ∧ p < start + entries.length then
            (let e := entries.getD (p - start) (s.vks.keymapAt p)
             { e with letter := if e.cls = .letter then e.letter else 0 })
          else s.vks.keymapAt p)
      ∧ t = withPart s (replying 0x15#8 tag .ok [BitVec.ofNat 8 start, BitVec.ofNat 8 entries.length, 0#8, 0#8] []
          { s.vks with keys := { s.vks.keys with keymap := t.vks.keys.keymap } })

/-- R94, R95, R7, R97, R98, R99, R101: RESPONSE PUT replaces one row with its parts, and changes nothing else. A part is
read from its kind code and value, a PAUSE clamped to 10..2000 ms with the mark set. What each of the nine kinds gives from
the word, the snapshot, the position and the verdict is spelled, an absent alphabet item being a CLICK; without an attempt
the six attempt-dependent kinds give nothing. The parts of a list give their items in order, of which an utterance keeps 40,
TRUNCATED when there were more, under the next identity. A SAY finds an attempt in PROMPTING, LISTENING and RESPONDING. -/
def Obligations.ResponsePutReplacesTheRow : Prop :=
  (∀ (s : State) (tag : Byte) (row : Nat) (parts : List (Nat × Nat)), Awake s → row ≤ 15 → parts.length ≤ 6 →
     (∀ p ∈ parts, 1 ≤ p.1 ∧ p.1 ≤ 9 ∧ p.2 < 65536 ∧ (p.1 = 1 → p.2 < 2048) ∧ (p.1 = 2 → p.2 ≤ 2)) →
     exec (.responsePut tag (leBytes 1 row ++ leBytes 1 parts.length
         ++ parts.flatMap (fun p => leBytes 1 p.1 ++ leBytes 2 p.2))) s
       = .next (withPart s (replying 0x16#8 tag .ok
           [BitVec.ofNat 8 row, BitVec.ofNat 8 parts.length,
             if ∃ p ∈ parts, p.1 = 3 ∧ (p.2 < 10 ∨ 2000 < p.2) then 1#8 else 0#8, 0#8] []
           { s.vks with sched := { s.vks.sched with rows := s.vks.sched.rows.set row (parts.map partOf) } })))
  ∧ (∀ n : Nat, partOf (1, n) = .seg n ∧ partOf (3, n) = .pause (if n < 10 then 10 else if 2000 < n then 2000 else n)
    ∧ partOf (4, n) = .word ∧ partOf (5, n) = .prompt ∧ partOf (6, n) = .spellTarget ∧ partOf (7, n) = .spellAttempt
    ∧ partOf (8, n) = .letterNameAt ∧ partOf (9, n) = .letterSoundAt)
  ∧ (partOf (2, 0) = .tone .click ∧ partOf (2, 1) = .tone .buzz ∧ partOf (2, 2) = .tone .chime)
  ∧ (∀ (v : Vks) (x : Expansion),
    let named := fun c : Nat => match (v.letter c).name with | some n => Item.seg n | none => Item.tone .click
    let sounded := fun c : Nat => match (v.letter c).sound with | some n => Item.seg n | none => Item.tone .click
    let spelled := fun (l : List Nat) (items : List Item) => items.length = 2 * l.length - 1
      ∧ ∀ i, i < l.length → items[2 * i]? = (l[i]?).map named ∧ (i + 1 < l.length → items[2 * i + 1]? = some (.pause 100))
    (∀ n, expandPart v x (.seg n) = [.seg n]) ∧ (∀ k, expandPart v x (.tone k) = [.tone k])
    ∧ (∀ ms, expandPart v x (.pause ms) = [.pause ms])
    ∧ (x.entry = none → ∀ p ∈ [Part.word, .prompt, .spellTarget, .spellAttempt, .letterNameAt, .letterSoundAt],
        expandPart v x p = [])
    ∧ (∀ e : WordEntry, x.entry = some e →
      expandPart v x .word = (match e.wordSegment with | some n => [.seg n] | none => [])
      ∧ expandPart v x .prompt = e.prompts.map Item.seg
      ∧ spelled e.letters (expandPart v x .spellTarget) ∧ spelled x.snapshot (expandPart v x .spellAttempt)
      ∧ (let named_at := if x.verdict = some .extra then x.snapshot else e.letters
         ((x.position = 0 ∨ named_at.length < x.position) →
           expandPart v x .letterNameAt = [] ∧ expandPart v x .letterSoundAt = [])
         ∧ (∀ c, named_at[x.position - 1]? = some c → 1 ≤ x.position →
           expandPart v x .letterNameAt = [named c]
           ∧ ((x.verdict = some .extra ∨ e.overrides = none) → expandPart v x .letterSoundAt = [sounded c])
           ∧ (∀ o, e.overrides = some o → x.verdict ≠ some .extra → o.length = e.letters.length →
               expandPart v x .letterSoundAt = [match o[x.position - 1]? with | some (some n) => .seg n | _ => sounded c]))))
    ∧ expandAll v x [] = [] ∧ (∀ p l, expandAll v x (p :: l) = expandPart v x p ++ expandAll v x l))
  ∧ (∀ (v : Vks) (source : Source) (tag : Byte) (items : List Item), 1 ≤ v.sched.nextId → v.sched.nextId ≤ 65535 →
    makeUtterance source tag items v
      = (⟨v.sched.nextId, source, tag, items.take 40, 0, 0, decide (40 < items.length), false, false⟩,
         { v with sched := { v.sched with nextId := if v.sched.nextId = 65535 then 1 else v.sched.nextId + 1 } }))
  ∧ (∀ v : Vks,
    ((v.attempt.state = .prompting ∨ v.attempt.state = .listening ∨ v.attempt.state = .responding) →
      sayExpansion v = ⟨v.entry v.attempt.ctx.word, v.attempt.ctx.buffer, v.attempt.ctx.verdictPosition, v.attempt.ctx.verdict⟩)
    ∧ ((v.attempt.state = .idle ∨ v.attempt.state = .gap) → (sayExpansion v).entry = none))

/-- R15, R83, R96, R171: TABLE GET returns at most 12 alphabet entries, 12 keymap entries or 2 response rows from its start,
and changes nothing. A start out of range is BAD_ARGS cause 14, a selector above 2 cause 7, a length other than 2 cause 1;
that row TABLE_GET_ALPHABET carries the malformed ones is the model's choice (log 8). -/
def Obligations.TableGetReturnsTheTables : Prop :=
  ∀ (s : State) (tag : Byte) (start : Nat), Awake s → TablesSized s.vks →
    (1 ≤ start → start ≤ 48 →
      exec (.tableGetAlphabet tag (leBytes 1 0 ++ leBytes 1 start)) s = .next (withPart s (replying 0x17#8 tag .ok
        [0#8, BitVec.ofNat 8 start, BitVec.ofNat 8 (min 12 (49 - start)), 0#8]
        (((s.vks.words.alphabet.drop (start - 1)).take 12).flatMap
          (fun l => leBytes 2 (segmentField l.name) ++ leBytes 2 (segmentField l.sound))) s.vks)))
    ∧ (start ≤ 79 →
      exec (.tableGetKeymap tag (leBytes 1 1 ++ leBytes 1 start)) s = .next (withPart s (replying 0x17#8 tag .ok
        [1#8, BitVec.ofNat 8 start, BitVec.ofNat 8 (min 12 (80 - start)), 0#8]
        (((s.vks.keys.keymap.drop start).take 12).flatMap
          (fun e => leBytes 1 e.cls.code ++ leBytes 1 e.letter ++ [e.pass, 0#8])) s.vks)))
    ∧ (start ≤ 15 →
      exec (.tableGetResponses tag (leBytes 1 2 ++ leBytes 1 start)) s = .next (withPart s (replying 0x17#8 tag .ok
        [2#8, BitVec.ofNat 8 start, BitVec.ofNat 8 (min 2 (16 - start)), 0#8]
        (((s.vks.sched.rows.drop start).take 2).flatMap
          (fun r => leBytes 1 r.length ++ padTo 18 (r.flatMap (fun p => leBytes 1 p.code.1 ++ leBytes 2 p.code.2)))) s.vks)))
    ∧ (start < 256 →
      let refused := fun (c : Instr) (cause : Byte) =>
        exec c s = .next (withPart s (replying 0x17#8 tag .badArgs [cause, 0#8, 0#8, 0#8] [] s.vks))
      ((start = 0 ∨ 48 < start) → refused (.tableGetAlphabet tag (leBytes 1 0 ++ leBytes 1 start)) 14#8)
      ∧ (79 < start → refused (.tableGetKeymap tag (leBytes 1 1 ++ leBytes 1 start)) 14#8)
      ∧ (15 < start → refused (.tableGetResponses tag (leBytes 1 2 ++ leBytes 1 start)) 14#8)
      ∧ (∀ selector : Nat, 2 < selector → selector < 256 →
          refused (.tableGetAlphabet tag (leBytes 1 selector ++ leBytes 1 start)) 7#8)
      ∧ (∀ arg : List Byte, arg.length ≠ 2 → arg.length ≤ 58 → refused (.tableGetAlphabet tag arg) 1#8))

/-! ### Lessons, progress and the review list (03) -/

/-- R54, R55, R72: LESSON ADD and LESSON FROM REVIEW append at the tail what fits into 32 places, LESSON CLEAR empties the
list, and LESSON GET reads it; nothing else changes. -/
def Obligations.LessonListRequests : Prop :=
  ∀ (s : State) (tag : Byte), Awake s →
    (∀ items : List (Nat × Nat), 1 ≤ items.length → items.length ≤ 18 → (∀ x ∈ items, x.1 < 512 ∧ x.2 < 256) →
      let fit := (items.map (fun x => LessonEntry.mk x.1 (min 3 x.2))).take (32 - s.vks.lesson.entries.length)
      exec (.lessonAdd tag (leBytes 1 items.length ++ items.flatMap (fun x => leBytes 2 x.1 ++ leBytes 1 x.2))) s
        = .next (withPart s (replying 0x28#8 tag .ok
            [BitVec.ofNat 8 fit.length, BitVec.ofNat 8 (s.vks.lesson.entries.length + fit.length),
              if ∃ x ∈ items, 3 < x.2 then 1#8 else 0#8, 0#8] []
            { s.vks with lesson := { s.vks.lesson with entries := s.vks.lesson.entries ++ fit } })))
    ∧ exec (.lessonClear tag []) s = .next (withPart s (replying 0x29#8 tag .ok
        [BitVec.ofNat 8 s.vks.lesson.entries.length, 0#8, 0#8, 0#8] []
        { s.vks with lesson := { s.vks.lesson with entries := [] } }))
    ∧ (let fit := (s.vks.lesson.review.map (fun w => LessonEntry.mk w 0)).take (32 - s.vks.lesson.entries.length)
       exec (.lessonFromReview tag []) s = .next (withPart s (replying 0x2A#8 tag .ok
        [BitVec.ofNat 8 fit.length, BitVec.ofNat 8 (s.vks.lesson.entries.length + fit.length), 0#8, 0#8] []
        { s.vks with lesson := { s.vks.lesson with entries := s.vks.lesson.entries ++ fit } })))
    ∧ (∀ start : Nat, start ≤ 31 → exec (.lessonGet tag (leBytes 1 start)) s = .next (withPart s (replying 0x2D#8 tag .ok
        [BitVec.ofNat 8 s.vks.lesson.entries.length, BitVec.ofNat 8 start,
          BitVec.ofNat 8 (min 16 (s.vks.lesson.entries.length - start)), if s.vks.lesson.auto then 1#8 else 0#8]
        (((s.vks.lesson.entries.drop start).take 16).flatMap (fun e => leBytes 2 e.word ++ leBytes 1 e.retries)) s.vks)))

/-- R56, R57, R58: LESSON START turns auto mode on and, in IDLE, opens the first valid word of the list, discarding invalid
ones; an empty list turns auto mode off again. LESSON STOP turns auto mode off and ends a running gap. -/
def Obligations.LessonStartAndStop : Prop :=
  ∀ (s : State) (tag : Byte), Awake s →
    (s.vks.attempt.state = .idle → ∀ (bad : List LessonEntry) (e : LessonEntry) (rest : List LessonEntry) (x : WordEntry),
      s.vks.lesson.entries = bad ++ e :: rest → (∀ b ∈ bad, s.vks.entry b.word = none) → s.vks.entry e.word = some x →
      ∃ t, exec (.lessonStart tag []) s = .next t ∧ t.flash = s.flash ∧ t.pending = s.pending
        ∧ t.vks.lesson = { s.vks.lesson with entries := rest, auto := true, gapTimer := none }
        ∧ (t.vks.attempt.state = .prompting ∨ t.vks.attempt.state = .listening)
        ∧ t.vks.attempt.ctx.word = e.word ∧ t.vks.attempt.ctx.origin = .lesson e.retries
        ∧ t.vks.attempt.ctx.settings = x.settings ∧ t.vks.attempt.ctx.tryNumber = 1 ∧ t.vks.attempt.ctx.buffer = []
        ∧ t.vks.port.reply = ⟨0x2B#8, tag, .ok, [if s.vks.lesson.auto then 1#8 else 0#8,
            BitVec.ofNat 8 t.vks.attempt.state.code] ++ leBytes 2 e.word, []⟩
        ∧ t.vks.words = s.vks.words ∧ t.vks.keys = s.vks.keys ∧ t.vks.params = s.vks.params)
    ∧ (s.vks.attempt.state = .idle → (∀ b ∈ s.vks.lesson.entries, s.vks.entry b.word = none) →
      ∃ t, exec (.lessonStart tag []) s = .next t
        ∧ t.vks.lesson = { s.vks.lesson with entries := [], auto := false, gapTimer := none }
        ∧ t.vks.attempt.state = .idle
        ∧ (s.vks.notices.queue.length < 16 →
            ∃ later, t.vks.notices.queue = s.vks.notices.queue ++ .lessonEmpty s.vks.lesson.entries.length :: later)
        ∧ t.vks.port.reply = ⟨0x2B#8, tag, .ok, [if s.vks.lesson.auto then 1#8 else 0#8, 0#8, 0xFF#8, 0xFF#8], []⟩)
    ∧ (s.vks.attempt.state ≠ .idle →
      exec (.lessonStart tag []) s = .next (withPart s (replying 0x2B#8 tag .ok
        [if s.vks.lesson.auto then 1#8 else 0#8, BitVec.ofNat 8 s.vks.attempt.state.code, 0xFF#8, 0xFF#8] []
        { s.vks with lesson := { s.vks.lesson with auto := true } })))
    ∧ (s.vks.attempt.state ≠ .gap →
      exec (.lessonStop tag []) s = .next (withPart s (replying 0x2C#8 tag .ok
        [if s.vks.lesson.auto then 1#8 else 0#8, BitVec.ofNat 8 s.vks.attempt.state.code, 0#8, 0#8] []
        { s.vks with lesson := { s.vks.lesson with auto := false } })))
    ∧ (s.vks.attempt.state = .gap →
      ∃ t, exec (.lessonStop tag []) s = .next t ∧ t.vks.attempt.state = .idle
        ∧ t.vks.lesson = { s.vks.lesson with auto := false, gapTimer := none }
        ∧ t.vks.port.reply = ⟨0x2C#8, tag, .ok, [if s.vks.lesson.auto then 1#8 else 0#8, 0#8, 0#8, 0#8], []⟩)

/-- R62, R67, R68, R69, R71: PROGRESS GET reads up to 4 records, PROGRESS PUT restores one whose counters sum and whose
mastery fits its attempts, PROGRESS CLEAR clears one or all with the review list, REVIEW GET reads and REVIEW CLEAR empties
the review list; nothing else changes. -/
def Obligations.ProgressAndReviewRequests : Prop :=
  ∀ (s : State) (tag : Byte), Awake s → TablesSized s.vks →
    (∀ w n : Nat, w < 512 → 1 ≤ n → n ≤ 4 →
      exec (.progressGet tag (leBytes 2 w ++ leBytes 1 n)) s = .next (withPart s (replying 0x30#8 tag .ok
        (leBytes 2 w ++ [BitVec.ofNat 8 (min n (512 - w)), 0#8])
        (((s.vks.lesson.records.drop w).take n).flatMap (fun r => leBytes 2 r.attempts ++ leBytes 2 r.passes
          ++ leBytes 2 r.assisted ++ leBytes 2 r.misses ++ leBytes 1 r.streak ++ leBytes 1 r.slips
          ++ leBytes 1 r.lastVerdict ++ leBytes 1 r.mastery.code)) s.vks)))
    ∧ (∀ (w attempts passes assisted misses streak slips verdict : Nat) (m : Mastery), w < 512 → attempts < 65536 →
      passes < 65536 → assisted < 65536 → misses < 65536 → streak < 256 → slips ≤ 2 → verdict ≤ 7 →
      (attempts < 65535 → passes + assisted + misses = attempts) → (m = .new ↔ attempts = 0) →
      exec (.progressPut tag (leBytes 2 w ++ leBytes 2 attempts ++ leBytes 2 passes ++ leBytes 2 assisted ++ leBytes 2 misses
          ++ leBytes 1 streak ++ leBytes 1 slips ++ leBytes 1 verdict ++ leBytes 1 m.code)) s
        = .next (withPart s (replying 0x31#8 tag .ok
          [BitVec.ofNat 8 m.code, if m = .slipping then 1#8 else 0#8,
            if slips = (if m = .slipping then 1 else 0) then 0#8 else 1#8, 0#8] []
          { s.vks with lesson := { s.vks.lesson with records := s.vks.lesson.records.set w (ProgressRecord.mk
              attempts passes assisted misses streak (if m = .slipping then 1 else 0) verdict m) } })))
    ∧ (∀ w : Nat, w < 512 →
      let kept := s.vks.lesson.review.filter (fun x => x ≠ w)
      exec (.progressClear tag ([0#8] ++ leBytes 2 w)) s = .next (withPart s (replying 0x32#8 tag .ok
        [BitVec.ofNat 8 (s.vks.lesson.review.length - kept.length), 0#8, 0#8, 0#8] []
        { s.vks with lesson := { s.vks.lesson with
            records := s.vks.lesson.records.set w ProgressRecord.zero, review := kept } })))
    ∧ (∀ x : Nat, exec (.progressClear tag ([1#8] ++ leBytes 2 x)) s = .next (withPart s (replying 0x32#8 tag .ok
        [BitVec.ofNat 8 s.vks.lesson.review.length, 0#8, 0#8, 0#8] []
        { s.vks with lesson := { s.vks.lesson with
            records := List.replicate 512 ProgressRecord.zero, review := [] } })))
    ∧ (∀ start : Nat, start ≤ 31 → exec (.reviewGet tag (leBytes 1 start)) s = .next (withPart s (replying 0x33#8 tag .ok
        [BitVec.ofNat 8 s.vks.lesson.review.length, BitVec.ofNat 8 start,
          BitVec.ofNat 8 (min 24 (s.vks.lesson.review.length - start)), 0#8]
        (((s.vks.lesson.review.drop start).take 24).flatMap (leBytes 2)) s.vks)))
    ∧ exec (.reviewClear tag []) s = .next (withPart s (replying 0x34#8 tag .ok
        [BitVec.ofNat 8 s.vks.lesson.review.length, 0#8, 0#8, 0#8] []
        { s.vks with lesson := { s.vks.lesson with review := [] } }))


/-! ### Attempts (02) -/

/-- R20, R22, R23, R24: ATTEMPT OPEN of a valid word, taken in IDLE and GAP, fills the context, starts the prompt and awaits
it, raises ATTEMPT_OPENED and answers the mode, the letter count and the state; with an open attempt it is BUSY; a bad length,
index, mode or word is BAD_ARGS with its cause. Of several causes the first in that order answers, which is the model's choice
(log 10). The notice is stated where nothing can be raised before it. -/
def Obligations.AttemptOpenFillsTheContext : Prop :=
  ∀ (s : State) (tag : Byte) (w : Nat), Awake s → w < 512 →
    (∀ (e : WordEntry) (third : Option Nat), s.vks.entry w = some e → (∀ b, third = some b → b ≤ 2) →
      let arg := leBytes 2 w ++ third.toList.flatMap (leBytes 1)
      let mode := if third = some 1 then CheckMode.immediate else if third = some 2 then CheckMode.deferred
        else e.settings.checkMode
      ((s.vks.attempt.state = .idle ∨ s.vks.attempt.state = .gap) →
        ∃ t, exec (.attemptOpen tag arg) s = .next t ∧ t.flash = s.flash ∧ t.pending = s.pending
          ∧ t.vks.attempt.ctx.word = w ∧ t.vks.attempt.ctx.settings = { e.settings with checkMode := mode }
          ∧ t.vks.attempt.ctx.tryNumber = 1 ∧ t.vks.attempt.ctx.buffer = [] ∧ t.vks.attempt.ctx.mistakes = 0
          ∧ t.vks.attempt.ctx.hintsUsed = 0 ∧ t.vks.attempt.ctx.hintStage = 0 ∧ t.vks.attempt.ctx.hintPosition = 0
          ∧ t.vks.attempt.ctx.nudged = false ∧ t.vks.attempt.ctx.origin = .command
          ∧ t.vks.attempt.ctx.verdict = none ∧ t.vks.attempt.ctx.closed = false
          ∧ t.vks.attempt.shelf = s.vks.attempt.shelf
          ∧ (t.vks.attempt.state = .prompting ∨ t.vks.attempt.state = .listening)
          ∧ (e.prompts ≠ [] → s.vks.sched.queue.length < 16 → t.vks.attempt.state = .prompting
            ∧ t.vks.attempt.ctx.awaited = some (.prompt, s.vks.sched.nextId)
            ∧ t.vks.attempt.ctx.outstanding = [s.vks.sched.nextId]
            ∧ EngineQueued s.vks t.vks .prompt (e.prompts.map Item.seg))
          ∧ t.vks.lesson = { s.vks.lesson with gapTimer := none }
          ∧ (s.vks.power.amp ≠ .on → s.vks.params.ampWarmup ≠ 0 → s.vks.sched.queue.length < 16 →
              s.vks.notices.queue.length < 16 →
              ∃ later, t.vks.notices.queue = s.vks.notices.queue ++ .attemptOpened w 0 mode.code 1 0 0 :: later)
          ∧ OutsideAttempt t.vks (replying 0x20#8 tag .ok [BitVec.ofNat 8 mode.code, BitVec.ofNat 8 e.letters.length,
              BitVec.ofNat 8 t.vks.attempt.state.code, 0#8] [] s.vks))
      ∧ ((s.vks.attempt.state = .prompting ∨ s.vks.attempt.state = .listening ∨ s.vks.attempt.state = .responding) →
        exec (.attemptOpen tag arg) s = .next (withPart s (replying 0x20#8 tag .busy
          [BitVec.ofNat 8 s.vks.attempt.state.code, 0#8, 0#8, 0#8] [] s.vks))))
    ∧ (s.vks.entry w = none → exec (.attemptOpen tag (leBytes 2 w)) s
        = .next (withPart s (replying 0x20#8 tag .badArgs [10#8, 0#8, 0#8, 0#8] [] s.vks)))
    ∧ (∀ b : Nat, 2 < b → b < 256 → exec (.attemptOpen tag (leBytes 2 w ++ leBytes 1 b)) s
        = .next (withPart s (replying 0x20#8 tag .badArgs [7#8, 0#8, 0#8, 0#8] [] s.vks)))
    ∧ (∀ x : Nat, 512 ≤ x → x < 65536 → exec (.attemptOpen tag (leBytes 2 x)) s
        = .next (withPart s (replying 0x20#8 tag .badArgs [2#8, 0#8, 0#8, 0#8] [] s.vks)))
    ∧ (∀ arg : List Byte, arg.length ≠ 2 → arg.length ≠ 3 → arg.length ≤ 58 → exec (.attemptOpen tag arg) s
        = .next (withPart s (replying 0x20#8 tag .badArgs [1#8, 0#8, 0#8, 0#8] [] s.vks)))

/-- R46: ATTEMPT CANCEL is refused in IDLE. Elsewhere it turns lesson auto mode off and the state becomes IDLE: an attempt
not yet closed closes CANCELLED with position 0 and its notice, its engine utterances, on the main voice or waiting, and the
waiting echo gone, a playing echo left; a closed one keeps its verdict and loses its closing response; a gap ends. Progress,
review and lesson list stay. That
nothing is awaited any more, and that a closed attempt's set is emptied as well, is the model's choice (log 37). -/
def Obligations.AttemptCancelClosesTheAttempt : Prop :=
  ∀ (s : State) (tag : Byte), Awake s →
    (s.vks.attempt.state = .idle →
      exec (.attemptCancel tag []) s = .next (withPart s (replying 0x21#8 tag .noAttempt [0#8, 0#8, 0#8, 0#8] [] s.vks)))
    ∧ ((s.vks.attempt.state = .prompting ∨ s.vks.attempt.state = .listening
          ∨ (s.vks.attempt.state = .responding ∧ s.vks.attempt.ctx.closed = false)) →
      ∃ t, exec (.attemptCancel tag []) s = .next t ∧ t.flash = s.flash ∧ t.pending = s.pending
        ∧ t.vks.attempt.state = .idle ∧ t.vks.attempt.shelf = s.vks.attempt.shelf
        ∧ t.vks.attempt.ctx = { s.vks.attempt.ctx with
            verdict := some .cancelled, verdictPosition := 0, closed := true, awaited := none, outstanding := [] }
        ∧ t.vks.lesson = { s.vks.lesson with auto := false }
        ∧ (∀ u ∈ t.vks.sched.queue, u ∈ s.vks.sched.queue
            ∧ (u.source = .say ∨ u.source = .echo ∨ u.id ∉ s.vks.attempt.ctx.outstanding))
        ∧ (∀ u, t.vks.reader.mainVoice.utterance = some u →
            u.source = .say ∨ u.source = .echo ∨ u.id ∉ s.vks.attempt.ctx.outstanding)
        ∧ (∀ u, s.vks.reader.mainVoice.state ≠ .idle → s.vks.reader.mainVoice.utterance = some u →
            u.id ∉ s.vks.attempt.ctx.outstanding → t.vks.reader.mainVoice.utterance = some u)
        ∧ t.vks.sched.echoLine = none ∧ t.vks.reader.echoVoice.utterance = s.vks.reader.echoVoice.utterance
        ∧ (s.vks.notices.queue.length < 16 → ∃ later, t.vks.notices.queue = s.vks.notices.queue
            ++ .attemptClosed s.vks.attempt.ctx.word 8 s.vks.attempt.ctx.tryNumber s.vks.attempt.ctx.hintsUsed
                s.vks.attempt.ctx.mistakes 0 :: later)
        ∧ OutsideAttempt t.vks (replying 0x21#8 tag .ok
            [BitVec.ofNat 8 s.vks.attempt.state.code, 1#8, 0#8, 0#8] [] s.vks))
    ∧ (s.vks.attempt.state = .responding → s.vks.attempt.ctx.closed = true →
      ∃ t, exec (.attemptCancel tag []) s = .next t ∧ t.flash = s.flash ∧ t.pending = s.pending
        ∧ t.vks.attempt.state = .idle ∧ t.vks.attempt.ctx = { s.vks.attempt.ctx with awaited := none, outstanding := [] }
        ∧ t.vks.lesson = { s.vks.lesson with auto := false }
        ∧ (∀ k, s.vks.attempt.ctx.awaited = some k → (∀ u ∈ t.vks.sched.queue, u ∈ s.vks.sched.queue ∧ u.id ≠ k.2)
            ∧ ∀ u, t.vks.reader.mainVoice.utterance = some u → u.id ≠ k.2)
        ∧ OutsideAttempt t.vks (replying 0x21#8 tag .ok [3#8, 0#8, 0#8, 0#8] [] s.vks))
    ∧ (s.vks.attempt.state = .gap →
      ∃ t, exec (.attemptCancel tag []) s = .next t ∧ t.flash = s.flash ∧ t.pending = s.pending
        ∧ t.vks.attempt.state = .idle ∧ t.vks.attempt.ctx = s.vks.attempt.ctx
        ∧ t.vks.lesson = { s.vks.lesson with auto := false, gapTimer := none }
        ∧ OutsideAttempt t.vks (replying 0x21#8 tag .ok [4#8, 0#8, 0#8, 0#8] [] s.vks))

/-- R47, R48, R49: ATTEMPT SHELVE in PROMPTING and LISTENING moves the context to the shelf, giving up an older one with
SHELF_LOST, turns lesson auto mode off, cuts or removes the attempt's engine utterances and leaves its echoes; ATTEMPT UNSHELVE
in IDLE and GAP brings the context back with origin SHELF, makes the prompt and awaits it, and raises ATTEMPT_OPENED; each is
refused elsewhere. The prompt is stated where the word has one and the queue has room, the notice where nothing can be raised
before it. -/
def Obligations.ShelveAndUnshelveMoveTheAttempt : Prop :=
  ∀ (s : State) (tag : Byte), Awake s →
    ((s.vks.attempt.state = .prompting ∨ s.vks.attempt.state = .listening) →
      ∃ t, exec (.attemptShelve tag []) s = .next t ∧ t.flash = s.flash ∧ t.pending = s.pending
        ∧ t.vks.attempt.state = .idle
        ∧ t.vks.attempt.ctx = { s.vks.attempt.ctx with nudged := false, awaited := none, outstanding := [] }
        ∧ t.vks.attempt.shelf = some { s.vks.attempt.ctx with nudged := false, awaited := none, outstanding := [] }
        ∧ t.vks.lesson = { s.vks.lesson with auto := false }
        ∧ (∀ u ∈ t.vks.sched.queue, u ∈ s.vks.sched.queue
            ∧ (u.source = .say ∨ u.source = .echo ∨ u.id ∉ s.vks.attempt.ctx.outstanding))
        ∧ (∀ u, t.vks.reader.mainVoice.utterance = some u →
            u.source = .say ∨ u.source = .echo ∨ u.id ∉ s.vks.attempt.ctx.outstanding)
        ∧ (∀ u, s.vks.reader.mainVoice.state ≠ .idle → s.vks.reader.mainVoice.utterance = some u →
            u.id ∉ s.vks.attempt.ctx.outstanding → t.vks.reader.mainVoice.utterance = some u)
        ∧ (s.vks.reader.echoVoice.state ≠ .idle → t.vks.sched.echoLine = s.vks.sched.echoLine
            ∧ t.vks.reader.echoVoice.utterance = s.vks.reader.echoVoice.utterance)
        ∧ (s.vks.attempt.shelf = none →
          OutsideAttempt t.vks (replying 0x22#8 tag .ok [0#8, 0#8, 0#8, 0#8] [] s.vks))
        ∧ (∀ c, s.vks.attempt.shelf = some c →
          OutsideAttempt t.vks (replying 0x22#8 tag .ok ([1#8, 0#8] ++ leBytes 2 c.word) [] s.vks)
          ∧ (s.vks.notices.queue.length < 16 →
              ∃ later, t.vks.notices.queue = s.vks.notices.queue ++ .shelfLost c.word :: later)))
    ∧ (s.vks.attempt.state = .responding →
      exec (.attemptShelve tag []) s = .next (withPart s (replying 0x22#8 tag .busy [3#8, 0#8, 0#8, 0#8] [] s.vks)))
    ∧ ((s.vks.attempt.state = .idle ∨ s.vks.attempt.state = .gap) →
      exec (.attemptShelve tag []) s = .next (withPart s (replying 0x22#8 tag .noAttempt [0#8, 0#8, 0#8, 0#8] [] s.vks)))
    ∧ ((s.vks.attempt.state = .idle ∨ s.vks.attempt.state = .gap) → ∀ c, s.vks.attempt.shelf = some c →
      ∃ t, exec (.attemptUnshelve tag []) s = .next t ∧ t.flash = s.flash ∧ t.pending = s.pending
        ∧ t.vks.attempt.shelf = none
        ∧ (t.vks.attempt.state = .prompting ∨ t.vks.attempt.state = .listening)
        ∧ (∃ awaited outstanding, t.vks.attempt.ctx = { c with
            origin := .shelf, nudged := false, closed := false, awaited := awaited, outstanding := outstanding })
        ∧ (∀ e : WordEntry, s.vks.entry c.word = some e → e.prompts ≠ [] → s.vks.sched.queue.length < 16 →
            c.outstanding = [] →
            t.vks.attempt.state = .prompting ∧ t.vks.attempt.ctx.awaited = some (.prompt, s.vks.sched.nextId)
            ∧ t.vks.attempt.ctx.outstanding = [s.vks.sched.nextId]
            ∧ EngineQueued s.vks t.vks .prompt (e.prompts.map Item.seg))
        ∧ (s.vks.power.amp ≠ .on → s.vks.params.ampWarmup ≠ 0 → s.vks.sched.queue.length < 16 →
            s.vks.notices.queue.length < 16 →
            ∃ later, t.vks.notices.queue = s.vks.notices.queue
              ++ .attemptOpened c.word 2 c.settings.checkMode.code c.tryNumber c.buffer.length 0 :: later)
        ∧ t.vks.lesson = { s.vks.lesson with gapTimer := none }
        ∧ OutsideAttempt t.vks (replying 0x23#8 tag .ok
            (leBytes 2 c.word ++ [BitVec.ofNat 8 t.vks.attempt.state.code, 0#8]) [] s.vks))
    ∧ ((s.vks.attempt.state = .idle ∨ s.vks.attempt.state = .gap) → s.vks.attempt.shelf = none →
      exec (.attemptUnshelve tag []) s = .next (withPart s (replying 0x23#8 tag .noAttempt [0#8, 0#8, 0#8, 0#8] [] s.vks)))
    ∧ ((s.vks.attempt.state = .prompting ∨ s.vks.attempt.state = .listening ∨ s.vks.attempt.state = .responding) →
      exec (.attemptUnshelve tag []) s = .next (withPart s (replying 0x23#8 tag .busy
        [BitVec.ofNat 8 s.vks.attempt.state.code, 0#8, 0#8, 0#8] [] s.vks)))

/-- R50, R36, R65, R24: ATTEMPT GET returns the context and the shelf's summary in 45 bytes, and changes nothing. The codes
of what is awaited, of verdicts, origins, echo styles, check modes and mastery are spelled. -/
def Obligations.AttemptGetReturnsTheContext : Prop :=
  (∀ (s : State) (tag : Byte), Awake s → s.vks.attempt.ctx.buffer.length ≤ 18 →
    ∃ bulk : List Byte, bulk.length = 45
      ∧ exec (.attemptGet tag []) s = .next (withPart s (replying 0x24#8 tag .ok
          [BitVec.ofNat 8 s.vks.attempt.state.code, 0#8, 0#8, 0#8] bulk s.vks))
      ∧ bulk.take 15 = (let c := s.vks.attempt.ctx
          leBytes 2 c.word ++ [BitVec.ofNat 8 s.vks.attempt.state.code,
            BitVec.ofNat 8 ((if c.settings.checkMode = .deferred then 1 else 0) + (if c.settings.barge then 2 else 0)
              + 4 * c.settings.echoStyle.code + (if c.nudged then 16 else 0) + (if c.closed then 32 else 0)
              + 64 * c.origin.code)]
          ++ [c.settings.tries, c.tryNumber, c.settings.mistakeLimit, c.mistakes, c.settings.hintLimit, c.hintsUsed,
            c.hintStage, c.hintPosition, c.origin.retries, verdictCode c.verdict, c.verdictPosition].map (BitVec.ofNat 8))
      ∧ (bulk.drop 15).take 5 = [BitVec.ofNat 8 s.vks.attempt.ctx.outstanding.length,
            BitVec.ofNat 8 (match s.vks.attempt.ctx.awaited with
              | none => 0 | some (.prompt, _) => 1 | some (.tryResponse, _) => 2 | some (.closing, _) => 3)]
          ++ leBytes 2 (match s.vks.attempt.inactivity with | some ms => (ms + 99) / 100 | none => 0)
          ++ [BitVec.ofNat 8 s.vks.attempt.ctx.buffer.length]
      ∧ (bulk.drop 20).take 18 = s.vks.attempt.ctx.buffer.map (BitVec.ofNat 8)
          ++ List.replicate (18 - s.vks.attempt.ctx.buffer.length) 0#8
      ∧ bulk.drop 38 = (match s.vks.attempt.shelf with
          | some k => [1#8] ++ leBytes 2 k.word ++ [k.tryNumber, k.buffer.length, k.hintsUsed, k.mistakes].map (BitVec.ofNat 8)
          | none => List.replicate 7 0#8))
  ∧ verdictCode none = 0 ∧ [Verdict.exact, .substitution, .swap, .missing, .extra, .wrong, .abandoned, .cancelled].map
      (fun x => (x.code, verdictCode (some x))) = [(1, 1), (2, 2), (3, 3), (4, 4), (5, 5), (6, 6), (7, 7), (8, 8)]
  ∧ (∀ r : Nat, Origin.command.code = 0 ∧ (Origin.lesson r).code = 1 ∧ Origin.shelf.code = 2
      ∧ Origin.command.retries = 0 ∧ (Origin.lesson r).retries = r ∧ Origin.shelf.retries = 0)
  ∧ [EchoStyle.name, .sound, .none].map EchoStyle.code = [0, 1, 2] ∧ [CheckMode.immediate, .deferred].map CheckMode.code = [1, 2]
  ∧ [Mastery.new, .learning, .known, .slipping].map Mastery.code = [0, 1, 2, 3]

/-- R34: the verdict and position of a graded try, by the first of the six rules that applies. -/
def Obligations.GradingFollowsTheSixRules : Prop :=
  ∀ a t : List Nat,
    let oneOff := fun p => 1 ≤ p ∧ p ≤ t.length ∧ letterAt a p ≠ letterAt t p
      ∧ ∀ i, i ≠ p → letterAt a i = letterAt t i
    let swapped := fun p => 1 ≤ p ∧ p + 1 ≤ t.length ∧ letterAt a p ≠ letterAt t p
      ∧ letterAt a p = letterAt t (p + 1) ∧ letterAt a (p + 1) = letterAt t p
      ∧ ∀ i, i ≠ p → i ≠ p + 1 → letterAt a i = letterAt t i
    let missing := fun p => 1 ≤ p ∧ p ≤ t.length ∧ t.eraseIdx (p - 1) = a
    let extra := fun p => 1 ≤ p ∧ p ≤ a.length ∧ a.eraseIdx (p - 1) = t
    (a = t → grade a t = (.exact, 0))
    ∧ (a.length = t.length → ∀ p, oneOff p → grade a t = (.substitution, p))
    ∧ (a.length = t.length → ∀ p, swapped p → grade a t = (.swap, p))
    ∧ (∀ p, missing p → (∀ q, q < p → ¬ missing q) → grade a t = (.missing, p))
    ∧ (∀ p, extra p → (∀ q, q < p → ¬ extra q) → grade a t = (.extra, p))
    ∧ (a ≠ t → (∀ p, ¬ (a.length = t.length ∧ (oneOff p ∨ swapped p))) → (∀ p, ¬ missing p) → (∀ p, ¬ extra p) →
        grade a t = (.wrong, 0))

/-- R22, R25, R26, R29, R30, R32, R33, R36, R37, R38, R39, R41, R45, R58, R59, R183: keys in LISTENING in immediate mode. A
LETTER is compared with the next target letter: a match is appended and echoed, the hint stage becomes 0, and the last one
closes the attempt EXACT; a mistake is refused, counted and answered by row MISTAKE, and closes the attempt WRONG at the
mistake limit. ERASE and SUBMIT are IGNORED. A HINT names the next position: it speaks the sound, then the name, and its
third stage enters the letter; at the hint limit it is refused with a CLICK. The last letter, typed or entered by a hint,
and the mistake limit close the attempt as `ClosesAttempt` says: the closing row spoken and awaited, ATTEMPT_CLOSED ahead of
MASTERY, the close counted, the lamp lit. The buffer of an open immediate attempt is the beginning of the target (section
2.5). -/
def Obligations.LettersInImmediateMode : Prop :=
  ∀ (v : Vks) (e : WordEntry) (c : Nat), v.attempt.state = .listening → v.attempt.ctx.settings.checkMode = .immediate →
    v.attemptEntry = some e → v.attempt.ctx.buffer.length < e.letters.length →
    let m := v.attempt.ctx.buffer.length
    let typed := (handlePress .letter c v).1
    let named := fun x : Option Nat => match x with | some n => Item.seg n | none => Item.tone .click
    (letterAt e.letters (m + 1) = some c →
      (handlePress .letter c v).2 = .accepted
      ∧ (m + 1 < e.letters.length →
          typed.attempt.state = .listening ∧ typed.attempt.ctx.buffer = v.attempt.ctx.buffer ++ [c]
          ∧ typed.attempt.ctx.hintStage = 0 ∧ typed.attempt.ctx.mistakes = v.attempt.ctx.mistakes
          ∧ typed.attempt.ctx.nudged = false ∧ typed.lesson = v.lesson
          ∧ (v.attempt.ctx.settings.echoStyle = .none → typed.sched = v.sched))
      ∧ (v.attempt.ctx.settings.echoStyle = .name → EchoQueued v typed (named (v.letter c).name))
      ∧ (v.attempt.ctx.settings.echoStyle = .sound → EchoQueued v typed (named (v.letter c).sound))
      ∧ (m + 1 = e.letters.length → v.lesson.auto = false →
          typed.attempt.ctx.verdict = some .exact ∧ typed.attempt.ctx.closed = true
          ∧ typed.attempt.ctx.buffer = v.attempt.ctx.buffer ++ [c] ∧ typed.notices.correct = some 1000
          ∧ (typed.attempt.state = .responding ∨ typed.attempt.state = .idle))
      ∧ (m + 1 = e.letters.length → ClosesAttempt v typed
          { v.attempt.ctx with buffer := v.attempt.ctx.buffer ++ [c], hintStage := 0, nudged := false } .exact 0))
    ∧ (letterAt e.letters (m + 1) ≠ some c →
      (handlePress .letter c v).2 = .refused ∧ typed.notices.wrong = some 1000
      ∧ (v.attempt.ctx.mistakes + 1 < v.attempt.ctx.settings.mistakeLimit →
          typed.attempt.state = .listening ∧ typed.attempt.ctx.buffer = v.attempt.ctx.buffer
          ∧ typed.attempt.ctx.mistakes = v.attempt.ctx.mistakes + 1 ∧ typed.lesson = v.lesson
          ∧ (let items := expandAll v ⟨some e, v.attempt.ctx.buffer, m + 1, none⟩ (v.row 12)
             items ≠ [] → v.sched.queue.length < 16 → EngineQueued v typed .response items))
      ∧ (v.attempt.ctx.settings.mistakeLimit ≤ v.attempt.ctx.mistakes + 1 → v.lesson.auto = false →
          typed.attempt.ctx.verdict = some .wrong ∧ typed.attempt.ctx.verdictPosition = m + 1
          ∧ typed.attempt.ctx.closed = true)
      ∧ (v.attempt.ctx.settings.mistakeLimit ≤ v.attempt.ctx.mistakes + 1 → ClosesAttempt v typed
          { v.attempt.ctx with mistakes := v.attempt.ctx.mistakes + 1, nudged := false } .wrong (m + 1)))
    ∧ handlePress .erase c v = (v, .ignored) ∧ handlePress .submit c v = (v, .ignored)
    ∧ (v.attempt.ctx.buffer = e.letters.take m → v.attempt.ctx.hintsUsed ≤ 255 →
      let hinted := (handlePress .hint c v).1
      let stage := if v.attempt.ctx.hintPosition = m + 1 then v.attempt.ctx.hintStage else 0
      (stage < v.attempt.ctx.settings.hintLimit →
        (handlePress .hint c v).2 = .accepted
        ∧ ((stage < 2 ∨ m + 1 < e.letters.length ∨ v.lesson.auto = false) → hinted.attempt.ctx.nudged = false
          ∧ hinted.attempt.ctx.hintsUsed = min 255 (v.attempt.ctx.hintsUsed + 1) ∧ hinted.attempt.ctx.hintPosition = m + 1)
        ∧ (stage < 2 → hinted.attempt.state = .listening ∧ hinted.attempt.ctx.hintStage = stage + 1
            ∧ hinted.attempt.ctx.buffer = v.attempt.ctx.buffer ∧ hinted.attempt.ctx.awaited = v.attempt.ctx.awaited
            ∧ hinted.lesson = v.lesson
            ∧ (v.sched.queue.length < 16 → EngineQueued v hinted .hint
                (expandAll v ⟨some e, v.attempt.ctx.buffer, m + 1, none⟩
                  [if stage = 0 then .letterSoundAt else .letterNameAt])))
        ∧ (2 ≤ stage → ∀ x, letterAt e.letters (m + 1) = some x →
            ((m + 1 < e.letters.length ∨ v.lesson.auto = false) →
              hinted.attempt.ctx.buffer = v.attempt.ctx.buffer ++ [x] ∧ hinted.attempt.ctx.hintStage = 0)
            ∧ (v.attempt.ctx.settings.echoStyle ≠ .sound → EchoQueued v hinted (named (v.letter x).name))
            ∧ (v.attempt.ctx.settings.echoStyle = .sound → EchoQueued v hinted (named (v.letter x).sound))
            ∧ (m + 1 < e.letters.length → hinted.attempt.state = .listening ∧ hinted.lesson = v.lesson)
            ∧ (m + 1 = e.letters.length → v.lesson.auto = false → hinted.attempt.ctx.verdict = some .exact
              ∧ hinted.attempt.ctx.closed = true ∧ hinted.notices.correct = some 1000)
            ∧ (m + 1 = e.letters.length → ClosesAttempt v hinted
                { v.attempt.ctx with buffer := v.attempt.ctx.buffer ++ [x], hintStage := 0, hintPosition := m + 1
                                     hintsUsed := min 255 (v.attempt.ctx.hintsUsed + 1), nudged := false } .exact 0)))
      ∧ (v.attempt.ctx.settings.hintLimit ≤ stage →
        (handlePress .hint c v).2 = .refused ∧ hinted.attempt.state = .listening
        ∧ hinted.attempt.ctx.hintStage = stage ∧ hinted.attempt.ctx.hintPosition = m + 1
        ∧ hinted.attempt.ctx.hintsUsed = v.attempt.ctx.hintsUsed ∧ hinted.attempt.ctx.buffer = v.attempt.ctx.buffer
        ∧ hinted.attempt.ctx.nudged = false ∧ hinted.lesson = v.lesson ∧ EchoQueued v hinted (.tone .click)))

/-- R22, R23, R25, R26, R27, R28, R31, R32, R33, R35, R36, R37, R38, R39, R40, R41, R45, R58, R59, R183: keys in LISTENING in
deferred mode, REPEAT, and the other states. A LETTER is appended and echoed up to the capacity and refused with a BUZZ
beyond it; an ERASE removes the last letter with a CLICK; a SUBMIT grades the buffer; an EXACT try and one at the last try
close the attempt as `ClosesAttempt` says, any other fails the try as `FailsTry` says: the row of its verdict spoken and
awaited, TRY_FAILED raised, the WRONG lamp lit; with nothing typed ERASE and SUBMIT are IGNORED. A HINT names the first
position that differs, or none where the buffer begins with the whole target: its stages speak the sound, the name and the
spelling, or the word; at the hint limit it is refused with a CLICK. A REPEAT makes the prompt again and awaits it. In
PROMPTING a LETTER barges in where the word allows it: the prompt is cut or removed and the letter is handled as in
LISTENING; every other press there, and every press in RESPONDING, GAP and IDLE, is IGNORED and changes nothing. No press
reaches what `OutsideAttempt` names. -/
def Obligations.KeysInDeferredMode : Prop :=
  (∀ (v : Vks) (e : WordEntry) (c : Nat), v.attempt.state = .listening → v.attempt.ctx.settings.checkMode = .deferred →
    v.attemptEntry = some e →
    let typed := (handlePress .letter c v).1
    let named := fun x : Option Nat => match x with | some n => Item.seg n | none => Item.tone .click
    (v.attempt.ctx.buffer.length < min (e.letters.length + 2) 18 →
      (handlePress .letter c v).2 = .accepted
      ∧ typed.attempt.ctx.buffer = v.attempt.ctx.buffer ++ [c]
      ∧ typed.attempt.state = .listening ∧ typed.lesson = v.lesson ∧ typed.attempt.ctx.nudged = false
      ∧ (v.attempt.ctx.settings.echoStyle = .name → EchoQueued v typed (named (v.letter c).name))
      ∧ (v.attempt.ctx.settings.echoStyle = .sound → EchoQueued v typed (named (v.letter c).sound))
      ∧ (v.attempt.ctx.settings.echoStyle = .none → typed.sched = v.sched))
    ∧ (min (e.letters.length + 2) 18 ≤ v.attempt.ctx.buffer.length →
      (handlePress .letter c v).2 = .refused
      ∧ typed.attempt.ctx.buffer = v.attempt.ctx.buffer
      ∧ typed.attempt.state = .listening ∧ typed.lesson = v.lesson ∧ EchoQueued v typed (.tone .buzz))
    ∧ (v.attempt.ctx.buffer = [] → handlePress .erase c v = (v, .ignored) ∧ handlePress .submit c v = (v, .ignored))
    ∧ (v.attempt.ctx.buffer ≠ [] →
      (handlePress .erase c v).2 = .accepted
      ∧ (handlePress .erase c v).1.attempt.ctx.buffer = v.attempt.ctx.buffer.dropLast
      ∧ (handlePress .erase c v).1.attempt.state = .listening
      ∧ EchoQueued v (handlePress .erase c v).1 (.tone .click)
      ∧ (handlePress .submit c v).2 = .accepted
      ∧ (v.lesson.auto = false →
          (handlePress .submit c v).1.attempt.ctx.verdict = some (grade v.attempt.ctx.buffer e.letters).1
          ∧ (handlePress .submit c v).1.attempt.ctx.verdictPosition = (grade v.attempt.ctx.buffer e.letters).2)
      ∧ (let verdict := (grade v.attempt.ctx.buffer e.letters).1
         let p := (grade v.attempt.ctx.buffer e.letters).2
         let kept := { v.attempt.ctx with nudged := false }
         ((verdict = .exact ∨ v.attempt.ctx.settings.tries ≤ v.attempt.ctx.tryNumber) →
           ClosesAttempt v (handlePress .submit c v).1 kept verdict p)
         ∧ (verdict ≠ .exact → v.attempt.ctx.tryNumber < v.attempt.ctx.settings.tries →
           FailsTry v (handlePress .submit c v).1 kept verdict p)))
    ∧ (∀ p : Nat, v.attempt.ctx.hintsUsed ≤ 255 →
      ((p = 0 ∧ v.attempt.ctx.buffer.take e.letters.length = e.letters)
        ∨ (1 ≤ p ∧ p ≤ e.letters.length ∧ letterAt v.attempt.ctx.buffer p ≠ letterAt e.letters p
          ∧ v.attempt.ctx.buffer.take (p - 1) = e.letters.take (p - 1))) →
      let hinted := (handlePress .hint c v).1
      let stage := if v.attempt.ctx.hintPosition = p then v.attempt.ctx.hintStage else 0
      let part := if p = 0 then Part.word else if stage = 0 then .letterSoundAt else if stage = 1 then .letterNameAt
        else .spellTarget
      let items := expandAll v ⟨some e, v.attempt.ctx.buffer, p, none⟩ [part]
      hinted.attempt.state = .listening ∧ hinted.attempt.ctx.buffer = v.attempt.ctx.buffer ∧ hinted.lesson = v.lesson
      ∧ hinted.attempt.ctx.hintPosition = p ∧ hinted.attempt.ctx.nudged = false
      ∧ hinted.attempt.ctx.awaited = v.attempt.ctx.awaited
      ∧ (stage < v.attempt.ctx.settings.hintLimit →
        (handlePress .hint c v).2 = .accepted ∧ hinted.attempt.ctx.hintStage = stage + 1
        ∧ hinted.attempt.ctx.hintsUsed = min 255 (v.attempt.ctx.hintsUsed + 1)
        ∧ (items = [] → hinted.sched = v.sched)
        ∧ (items ≠ [] → v.sched.queue.length < 16 → EngineQueued v hinted .hint items))
      ∧ (v.attempt.ctx.settings.hintLimit ≤ stage →
        (handlePress .hint c v).2 = .refused ∧ hinted.attempt.ctx.hintStage = stage
        ∧ hinted.attempt.ctx.hintsUsed = v.attempt.ctx.hintsUsed ∧ EchoQueued v hinted (.tone .click))))
  ∧ (∀ (v : Vks) (e : WordEntry) (c : Nat), v.attempt.state = .listening → v.attemptEntry = some e →
    let again := (handlePress .repeatPrompt c v).1
    let items := expandAll v ⟨some e, v.attempt.ctx.buffer, 0, none⟩ (if e.prompts = [] then v.row 15 else [.prompt])
    (handlePress .repeatPrompt c v).2 = .accepted ∧ again.lesson = v.lesson
    ∧ (∃ awaited outstanding, again.attempt.ctx = { v.attempt.ctx with
        nudged := false, awaited := awaited, outstanding := outstanding })
    ∧ (items = [] → again.attempt.state = .listening ∧ again.attempt.ctx.awaited = none)
    ∧ (items ≠ [] → v.sched.queue.length < 16 → again.attempt.state = .prompting
      ∧ again.attempt.ctx.awaited = some (.prompt, v.sched.nextId) ∧ v.sched.nextId ∈ again.attempt.ctx.outstanding
      ∧ EngineQueued v again .prompt items))
  ∧ (∀ (v : Vks) (cls : KeyClass) (c : Nat), v.attempt.state = .prompting →
    ((cls ≠ .letter ∨ v.attempt.ctx.settings.barge = false) → handlePress cls c v = (v, .ignored))
    ∧ (∀ k, v.attempt.ctx.settings.barge = true → v.attempt.ctx.awaited = some k →
      ∃ u : Vks, handlePress .letter c v = handlePress .letter c u ∧ u.attempt.state = .listening
        ∧ u.attempt.ctx = { v.attempt.ctx with
            awaited := none, outstanding := v.attempt.ctx.outstanding.filter (fun x => x ≠ k.2) }
        ∧ (∀ x ∈ u.sched.queue, x ∈ v.sched.queue ∧ x.id ≠ k.2)
        ∧ (∀ x, u.reader.mainVoice.utterance = some x → x.id ≠ k.2)
        ∧ (∀ x, v.reader.mainVoice.state ≠ .idle → v.reader.mainVoice.utterance = some x → x.id ≠ k.2 →
            u.reader.mainVoice.utterance = some x ∧ u.sched.queue = v.sched.queue.filter (fun y => y.id ≠ k.2))
        ∧ u.lesson = v.lesson ∧ OutsideAttempt u v))
  ∧ (∀ (v : Vks) (cls : KeyClass) (c : Nat),
    (v.attempt.state = .responding ∨ v.attempt.state = .gap ∨ v.attempt.state = .idle) →
    handlePress cls c v = (v, .ignored))
  ∧ (∀ (v : Vks) (cls : KeyClass) (c : Nat), OutsideAttempt (handlePress cls c v).1 v)

/-- R35, R36, R37, R60, R63, R64, R65, R70, R71: a counted close adds one attempt and one of its class to the word's record with
saturation, moves streak, slips and mastery by the table of R64, records the verdict, raises MASTERY where the mastery
changed, enters the word at the tail of the review list or removes it when it becomes KNOWN, requeues a lesson word that was
not passed, and leaves every other word's record alone. The class of a close, its response row and the row of a failed try
go by verdict, try number, hints and mistakes. -/
def Obligations.ClosesAreCountedInTheRecord : Prop :=
  (∀ (v : Vks) (w : Nat) (verdict : Verdict) (cls : CloseClass) (origin : Origin), TablesSized v → w < 512 →
    let r := v.record w
    let t := countClose w verdict cls origin v
    let streak := if cls = .pass then min 255 (r.streak + 1) else 0
    let others := v.lesson.review.filter (fun x => x ≠ w)
    (∀ x, x ≠ w → t.record x = v.record x)
    ∧ (r.attempts ≤ 65535 → (t.record w).attempts = min 65535 (r.attempts + 1))
    ∧ (r.passes ≤ 65535 → (t.record w).passes = if cls = .pass then min 65535 (r.passes + 1) else r.passes)
    ∧ (r.assisted ≤ 65535 → (t.record w).assisted = if cls = .assisted then min 65535 (r.assisted + 1) else r.assisted)
    ∧ (r.misses ≤ 65535 → (t.record w).misses = if cls = .miss then min 65535 (r.misses + 1) else r.misses)
    ∧ (t.record w).lastVerdict = verdict.code
    ∧ (r.streak ≤ 255 → (t.record w).streak = streak
      ∧ (r.mastery = .new ∨ r.mastery = .learning → (t.record w).slips = r.slips
        ∧ (t.record w).mastery = if cls = .pass ∧ v.params.knownStreak ≤ streak then .known else .learning)
      ∧ (r.mastery = .known → cls = .pass → (t.record w).mastery = .known ∧ (t.record w).slips = r.slips)
      ∧ (r.mastery = .known → cls ≠ .pass → (t.record w).mastery = .slipping ∧ (t.record w).slips = 1)
      ∧ (r.mastery = .slipping → cls = .pass → v.params.knownStreak ≤ streak →
          (t.record w).mastery = .known ∧ (t.record w).slips = 0)
      ∧ (r.mastery = .slipping → cls = .pass → streak < v.params.knownStreak →
          (t.record w).mastery = .slipping ∧ (t.record w).slips = r.slips)
      ∧ (r.mastery = .slipping → cls ≠ .pass → r.slips = 0 → (t.record w).mastery = .slipping ∧ (t.record w).slips = 1)
      ∧ (r.mastery = .slipping → cls ≠ .pass → 1 ≤ r.slips → (t.record w).mastery = .learning ∧ (t.record w).slips = 0))
    ∧ ((t.record w).mastery = r.mastery → t.notices = v.notices)
    ∧ ((t.record w).mastery ≠ r.mastery → v.notices.queue.length < 16 → t.notices = { v.notices with
        queue := v.notices.queue ++ [.mastery w r.mastery.code (t.record w).mastery.code (t.record w).streak] })
    ∧ (cls ≠ .pass → t.lesson.review = (if others.length < 32 then others else others.drop 1) ++ [w])
    ∧ (cls = .pass → (t.record w).mastery = .known → r.mastery ≠ .known → t.lesson.review = others)
    ∧ (cls = .pass → ((t.record w).mastery ≠ .known ∨ r.mastery = .known) → t.lesson.review = v.lesson.review)
    ∧ (∀ k, origin = .lesson (k + 1) → cls ≠ .pass → v.lesson.entries.length < 32 →
        t.lesson.entries = v.lesson.entries ++ [⟨w, k⟩])
    ∧ ((cls = .pass ∨ origin = .command ∨ origin = .shelf ∨ origin = .lesson 0 ∨ 32 ≤ v.lesson.entries.length) →
        t.lesson.entries = v.lesson.entries)
    ∧ t.lesson.auto = v.lesson.auto ∧ t.lesson.gapTimer = v.lesson.gapTimer ∧ t.attempt = v.attempt
    ∧ OutsideAttempt t v)
  ∧ (∀ (c : Context) (verdict : Verdict),
    closeClass .exact c = (if c.tryNumber = 1 ∧ c.hintsUsed = 0 ∧ c.mistakes = 0 then .pass else .assisted)
    ∧ (verdict ≠ .exact → closeClass verdict c = .miss))
  ∧ closeRow .exact .pass = 0 ∧ closeRow .exact .assisted = 1
  ∧ [Verdict.substitution, .swap, .missing, .extra, .wrong, .abandoned].map (fun x => closeRow x .miss) = [7, 8, 9, 10, 11, 13]
  ∧ [Verdict.substitution, .swap, .missing, .extra, .wrong].map tryRow = [2, 3, 4, 5, 6]

/-! ### Utterances (05) -/

/-- R98, R99, R101, R103, R104, R105, R106, R107, R108, R109, R110, R119, R128, R129: where a SAY, an engine utterance and an
echo go. A SAY expands its parts; with items it makes an utterance under the next identity, which joins the tail of the main
queue while the main voice is busy and starts at once on a free voice with an empty queue and an open store; with none it
makes nothing; at a full queue it is QUEUE_FULL. A first item that is a segment of the store is then read at once by an
engine that is free for it, and an IDLE engine serves the voice that needs a read. An engine utterance starts at once on a
free main voice of an open store behind no engine utterance; otherwise it stands behind the last waiting one; a full queue
gives up its newest SAY with its notice, and a queue of 16 engine utterances turns the arrival away, which still has used
its identity. An echo drops a waiting one and starts on a free voice, cuts a playing echo whose age meets the cut floor, or
waits. An output instant that brings the age to the floor, or plays the echo to its end, starts a waiting echo the line
admits; one it does not admit leaves the echo playing. -/
def Obligations.SayJoinsTheMainQueue : Prop :=
  (∀ (s : State) (tag userTag : Byte) (parts : List (Nat × Nat)), Awake s → 1 ≤ parts.length → parts.length ≤ 18 →
     (∀ p ∈ parts, 1 ≤ p.1 ∧ p.1 ≤ 9 ∧ p.2 < 65536 ∧ (p.1 = 1 → p.2 < 2048) ∧ (p.1 = 2 → p.2 ≤ 2)) →
     let arg := [userTag] ++ leBytes 1 parts.length ++ parts.flatMap (fun p => leBytes 1 p.1 ++ leBytes 2 p.2)
     let items := expandAll s.vks (sayExpansion s.vks) (parts.map partOf)
     let made : Utterance := ⟨s.vks.sched.nextId, .say, userTag, items.take 40, 0, 0, decide (40 < items.length), false, false⟩
     (items = [] → exec (.say tag arg) s = .next (withPart s (replying 0x38#8 tag .ok [0#8, 0#8, 0#8, 0#8] [] s.vks)))
     ∧ (items ≠ [] → 16 ≤ s.vks.sched.queue.length →
       exec (.say tag arg) s = .next (withPart s (replying 0x38#8 tag .queueFull [0#8, 0#8, 0#8, 0#8] [] s.vks)))
     ∧ (items ≠ [] → s.vks.sched.queue.length < 16 →
       ∃ t, exec (.say tag arg) s = .next t ∧ t.flash = s.flash ∧ t.pending = s.pending
         ∧ (s.vks.reader.mainVoice.state ≠ .idle → t.vks.sched.queue = s.vks.sched.queue ++ [made])
         ∧ (s.vks.reader.mainVoice.state = .idle → s.vks.sched.queue = [] →
             (s.vks.reader.store = .usable ∨ s.vks.reader.store = .unusable) →
             t.vks.sched.queue = [] ∧ t.vks.reader.mainVoice.state ≠ .idle
             ∧ t.vks.reader.mainVoice.utterance = some { made with playItem := 1 })
         ∧ (s.vks.reader.engine = .idle → ArbiterServes t.vks)
         ∧ (∀ n rest, items = .seg n :: rest → s.vks.reader.mainVoice.state = .idle → s.vks.sched.queue = [] →
             s.vks.reader.store = .usable → n < s.vks.reader.segmentCount → s.vks.power.amp = .on →
             s.vks.reader.engine = .idle → s.vks.reader.echoVoice.state = .idle → s.vks.sched.echoLine = none →
             t.vks.reader.engine = .entryRead .main n true)
         ∧ Untouched t.vks (replying 0x38#8 tag .ok
             (leBytes 2 s.vks.sched.nextId ++ [BitVec.ofNat 8 (min 40 items.length),
               BitVec.ofNat 8 ((if 40 < items.length then 1 else 0)
                 + (if ∃ p ∈ parts, p.1 = 3 ∧ (p.2 < 10 ∨ 2000 < p.2) then 2 else 0))]) []
             { s.vks with sched := { s.vks.sched with
                 nextId := if 65535 ≤ s.vks.sched.nextId then 1 else s.vks.sched.nextId + 1 } })))
  ∧ (∀ (v : Vks) (u : Utterance),
    let startsAtOnce := v.reader.mainVoice.state = .idle ∧ (v.reader.store = .usable ∨ v.reader.store = .unusable)
      ∧ ∀ y ∈ v.sched.queue, y.source = .say
    (startsAtOnce → (placeEngine u v).2 = false ∧ (placeEngine u v).1.sched = v.sched
      ∧ (placeEngine u v).1.reader.mainVoice.state ≠ .idle
      ∧ (placeEngine u v).1.reader.mainVoice.utterance = some { u with playItem := 1, playSamples := 0 }
      ∧ Untouched (placeEngine u v).1 v)
    ∧ (∀ before behind, v.sched.queue = before ++ behind → (∀ y ∈ behind, y.source = .say) →
        (∀ y, before.getLast? = some y → y.source ≠ .say) → ¬ startsAtOnce → v.sched.queue.length < 16 →
        placeEngine u v = ({ v with sched := { v.sched with queue := before ++ [u] ++ behind } }, false))
    ∧ (∀ before behind y, v.sched.queue = before ++ behind ++ [y] → (∀ x ∈ behind ++ [y], x.source = .say) →
        (∀ x, before.getLast? = some x → x.source ≠ .say) → ¬ startsAtOnce → 16 ≤ v.sched.queue.length →
        v.notices.queue.length < 16 →
        placeEngine u v = ({ v with
          sched := { v.sched with queue := before ++ [u] ++ behind }
          notices := { v.notices with queue := v.notices.queue ++ [.utteranceDone y.tag y.id 3 y.flags] } }, false))
    ∧ ((∀ y ∈ v.sched.queue, y.source ≠ .say) → 16 ≤ v.sched.queue.length → placeEngine u v = (v, true)))
  ∧ (∀ (v : Vks) (source : Source) (parts : List Part) (x : Expansion), 1 ≤ v.sched.nextId → v.sched.nextId ≤ 65535 →
    let items := expandAll v x parts
    let r := requestEngine source parts x v
    let next := if v.sched.nextId = 65535 then 1 else v.sched.nextId + 1
    (items = [] → r.2 = none ∧ r.1.sched = v.sched ∧ r.1.attempt.ctx = v.attempt.ctx ∧ r.1.reader = v.reader)
    ∧ (items ≠ [] → r.1.sched.nextId = next ∧ OutsideAttempt r.1 v)
    ∧ (items ≠ [] → (v.sched.queue.length < 16 ∨ ∃ y ∈ v.sched.queue, y.source = .say) →
        r.2 = some v.sched.nextId ∧ v.sched.nextId ∈ r.1.attempt.ctx.outstanding ∧ EngineQueued v r.1 source items)
    ∧ (items ≠ [] → 16 ≤ v.sched.queue.length → (∀ y ∈ v.sched.queue, y.source ≠ .say) →
        r.2 = none ∧ r.1.sched = { v.sched with nextId := next } ∧ r.1.reader = v.reader ∧ r.1.notices = v.notices
        ∧ v.sched.nextId ∉ r.1.attempt.ctx.outstanding))
  ∧ (∀ (v : Vks) (u : Utterance),
    let kept := v.attempt.ctx.outstanding.filter (fun y => v.sched.echoLine.map Utterance.id ≠ some y)
    let admits := v.reader.store = .usable ∨ v.reader.store = .unusable ∨ ∃ k : Tone, u.items = [.tone k]
    let floor := v.params.echoCutFloor * 16
    let t := placeEcho u v
    let waits := t = { v with
      sched := { v.sched with echoLine := some u }
      attempt := { v.attempt with ctx := { v.attempt.ctx with outstanding := kept } } }
    let starts := t.sched = { v.sched with echoLine := none } ∧ t.reader.echoVoice.state ≠ .idle
      ∧ t.reader.echoVoice.utterance = some { u with playItem := 1, playSamples := 0 } ∧ OutsideAttempt t v
    (v.reader.echoVoice.state = .idle →
      (admits → starts ∧ t.attempt = { v.attempt with ctx := { v.attempt.ctx with outstanding := kept } })
      ∧ (¬ admits → waits))
    ∧ (v.reader.echoVoice.state = .waitingAmp → waits)
    ∧ (∀ p, v.reader.echoVoice.utterance = some p → v.reader.echoVoice.state = .playing →
      (floor ≤ p.playSamples → admits → starts ∧ t.attempt = { v.attempt with ctx := { v.attempt.ctx with
          outstanding := kept.filter (fun y => y ≠ p.id) } })
      ∧ (p.playSamples < floor → waits) ∧ (¬ admits → waits)))
  ∧ (∀ (v : Vks) (item : Item), 1 ≤ v.sched.nextId → v.sched.nextId ≤ 65535 →
    EchoQueued v (requestEcho item v) item
    ∧ ((∀ y ∈ v.sched.echoLine.toList ++ v.reader.echoVoice.utterance.toList, y.id ≠ v.sched.nextId) →
        v.sched.nextId ∈ (requestEcho item v).attempt.ctx.outstanding)
    ∧ (requestEcho item v).sched.nextId = (if v.sched.nextId = 65535 then 1 else v.sched.nextId + 1)
    ∧ (requestEcho item v).sched.queue = v.sched.queue)
  ∧ (∀ (s : State) (p w : Utterance), s.vks.reader.echoVoice.utterance = some p → s.vks.sched.echoLine = some w →
    Awake s → s.vks.power.amp = .on → s.vks.reader.echoVoice.state = .playing → s.vks.reader.echoVoice.leadIn = false →
    (s.vks.reader.echoVoice.ring.head?).map RingSample.begins = some none →
    let admits := s.vks.reader.store = .usable ∨ s.vks.reader.store = .unusable ∨ ∃ k : Tone, w.items = [.tone k]
    let atFloor := p.playSamples + 1 = s.vks.params.echoCutFloor * 16
    let ends := s.vks.reader.echoVoice.ring.length = 1 ∧ s.vks.reader.echoVoice.readItem = 0
    ∃ t, exec .outputInstant s = .next t ∧ t.flash = s.flash ∧ t.pending = s.pending
      ∧ ((atFloor ∨ ends) → admits → t.vks.sched.echoLine = none
        ∧ t.vks.reader.echoVoice.utterance = some { w with playItem := 1, playSamples := 0 })
      ∧ (¬ ends → ¬ (atFloor ∧ admits) → t.vks.sched.echoLine = some w
        ∧ t.vks.reader.echoVoice.utterance = some { p with playSamples := p.playSamples + 1 }))

/-- R22, R35, R45, R52, R59, R103, R107, R112: SILENCE ALL empties both waiting places and both voices, raising the SAY ends
in the order of R103; an awaited prompt it cuts leads to LISTENING, a try response to the next try, and the closing response
to GAP with its timer or to IDLE. Scopes SAY and TAG remove the waiting SAY utterances they name; one they name on the main
voice is cut, with its UTTERANCE_DONE, and the free voice takes the head of what is left unless the store holds it. A bad
scope or length is BAD_ARGS. Whatever the outcome of an attempt's utterance, its end is disregarded where it is not
outstanding, and otherwise takes the step it was awaited for. -/
def Obligations.SilenceEndsWhatItsScopeNames : Prop :=
  (∀ (s : State) (tag x : Byte), Awake s →
    (s.vks.attempt.ctx.outstanding = [] →
      let ended := s.vks.reader.mainVoice.utterance.toList ++ s.vks.sched.queue
        ++ s.vks.reader.echoVoice.utterance.toList ++ s.vks.sched.echoLine.toList
      ∃ t, exec (.silence tag [0#8, x]) s = .next t ∧ t.flash = s.flash ∧ t.pending = s.pending
        ∧ t.vks.sched.queue = [] ∧ t.vks.sched.echoLine = none
        ∧ t.vks.reader.mainVoice = Voice.idle ∧ t.vks.reader.echoVoice = Voice.idle
        ∧ (s.vks.notices.queue.length + (ended.filter (fun u => u.source = .say)).length ≤ 16 →
            t.vks.notices.queue = s.vks.notices.queue
              ++ (ended.filter (fun u => u.source = .say)).map (fun u => .utteranceDone u.tag u.id 2 u.flags))
        ∧ Untouched t.vks (replying 0x39#8 tag .ok
            [BitVec.ofNat 8 (s.vks.sched.queue.length + s.vks.sched.echoLine.toList.length),
              BitVec.ofNat 8 (s.vks.reader.mainVoice.utterance.toList.length
                + s.vks.reader.echoVoice.utterance.toList.length), 0#8, 0#8] [] s.vks))
    ∧ (∀ u, s.vks.attempt.state = .prompting → s.vks.attempt.ctx.awaited = some (.prompt, u.id) →
      s.vks.attempt.ctx.outstanding = [u.id] → s.vks.reader.mainVoice.utterance = some u → u.source = .prompt →
      ∃ t, exec (.silence tag [0#8, x]) s = .next t ∧ t.vks.attempt.state = .listening
        ∧ t.vks.attempt.ctx = { s.vks.attempt.ctx with awaited := none, outstanding := [] } ∧ t.vks.sched.queue = [])
    ∧ (∀ u, s.vks.reader.mainVoice.state ≠ .idle → s.vks.reader.mainVoice.utterance = some u → u.source ≠ .say →
      (∃ t, exec (.silence tag [1#8, x]) s = .next t
        ∧ t.vks.sched.queue = s.vks.sched.queue.filter (fun y => y.source ≠ .say)
        ∧ t.vks.reader.mainVoice.utterance = some u
        ∧ Untouched t.vks (replying 0x39#8 tag .ok
            [BitVec.ofNat 8 (s.vks.sched.queue.filter (fun y => y.source = .say)).length, 0#8, 0#8, 0#8] [] s.vks))
      ∧ (∃ t, exec (.silence tag [2#8, x]) s = .next t
        ∧ t.vks.sched.queue = s.vks.sched.queue.filter (fun y => ¬ (y.source = .say ∧ y.tag = x))
        ∧ t.vks.reader.mainVoice.utterance = some u
        ∧ Untouched t.vks (replying 0x39#8 tag .ok
            [BitVec.ofNat 8 (s.vks.sched.queue.filter (fun y => y.source = .say ∧ y.tag = x)).length, 0#8, 0#8, 0#8] []
            s.vks)))
    ∧ (∀ u, s.vks.attempt.ctx.awaited = some (.tryResponse, u.id) → s.vks.attempt.ctx.outstanding = [u.id] →
      s.vks.reader.mainVoice.utterance = some u → u.source = .response →
      ∃ t, exec (.silence tag [0#8, x]) s = .next t ∧ t.vks.attempt.state = .listening ∧ t.vks.sched.queue = []
        ∧ t.vks.lesson = s.vks.lesson
        ∧ t.vks.attempt.ctx = { s.vks.attempt.ctx with
            buffer := [], tryNumber := s.vks.attempt.ctx.tryNumber + 1, hintStage := 0, hintPosition := 0
            awaited := none, outstanding := [] })
    ∧ (∀ u, s.vks.attempt.ctx.awaited = some (.closing, u.id) → u.id ∈ s.vks.attempt.ctx.outstanding →
      s.vks.reader.mainVoice.utterance = some u → u.source = .response →
      ∃ t, exec (.silence tag [0#8, x]) s = .next t ∧ LeavesClosing s.vks t.vks s.vks.lesson s.vks.attempt.ctx)
    ∧ (let chosenBy := fun (scope : Byte) (chosen : Utterance → Bool) => ∀ u,
         s.vks.reader.mainVoice.utterance = some u → chosen u = true →
         let rest := s.vks.sched.queue.filter (fun y => !chosen y)
         let ended := u :: s.vks.sched.queue.filter chosen
         ∃ t, exec (.silence tag [scope, x]) s = .next t ∧ t.flash = s.flash ∧ t.pending = s.pending
           ∧ ((rest = [] ∨ (s.vks.reader.store ≠ .usable ∧ s.vks.reader.store ≠ .unusable)) →
               t.vks.reader.mainVoice = Voice.idle ∧ t.vks.sched.queue = rest)
           ∧ (∀ h q, rest = h :: q → (s.vks.reader.store = .usable ∨ s.vks.reader.store = .unusable) →
               t.vks.reader.mainVoice.state ≠ .idle ∧ t.vks.sched.queue = q
               ∧ t.vks.reader.mainVoice.utterance = some { h with playItem := 1, playSamples := 0 })
           ∧ (s.vks.notices.queue.length + ended.length ≤ 16 → ∃ later, t.vks.notices.queue
               = s.vks.notices.queue ++ ended.map (fun y => .utteranceDone y.tag y.id 2 y.flags) ++ later)
           ∧ Untouched t.vks (replying 0x39#8 tag .ok
               [BitVec.ofNat 8 (s.vks.sched.queue.filter chosen).length, 1#8, 0#8, 0#8] [] s.vks)
       chosenBy 1#8 (fun y => y.source = .say) ∧ chosenBy 2#8 (fun y => y.source = .say ∧ y.tag = x))
    ∧ (∀ u, s.vks.reader.mainVoice.state ≠ .idle → s.vks.reader.mainVoice.utterance = some u → u.source = .say → u.tag ≠ x →
      ∃ t, exec (.silence tag [2#8, x]) s = .next t
        ∧ t.vks.sched.queue = s.vks.sched.queue.filter (fun y => ¬ (y.source = .say ∧ y.tag = x))
        ∧ t.vks.reader.mainVoice.utterance = some u
        ∧ Untouched t.vks (replying 0x39#8 tag .ok
            [BitVec.ofNat 8 (s.vks.sched.queue.filter (fun y => y.source = .say ∧ y.tag = x)).length, 0#8, 0#8, 0#8] []
            s.vks))
    ∧ (∀ scope : Byte, 2 < scope.toNat → exec (.silence tag [scope, x]) s
        = .next (withPart s (replying 0x39#8 tag .badArgs [7#8, 0#8, 0#8, 0#8] [] s.vks)))
    ∧ (∀ arg : List Byte, arg.length ≠ 2 → arg.length ≤ 58 → exec (.silence tag arg) s
        = .next (withPart s (replying 0x39#8 tag .badArgs [1#8, 0#8, 0#8, 0#8] [] s.vks))))
  ∧ (∀ (v : Vks) (u : Utterance) (o : UttOutcome), u.source ≠ .say →
    let left := v.attempt.ctx.outstanding.filter (fun y => y ≠ u.id)
    let moved := fun (st : AttemptState) (timer : Option Nat) (c : Context) =>
      { v with attempt := { v.attempt with state := st, inactivity := timer, ctx := c } }
    (u.id ∉ v.attempt.ctx.outstanding → reportEnd o v u = v)
    ∧ (u.id ∈ v.attempt.ctx.outstanding →
      ((∀ k, v.attempt.ctx.awaited ≠ some (k, u.id)) →
        reportEnd o v u = moved v.attempt.state v.attempt.inactivity { v.attempt.ctx with outstanding := left })
      ∧ (v.attempt.ctx.awaited = some (.prompt, u.id) → reportEnd o v u
        = moved .listening v.attempt.inactivity { v.attempt.ctx with awaited := none, outstanding := left })
      ∧ (v.attempt.ctx.awaited = some (.tryResponse, u.id) → reportEnd o v u
        = moved .listening v.attempt.inactivity { v.attempt.ctx with
            buffer := [], tryNumber := v.attempt.ctx.tryNumber + 1, hintStage := 0, hintPosition := 0, awaited := none
            outstanding := left })
      ∧ (v.attempt.ctx.awaited = some (.closing, u.id) → LeavesClosing v (reportEnd o v u) v.lesson v.attempt.ctx
        ∧ OutsideAttempt (reportEnd o v u) v)))

/-- R116: QUEUE GET returns both voices, the echo line, the holds and up to five waiting utterances from its start, and
changes nothing. A length other than 1 is BAD_ARGS cause 1, a start above 15 cause 14. -/
def Obligations.QueueGetReturnsVoicesAndQueue : Prop :=
  (∀ (s : State) (tag : Byte) (start : Nat), Awake s → start ≤ 15 →
    let found := (s.vks.sched.queue.drop start).take 5
    let voice := fun (w : Voice) => [BitVec.ofNat 8 w.state.code] ++ (match w.utterance with
      | some u => leBytes 2 u.id ++ [BitVec.ofNat 8 u.source.code, u.tag, BitVec.ofNat 8 u.playItem,
          BitVec.ofNat 8 u.items.length, BitVec.ofNat 8 ((if u.truncated then 1 else 0) + (if u.starved then 2 else 0)
            + (if u.faulted then 4 else 0))]
      | none => List.replicate 7 0#8)
    let held : Bool := s.vks.reader.store ≠ .usable ∧ s.vks.reader.store ≠ .unusable
    exec (.queueGet tag (leBytes 1 start)) s = .next (withPart s (replying 0x3A#8 tag .ok
      [BitVec.ofNat 8 s.vks.sched.queue.length, if s.vks.sched.echoLine.isSome then 1#8 else 0#8,
        BitVec.ofNat 8 found.length, 0#8]
      (voice s.vks.reader.mainVoice ++ voice s.vks.reader.echoVoice
        ++ [if s.vks.sched.echoLine.isSome then 1#8 else 0#8]
        ++ leBytes 2 (match s.vks.sched.echoLine with | some u => u.id | none => 0)
        ++ [BitVec.ofNat 8 ((if held then 1 else 0)
            + (match s.vks.sched.echoLine with
               | some u => (match u.items with | [.tone _] => 0 | _ => if held then 2 else 0)
               | none => 0))]
        ++ [BitVec.ofNat 8 s.vks.sched.queue.length, BitVec.ofNat 8 start, BitVec.ofNat 8 found.length]
        ++ found.flatMap (fun u => leBytes 2 u.id
            ++ [BitVec.ofNat 8 u.source.code, u.tag, BitVec.ofNat 8 u.items.length])) s.vks)))
  ∧ (∀ (s : State) (tag : Byte), Awake s →
    (∀ arg : List Byte, arg.length ≠ 1 → arg.length ≤ 58 → exec (.queueGet tag arg) s
      = .next (withPart s (replying 0x3A#8 tag .badArgs [1#8, 0#8, 0#8, 0#8] [] s.vks)))
    ∧ (∀ start : Nat, 15 < start → start < 256 → exec (.queueGet tag (leBytes 1 start)) s
      = .next (withPart s (replying 0x3A#8 tag .badArgs [14#8, 0#8, 0#8, 0#8] [] s.vks))))

/-! ### The store (06) -/

/-- R135, R136, R137: STORE CLAIM is granted at once in UNUSABLE and in USABLE with the engine IDLE, waits in CLAIM_PENDING
otherwise, and leaves CLAIM_PENDING and CLAIMED as they are; STORE RELEASE leaves CLAIMED for CHECKING with the engine in
HEADER, and is refused elsewhere. -/
def Obligations.StoreClaimAndReleaseByStoreState : Prop :=
  ∀ (s : State) (tag : Byte), Awake s →
    let r := s.vks.reader
    (((r.store = .usable ∧ r.engine = .idle) ∨ r.store = .unusable) → s.vks.attempt.ctx.outstanding = [] →
      ∃ t, exec (.storeClaim tag []) s = .next t ∧ t.flash = s.flash ∧ t.pending = s.pending
        ∧ t.vks.reader.mainVoice = Voice.idle ∧ (s.vks.sched.echoLine = none → t.vks.reader.echoVoice = Voice.idle)
        ∧ t.vks.sched.queue = s.vks.sched.queue
        ∧ Untouched t.vks (replying 0x40#8 tag .ok [4#8, BitVec.ofNat 8 r.headerOutcome.code, 0#8, 0#8] []
            { s.vks with reader := { r with store := .claimed } }))
    ∧ (((r.store = .usable ∧ r.engine ≠ .idle) ∨ r.store = .checking) →
      ∃ t, exec (.storeClaim tag []) s = .next t ∧ t.flash = s.flash ∧ t.pending = s.pending
        ∧ Untouched t.vks (replying 0x40#8 tag .accepted [3#8, BitVec.ofNat 8 r.headerOutcome.code, 0#8, 0#8] []
            { s.vks with reader := { r with store := .claimPending, claimFrom := r.store } }))
    ∧ (r.store = .claimPending → ∃ t, exec (.storeClaim tag []) s = .next t
        ∧ Untouched t.vks (replying 0x40#8 tag .accepted [3#8, BitVec.ofNat 8 r.headerOutcome.code, 0#8, 0#8] [] s.vks))
    ∧ (r.store = .claimed → ∃ t, exec (.storeClaim tag []) s = .next t
        ∧ Untouched t.vks (replying 0x40#8 tag .ok [4#8, BitVec.ofNat 8 r.headerOutcome.code, 0#8, 0#8] [] s.vks))
    ∧ (r.store = .claimed → (∀ op, r.engine ≠ .link op) →
      ∃ t, exec (.storeRelease tag []) s = .next t ∧ t.flash = s.flash ∧ t.pending = s.pending
        ∧ t.vks.reader.engine = .header
        ∧ Untouched t.vks (replying 0x41#8 tag .ok [0#8, 0#8, 0#8, 0#8] []
            { s.vks with reader := { r with store := .checking } }))
    ∧ (r.store = .claimed → (∃ op, r.engine = .link op) →
      exec (.storeRelease tag []) s = .next (withPart s (replying 0x41#8 tag .busy [4#8, 0#8, 0#8, 0#8] [] s.vks)))
    ∧ (r.store = .claimPending →
      exec (.storeRelease tag []) s = .next (withPart s (replying 0x41#8 tag .busy [3#8, 0#8, 0#8, 0#8] [] s.vks)))
    ∧ ((r.store = .checking ∨ r.store = .usable ∨ r.store = .unusable) →
      exec (.storeRelease tag []) s
        = .next (withPart s (replying 0x41#8 tag .notClaimed [BitVec.ofNat 8 r.store.code, 0#8, 0#8, 0#8] [] s.vks)))

/-- R138, R139, R140, R141: a STORE WRITE, ERASE or READ whose argument passes is NOT_CLAIMED outside CLAIMED, BUSY while a
link operation is in flight, and otherwise ACCEPTED with the engine in LINK; a taken read empties the holding area. An argument
that does not pass is BAD_ARGS with the first cause that holds. The order of the causes (log 10) and the zero data of ACCEPTED,
NOT_CLAIMED and BUSY (log 23) are the model's choices. -/
def Obligations.LinkOperationsNeedAClaim : Prop :=
  ∀ (s : State) (tag : Byte), Awake s →
    let taken := fun (code : Byte) (c : Instr) (op : LinkOp) (held : Option Holding) =>
      (s.vks.reader.store ≠ .claimed →
        exec c s = .next (withPart s (replying code tag .notClaimed [0#8, 0#8, 0#8, 0#8] [] s.vks)))
      ∧ (s.vks.reader.store = .claimed → (∃ o, s.vks.reader.engine = .link o) →
        exec c s = .next (withPart s (replying code tag .busy [0#8, 0#8, 0#8, 0#8] [] s.vks)))
      ∧ (s.vks.reader.store = .claimed → (∀ o, s.vks.reader.engine ≠ .link o) →
        ∃ t, exec c s = .next t ∧ t.flash = s.flash ∧ t.pending = s.pending ∧ t.vks.reader.engine = .link op
          ∧ Untouched t.vks (replying code tag .accepted [0#8, 0#8, 0#8, 0#8] []
              { s.vks with reader := { s.vks.reader with holding := held } }))
    let refused := fun (code : Byte) (c : Instr) (cause : Byte) =>
      exec c s = .next (withPart s (replying code tag .badArgs [cause, 0#8, 0#8, 0#8] [] s.vks))
    (∀ (a : Nat) (d : List Byte), a < 0x1000000 → d.length ≤ 54 →
      let c := Instr.storeWrite tag (leBytes 3 a ++ leBytes 1 d.length ++ d)
      (1 ≤ d.length → d.length ≤ 32 → a ≤ 0xFEFFFF → a % 256 + d.length ≤ 256 →
        taken 0x42#8 c (.write a d) s.vks.reader.holding)
      ∧ ((d = [] ∨ 32 < d.length) → refused 0x42#8 c 11#8)
      ∧ (1 ≤ d.length → d.length ≤ 32 → 0xFEFFFF < a → refused 0x42#8 c 14#8)
      ∧ (1 ≤ d.length → d.length ≤ 32 → a ≤ 0xFEFFFF → 256 < a % 256 + d.length → refused 0x42#8 c 15#8))
    ∧ (∀ a : Nat, a < 0x1000000 →
      let c := Instr.storeErase tag (leBytes 3 a)
      (a ≤ 0xFEFFFF → a % 4096 = 0 → taken 0x43#8 c (.erase a) s.vks.reader.holding)
      ∧ (0xFEFFFF < a → refused 0x43#8 c 14#8)
      ∧ (a ≤ 0xFEFFFF → a % 4096 ≠ 0 → refused 0x43#8 c 15#8))
    ∧ (∀ a n : Nat, a < 0x1000000 → n < 256 →
      let c := Instr.storeRead tag (leBytes 3 a ++ leBytes 1 n)
      (1 ≤ n → n ≤ 48 → a + n ≤ 0xFF0000 → taken 0x44#8 c (.read a n) none)
      ∧ ((n = 0 ∨ 48 < n) → refused 0x44#8 c 11#8)
      ∧ (1 ≤ n → n ≤ 48 → 0xFF0000 < a + n → refused 0x44#8 c 14#8))

/-- R133, R141: STORE FETCH returns the holding area and keeps it, and is BUSY while a STORE READ is in flight; FAULT GET
returns the fault record in 14 bytes, empties it with the accumulated set, and keeps the last result. The zero data of STORE
FETCH's BUSY is the model's choice (log 23). -/
def Obligations.FetchAndFaultGetReturnWhatIsHeld : Prop :=
  ∀ (s : State) (tag : Byte), Awake s →
    ((∃ a n, s.vks.reader.engine = .link (.read a n)) →
      exec (.storeFetch tag []) s = .next (withPart s (replying 0x45#8 tag .busy [0#8, 0#8, 0#8, 0#8] [] s.vks)))
    ∧ ((∀ a n, s.vks.reader.engine ≠ .link (.read a n)) →
      (∀ h, s.vks.reader.holding = some h → exec (.storeFetch tag []) s = .next (withPart s
        (replying 0x45#8 tag .ok (leBytes 3 h.address ++ [BitVec.ofNat 8 h.bytes.length]) h.bytes s.vks)))
      ∧ (s.vks.reader.holding = none → exec (.storeFetch tag []) s = .next (withPart s
        (replying 0x45#8 tag .ok [0#8, 0#8, 0#8, 0#8] [] s.vks))))
    ∧ (let r := s.vks.reader
       let full : Byte := if r.fault.full then 1#8 else 0#8
       let set : Byte := BitVec.ofNat 8 ((if r.accRetry then 1 else 0) + (if r.accFail then 2 else 0))
       exec (.faultGet tag []) s = .next (withPart s (replying 0x46#8 tag .ok
        [full, BitVec.ofNat 8 r.fault.more, set, BitVec.ofNat 8 r.store.code]
        ([full] ++ leBytes 2 r.fault.segment ++ [BitVec.ofNat 8 r.fault.block] ++ leBytes 3 r.fault.address
          ++ [BitVec.ofNat 8 r.fault.more, BitVec.ofNat 8 r.lastResult.code, set, BitVec.ofNat 8 r.store.code,
            BitVec.ofNat 8 r.headerOutcome.code] ++ leBytes 2 r.segmentCount)
        { s.vks with reader := { r with fault := ⟨false, 0, 0, 0, 0⟩, accRetry := false, accFail := false } })))

/-- R138, R139, R140, R141: the end of a link operation on a flash that answers and reads back true. A write clears bits and
never sets one, an erase makes its 4096 bytes 0xFF, a read fills the holding area; every other byte of the flash stays. The
engine is IDLE and STORE_DONE carries the outcome and the passes. A flash that does not answer fails with 0 passes.
Bytes outside the flash stop the model (log 17). -/
def Obligations.LinkOperationEnds : Prop :=
  (∀ (s : State), s.vks.reader.store = .claimed → s.flash.wf = true → s.vks.notices.queue.length < 16 →
    (∀ (a : Nat) (d : List Byte), s.vks.reader.engine = .link (.write a d) → a + d.length ≤ 0xFF0000 →
      (∃ t, exec (.storeWriteEnd true [] []) s = .next t ∧ t.pending = s.pending ∧ t.vks.reader.engine = .idle
        ∧ (∀ x, t.flash.read x = if a ≤ x ∧ x < a + d.length then s.flash.read x &&& d.getD (x - a) 0#8 else s.flash.read x)
        ∧ (∃ later, t.vks.notices.queue = s.vks.notices.queue ++
            (if ∀ i, i < d.length → s.flash.read (a + i) &&& d.getD i 0#8 = d.getD i 0#8 then .storeDone 1 0 a 1
             else .storeDone 1 1 a 2) :: later)
        ∧ Untouched t.vks s.vks)
      ∧ (∃ t, exec (.storeWriteEnd false [] []) s = .next t ∧ t.flash = s.flash ∧ t.vks.reader.engine = .idle
        ∧ (∃ later, t.vks.notices.queue = s.vks.notices.queue ++ .storeDone 1 1 a 0 :: later) ∧ Untouched t.vks s.vks))
    ∧ (∀ a : Nat, s.vks.reader.engine = .link (.erase a) → a + 4096 ≤ 0xFF0000 →
      (∃ t, exec (.storeEraseEnd true [] []) s = .next t ∧ t.pending = s.pending ∧ t.vks.reader.engine = .idle
        ∧ (∀ x, t.flash.read x = if a ≤ x ∧ x < a + 4096 then 0xFF#8 else s.flash.read x)
        ∧ (∃ later, t.vks.notices.queue = s.vks.notices.queue ++ .storeDone 2 0 a 1 :: later) ∧ Untouched t.vks s.vks)
      ∧ (∃ t, exec (.storeEraseEnd false [] []) s = .next t ∧ t.flash = s.flash ∧ t.vks.reader.engine = .idle
        ∧ (∃ later, t.vks.notices.queue = s.vks.notices.queue ++ .storeDone 2 1 a 0 :: later) ∧ Untouched t.vks s.vks))
    ∧ (∀ a n : Nat, s.vks.reader.engine = .link (.read a n) → a + n ≤ 0xFF0000 →
      (∃ t, exec (.storeReadEnd true []) s = .next t ∧ t.flash = s.flash ∧ t.pending = s.pending
        ∧ t.vks.reader.engine = .idle
        ∧ (∃ later, t.vks.notices.queue = s.vks.notices.queue ++ .storeDone 3 0 a 1 :: later)
        ∧ Untouched t.vks { s.vks with reader := { s.vks.reader with
            holding := some ⟨a, (List.range n).map (fun i => s.flash.read (a + i))⟩ } })
      ∧ (∃ t, exec (.storeReadEnd false []) s = .next t ∧ t.flash = s.flash ∧ t.vks.reader.engine = .idle
        ∧ (∃ later, t.vks.notices.queue = s.vks.notices.queue ++ .storeDone 3 1 a 0 :: later)
        ∧ Untouched t.vks { s.vks with reader := { s.vks.reader with holding := none } })))
  ∧ (∀ (s : State) (present : Bool) (bad1 bad2 : Misread) (a n : Nat) (d : List Byte),
      (s.vks.reader.engine = .link (.write a d) → 0xFF0000 < a + d.length →
        exec (.storeWriteEnd present bad1 bad2) s = .fault (.noSuchFlashAddress a))
      ∧ (s.vks.reader.engine = .link (.erase a) → 0xFF0000 < a + 4096 →
        exec (.storeEraseEnd present bad1 bad2) s = .fault (.noSuchFlashAddress a))
      ∧ (s.vks.reader.engine = .link (.read a n) → 0xFF0000 < a + n →
        exec (.storeReadEnd present bad1) s = .fault (.noSuchFlashAddress a)))

/-- R118, R121, R122, R136, R142: the end of a header check whose readings were true. The first step that decides gives the
outcome; GOOD makes the store USABLE with the header's count and size in force, every other outcome UNUSABLE with both 0; a
pending claim is granted instead, with both 0 and STORE_GRANTED. A write or erase that a reset cut off has by then changed at
most the bytes it names, each as the operation would: which of them is free (log 15); that every end of the check ends that
operation, an ABSENT one too, is the model's choice (log 16). Bytes outside the flash stop the model
(log 17). -/
def Obligations.HeaderCheckDecidesTheStore : Prop :=
  (∀ (s : State), s.vks.reader.engine = .header → s.vks.reader.interrupted = none →
    let h := fun i => (s.flash.read i).toNat
    let sum := (List.range 14).foldl (fun n i => n + h i) 0 % 65536
    let count := h 2 + 256 * h 3
    let ends := fun (present : Bool) (outcome : HeaderOutcome) (good : Bool) =>
      ∃ t, exec (.headerCheckEnd present [] []) s = .next t ∧ t.flash = s.flash ∧ t.pending = s.pending
        ∧ t.vks.reader.headerOutcome = outcome
        ∧ (s.vks.reader.store = .checking →
            Untouched t.vks { s.vks with reader := { s.vks.reader with
              headerOutcome := outcome, store := if good then .usable else .unusable
              segmentCount := if good then count else 0, storeSize := if good then h 4 else 0 } })
        ∧ (s.vks.reader.store = .claimPending → s.vks.attempt.ctx.outstanding = [] →
            t.vks.reader.mainVoice = Voice.idle
            ∧ Untouched t.vks { s.vks with reader := { s.vks.reader with
                headerOutcome := outcome, store := .claimed, segmentCount := 0, storeSize := 0 } }
            ∧ (s.vks.notices.queue.length + 2 < 16 →
                .storeGranted (if s.vks.reader.claimFrom = .usable then 1 else 0) ∈ t.vks.notices.queue))
    ends false .absent false
    ∧ (sum ≠ h 14 + 256 * h 15 → ends true .badCheck false)
    ∧ (sum = h 14 + 256 * h 15 → h 0 + 256 * h 1 ≠ 0x5653 → ends true .badMark false)
    ∧ (sum = h 14 + 256 * h 15 → h 0 + 256 * h 1 = 0x5653 → (count < 1 ∨ 2048 < count) → ends true .badCount false)
    ∧ (sum = h 14 + 256 * h 15 → h 0 + 256 * h 1 = 0x5653 → 1 ≤ count → count ≤ 2048 → h 4 = 0 → ends true .badSize false)
    ∧ (sum = h 14 + 256 * h 15 → h 0 + 256 * h 1 = 0x5653 → 1 ≤ count → count ≤ 2048 → h 4 ≠ 0 → ends true .good true))
  ∧ (∀ (s : State) (present : Bool) (bad1 bad2 : Misread) (a : Nat) (d : List Byte), s.vks.reader.engine = .header →
      s.vks.reader.interrupted = some (.write a d) → s.flash.wf = true →
      (a + d.length ≤ 0xFF0000 → ∃ t, exec (.headerCheckEnd present bad1 bad2) s = .next t
        ∧ t.vks.reader.interrupted = none
        ∧ ∀ x, t.flash.read x = s.flash.read x
            ∨ (a ≤ x ∧ x < a + d.length ∧ t.flash.read x = s.flash.read x &&& d.getD (x - a) 0#8))
      ∧ (0xFF0000 < a + d.length →
          exec (.headerCheckEnd present bad1 bad2) s = .fault (.noSuchFlashAddress a)))
  ∧ (∀ (s : State) (present : Bool) (bad1 bad2 : Misread) (a : Nat), s.vks.reader.engine = .header →
      s.vks.reader.interrupted = some (.erase a) → s.flash.wf = true →
      (a + 4096 ≤ 0xFF0000 → ∃ t, exec (.headerCheckEnd present bad1 bad2) s = .next t
        ∧ t.vks.reader.interrupted = none
        ∧ ∀ x, t.flash.read x = s.flash.read x ∨ (a ≤ x ∧ x < a + 4096 ∧ t.flash.read x = 0xFF#8))
      ∧ (0xFF0000 < a + 4096 →
          exec (.headerCheckEnd present bad1 bad2) s = .fault (.noSuchFlashAddress a)))

/-- R118, R123, R127, R128, R129, R130: the end of a directory read for a voice that still waits for it, read true. A
readable entry goes into the voice with its level clamped, next block 0 and its sample count left; an unreadable one raises
BAD_SEGMENT with the first cause that holds and is replaced in the ring by as much of a CLICK at level 128 as fits. The
arbiter then looks afresh and serves the voice it chooses. An entry outside the flash stops the model (log 17). -/
def Obligations.DirectoryReadEndTakesTheEntry : Prop :=
  (∀ (s : State) (i : VoiceId) (segment : Nat), s.vks.reader.engine = .entryRead i segment true →
    s.vks.reader.store = .usable → (s.vks.voice i).state = .playing → 16 + 8 * segment + 8 ≤ 0xFF0000 →
    let d := fun k => (s.flash.read (16 + 8 * segment + k)).toNat
    let start := d 0 + 256 * d 1 + 65536 * d 2
    let count := d 3 + 256 * d 4
    let cause := if count = 0 then 3
      else if s.vks.reader.storeSize * 65536 < start + (count + 255) / 256 * 258 then 4
      else if 1 < d 5 then 5
      else if d 5 = 1 ∧ (3072 - s.vks.mixer.sizeInForce) / 2 < 512 then 6 else 0
    ∃ t, exec (.directoryReadEnd []) s = .next t ∧ t.flash = s.flash ∧ t.pending = s.pending ∧ Untouched t.vks s.vks
      ∧ (t.vks.voice i).state = .playing ∧ (t.vks.voice i).utterance = (s.vks.voice i).utterance
      ∧ ArbiterServes t.vks ∧ (cause = 0 → (t.vks.voice i).phase = .blocks)
      ∧ (cause = 0 → (t.vks.voice i).dir = some ⟨start, count, d 5, min 128 (d 6)⟩
          ∧ (t.vks.voice i).nextBlock = 0 ∧ (t.vks.voice i).samplesLeft = count
          ∧ (t.vks.voice i).ring = (s.vks.voice i).ring)
      ∧ (cause ≠ 0 → s.vks.notices.queue.length < 16 →
          ∃ later, t.vks.notices.queue = s.vks.notices.queue ++ .badSegment segment cause :: later)
      ∧ (cause ≠ 0 → (s.vks.voice i).readItem ≠ 0 →
          let room := (3072 - s.vks.mixer.sizeInForce) / 2 - (s.vks.voice i).ring.length
          (∃ more, (t.vks.voice i).ring.map RingSample.value = (s.vks.voice i).ring.map RingSample.value
            ++ (List.range (min room 80)).map (fun k => if k % 16 < 8 then 16384 else -16384) ++ more)
          ∧ (0 < room → ((t.vks.voice i).ring.drop (s.vks.voice i).ring.length).head?
              = some ⟨16384, some (s.vks.voice i).readItem, some 128⟩)))
  ∧ (∀ (s : State) (i : VoiceId) (segment : Nat) (live : Bool) (bad : Misread),
      s.vks.reader.engine = .entryRead i segment live → 0xFF0000 < 16 + 8 * segment + 8 →
      exec (.directoryReadEnd bad) s = .fault (.noSuchFlashAddress (16 + 8 * segment)))
  ∧ (∀ (s : State) (i : VoiceId) (segment : Nat) (live : Bool) (bad : Misread),
      s.vks.reader.engine = .entryRead i segment live → 16 + 8 * segment + 8 ≤ 0xFF0000 →
      ∃ t, exec (.directoryReadEnd bad) s = .next t ∧ ArbiterServes t.vks)

/-- R119, R125, R128, R129, R130, R131, R132, R152: the end of a block read for a voice that still waits for it. A block
whose check passes at the first or the second reading gives its samples, doubled at 8 kHz, which join the tail of the ring;
one whose check fails twice gives as much silence, marks the utterance FAULTED and fills an empty fault record with
READ_FAULT. The first of the samples carries the item it begins and the level it hands: the directory level at the segment's
start and after a silence, 128 with a silence. That a bad block 0 begins the item and hands 128, and that a bad block after
a bad block hands 128 again and not the directory level, is the model's inference (log 31). Next block and samples left
move, and after the last block the reading goes on to the next item or is done. The arbiter then looks afresh and serves the
voice it chooses. A block outside the flash stops the model (log 17). -/
def Obligations.BlockReadEndFeedsTheRing : Prop :=
  (∀ (s : State) (i : VoiceId) (segment block a take rate : Nat) (bad1 bad2 : Misread) (d : DirEntry) (u : Utterance),
    s.vks.reader.engine = .blockRead i segment block a take rate true → s.vks.reader.store = .usable →
    (s.vks.voice i).state = .playing → (s.vks.voice i).dir = some d → (s.vks.voice i).utterance = some u →
    take ≤ 256 → a + 258 ≤ 0xFF0000 →
    let b1 := misread (s.flash.readBytes a 258) bad1
    let b2 := misread (s.flash.readBytes a 258) bad2
    let passes := fun b => byteSum (b.take 256) = fieldAt b 256 2
    let played := fun (l : List Int) => if rate = 1 then l.flatMap (fun y => [y, y]) else l
    let w := s.vks.voice i
    let fresh := fun b => played ((if passes b then b.take take else List.replicate take 0#8).map (fun y => y.toInt * 256))
    let given := if passes b1 then fresh b1 else fresh b2
    let begins := if w.nextBlock = 0 then some w.readItem else none
    let level := if ¬ passes b1 ∧ ¬ passes b2 then some 128 else if w.nextBlock = 0 ∨ w.rehand = true then some d.level else none
    ∃ t, exec (.blockReadEnd bad1 bad2) s = .next t ∧ t.flash = s.flash ∧ t.pending = s.pending
      ∧ ArbiterServes t.vks
      ∧ (∃ more, (t.vks.voice i).ring = w.ring ++ given.mapIdx (fun k y =>
          ⟨y, if k = 0 then begins else none, if k = 0 then level else none⟩) ++ more)
      ∧ (given ≠ [] → (t.vks.voice i).leadIn = false)
      ∧ (w.phase = .blocks → take < w.samplesLeft → (t.vks.voice i).readItem = w.readItem ∧ (t.vks.voice i).dir = some d
          ∧ (t.vks.voice i).phase = .blocks ∧ (t.vks.voice i).nextBlock = w.nextBlock + 1
          ∧ (t.vks.voice i).samplesLeft = w.samplesLeft - take
          ∧ ((t.vks.voice i).rehand = true ↔ ¬ passes b1 ∧ ¬ passes b2))
      ∧ (w.samplesLeft ≤ take → 1 ≤ w.readItem →
          (w.readItem = u.items.length → (t.vks.voice i).readItem = 0)
          ∧ (∀ n, u.items[w.readItem]? = some (.seg n) → n < s.vks.reader.segmentCount →
              (t.vks.voice i).readItem = w.readItem + 1 ∧ (t.vks.voice i).phase = .needEntry))
      ∧ (passes b1 →
          (∃ more, (t.vks.voice i).ring.map RingSample.value = (s.vks.voice i).ring.map RingSample.value
            ++ played ((b1.take take).map (fun y => y.toInt * 256)) ++ more)
          ∧ (t.vks.voice i).utterance = some u
          ∧ Untouched t.vks { s.vks with reader := { s.vks.reader with lastResult := .ok } })
      ∧ (¬ passes b1 → passes b2 →
          (∃ more, (t.vks.voice i).ring.map RingSample.value = (s.vks.voice i).ring.map RingSample.value
            ++ played ((b2.take take).map (fun y => y.toInt * 256)) ++ more)
          ∧ (t.vks.voice i).utterance = some u
          ∧ Untouched t.vks { s.vks with reader := { s.vks.reader with lastResult := .retryOk, accRetry := true } })
      ∧ (¬ passes b1 → ¬ passes b2 →
          (∃ more, (t.vks.voice i).ring.map RingSample.value = (s.vks.voice i).ring.map RingSample.value
            ++ played (List.replicate take 0) ++ more)
          ∧ (t.vks.voice i).utterance = some { u with faulted := true }
          ∧ (s.vks.reader.fault.full = false → Untouched t.vks { s.vks with reader := { s.vks.reader with
                lastResult := .fail, accFail := true, fault := ⟨true, segment, block, a, s.vks.reader.fault.more⟩ } }
              ∧ (s.vks.notices.queue.length < 16 →
                  ∃ later, t.vks.notices.queue = s.vks.notices.queue ++ .readFault segment block a :: later))
          ∧ (s.vks.reader.fault.full = true → s.vks.reader.fault.more ≤ 255 → Untouched t.vks { s.vks with
                reader := { s.vks.reader with
                  lastResult := .fail, accFail := true
                  fault := { s.vks.reader.fault with more := min 255 (s.vks.reader.fault.more + 1) } } })))
  ∧ (∀ (s : State) (i : VoiceId) (segment block a take rate : Nat) (live : Bool) (bad1 bad2 : Misread),
      s.vks.reader.engine = .blockRead i segment block a take rate live → 0xFF0000 < a + 258 →
      exec (.blockReadEnd bad1 bad2) s = .fault (.noSuchFlashAddress a))
  ∧ (∀ (s : State) (i : VoiceId) (segment block a take rate : Nat) (live : Bool) (bad1 bad2 : Misread),
      s.vks.reader.engine = .blockRead i segment block a take rate live → a + 258 ≤ 0xFF0000 →
      ∃ t, exec (.blockReadEnd bad1 bad2) s = .next t ∧ ArbiterServes t.vks)

/-! ### Keys (04) -/

/-- R75, R76, R77, R78, R79, R80, R85, R86, R88, R89: one scan of an ACTIVE part. Every position is debounced; a lone press
passed to the host enters the held-key table and is reported with its entry and its time; a lone press that completes a
rectangle becomes SUSPECT and starts a ghost episode with one GHOST report; the release of a reported key is reported from
its record. In SPELL with an attempt not IDLE the press of a key of an engine class is handled by the Attempt Controller in
that event; its disposition is stored and reported. A press at a full table is UNTRACKED, one in an episode BLOCKED or
SUSPECT, one of class NONE unreported; a release of such a key is silent, and the release of the last SUSPECT ends the
episode. At 16 reports a report is lost and KEY_LOST latched. Releases come before presses and positions ascend: a freed
record serves a press of the same scan, and a press taken earlier counts for the ghost check. That a scan moves the time
counter by 1, which every report then carries, is the model's inference (log 1). So is the disposition NONE in the record of
a class NONE press the model's choice (log 38). -/
def Obligations.KeyScanDebouncesAndReports : Prop :=
  (∀ (s : State) (raw : Matrix), Awake s → TablesSized s.vks →
     let now := s.vks.keys.time + 1#16
     let only := fun p => p < 80 ∧ s.vks.params.debounce ≤ (s.vks.keyAt p).count + 1 ∧
       (∀ q, q < 80 → q ≠ p → raw.getLsbD q = (s.vks.keyAt q).standing.isSome)
     let down := fun q => (s.vks.keyAt q).standing ≠ none ∧ (s.vks.keyAt q).standing ≠ some .suspect
     let corner := fun p => ∃ r c, r < 8 ∧ c < 10 ∧ r ≠ p / 10 ∧ c ≠ p % 10
       ∧ down (p / 10 * 10 + c) ∧ down (r * 10 + p % 10) ∧ down (r * 10 + c)
     ∃ t, exec (.keyScan raw) s = .next t ∧ t.flash = s.flash ∧ t.pending = s.pending
       ∧ t.vks.keys.time = now ∧ t.vks.keys.keymap = s.vks.keys.keymap
       ∧ t.vks.words = s.vks.words ∧ t.vks.params = s.vks.params ∧ t.vks.mixer.samples = s.vks.mixer.samples
       ∧ (∀ p, p < 80 →
           (raw.getLsbD p = (s.vks.keyAt p).standing.isSome → t.vks.keyAt p = { s.vks.keyAt p with count := 0 })
           ∧ (raw.getLsbD p ≠ (s.vks.keyAt p).standing.isSome →
               ((s.vks.keyAt p).count + 1 < s.vks.params.debounce →
                 t.vks.keyAt p = { s.vks.keyAt p with count := (s.vks.keyAt p).count + 1 })
               ∧ (s.vks.params.debounce ≤ (s.vks.keyAt p).count + 1 →
                 (t.vks.keyAt p).count = 0 ∧ (t.vks.keyAt p).standing.isSome = raw.getLsbD p)))
       ∧ (∀ p, only p → raw.getLsbD p = true → (s.vks.keyAt p).standing = none → s.vks.keys.ghostBlock = false →
           s.vks.keys.reports.length < 16 →
           (¬ corner p → s.vks.keys.held.length < 4 → (∀ h ∈ s.vks.keys.held, h.position ≠ p) →
             (s.vks.keymapAt p).cls ≠ .none →
             ((s.vks.keymapAt p).cls = .pass ∨ s.vks.params.routeSpell = false ∨ s.vks.attempt.state = .idle) →
             (t.vks.keyAt p).standing = some .tracked
             ∧ t.vks.keys.held = s.vks.keys.held ++ [⟨p, s.vks.keymapAt p, now, .passed, true⟩]
             ∧ t.vks.keys.reports = s.vks.keys.reports ++ [⟨.press, p, s.vks.keymapAt p, .passed, now⟩])
           ∧ (corner p → (t.vks.keyAt p).standing = some .suspect ∧ t.vks.keys.ghostBlock = true
             ∧ t.vks.keys.held = s.vks.keys.held
             ∧ t.vks.keys.reports = s.vks.keys.reports ++ [⟨.ghost, p, s.vks.keymapAt p, .none, now⟩]))
       ∧ (∀ p h, only p → raw.getLsbD p = false → (s.vks.keyAt p).standing = some .tracked →
           s.vks.keys.held.find? (fun k => k.position = p) = some h → h.reported = true → s.vks.keys.reports.length < 16 →
           t.vks.keys.held = s.vks.keys.held.filter (fun k => k.position ≠ p)
           ∧ t.vks.keys.reports = s.vks.keys.reports ++ [⟨.release, p, h.entry, h.disposition, now⟩]))
  ∧ (∀ (s : State) (raw : Matrix), Awake s → TablesSized s.vks →
      let now := s.vks.keys.time + 1#16
      let entry := fun p => s.vks.keymapAt p
      let standing := fun p => (s.vks.keyAt p).standing
      let due := fun p => s.vks.params.debounce ≤ (s.vks.keyAt p).count + 1
      let only := fun p => p < 80 ∧ due p ∧ (∀ q, q < 80 → q ≠ p → raw.getLsbD q = (standing q).isSome)
      let both := fun p q => p < 80 ∧ q < 80 ∧ due p ∧ due q
        ∧ (∀ x, x < 80 → x ≠ p → x ≠ q → raw.getLsbD x = (standing x).isSome)
      let down := fun q => standing q ≠ none ∧ standing q ≠ some .suspect
      let corner := fun (held : Nat → Prop) (p : Nat) => ∃ r c, r < 8 ∧ c < 10 ∧ r ≠ p / 10 ∧ c ≠ p % 10
        ∧ held (p / 10 * 10 + c) ∧ held (r * 10 + p % 10) ∧ held (r * 10 + c)
      let passed := fun p => (entry p).cls ≠ .none
        ∧ ((entry p).cls = .pass ∨ s.vks.params.routeSpell = false ∨ s.vks.attempt.state = .idle)
      let held := s.vks.keys.held
      let reports := s.vks.keys.reports
      ∃ t, exec (.keyScan raw) s = .next t ∧ t.flash = s.flash ∧ t.pending = s.pending
        ∧ (let silent := t.vks.keys.held = held ∧ t.vks.keys.reports = reports ∧ t.vks.attempt.ctx = s.vks.attempt.ctx
             ∧ t.vks.attempt.state = s.vks.attempt.state ∧ t.vks.sched.nextId = s.vks.sched.nextId
             ∧ t.vks.port.latches.keyLost = s.vks.port.latches.keyLost
           (∀ p, only p → raw.getLsbD p = true → standing p = none →
             (s.vks.keys.ghostBlock = false → ¬ corner down p →
               (4 ≤ held.length → (t.vks.keyAt p).standing = some .untracked ∧ silent ∧ t.vks.keys.ghostBlock = false)
               ∧ (held.length < 4 → (∀ h ∈ held, h.position ≠ p) →
                 (t.vks.keyAt p).standing = some .tracked
                 ∧ ((entry p).cls = .none → t.vks.keys.held = held ++ [⟨p, entry p, now, .none, false⟩]
                   ∧ t.vks.keys.reports = reports ∧ t.vks.attempt.ctx = s.vks.attempt.ctx)
                 ∧ (passed p → 16 ≤ reports.length → t.vks.keys.held = held ++ [⟨p, entry p, now, .passed, true⟩]
                   ∧ t.vks.keys.reports = reports ∧ t.vks.port.latches.keyLost = true
                   ∧ t.vks.attempt.ctx = s.vks.attempt.ctx)
                 ∧ ((entry p).cls ≠ .none → (entry p).cls ≠ .pass → s.vks.params.routeSpell = true →
                   s.vks.attempt.state ≠ .idle → reports.length < 16 →
                   ∃ found : Vks, (found.words = s.vks.words ∧ found.attempt.state = s.vks.attempt.state
                       ∧ found.attempt.ctx = s.vks.attempt.ctx ∧ found.attempt.shelf = s.vks.attempt.shelf
                       ∧ found.lesson.entries = s.vks.lesson.entries ∧ found.lesson.auto = s.vks.lesson.auto
                       ∧ found.lesson.records = s.vks.lesson.records ∧ found.lesson.review = s.vks.lesson.review
                       ∧ found.sched = s.vks.sched ∧ found.reader = s.vks.reader ∧ found.mixer = s.vks.mixer
                       ∧ found.params = s.vks.params ∧ found.port = s.vks.port
                       ∧ found.notices.queue = s.vks.notices.queue ∧ found.power.amp = s.vks.power.amp)
                     ∧ t.vks.keys.held = held ++ [⟨p, entry p, now, (handlePress (entry p).cls (entry p).letter found).2, true⟩]
                     ∧ t.vks.keys.reports = reports
                       ++ [⟨.press, p, entry p, (handlePress (entry p).cls (entry p).letter found).2, now⟩]
                     ∧ Untouched t.vks { (handlePress (entry p).cls (entry p).letter found).1 with keys := t.vks.keys })))
             ∧ (s.vks.keys.ghostBlock = true → t.vks.keys.ghostBlock = true ∧ silent
               ∧ (corner down p → (t.vks.keyAt p).standing = some .suspect)
               ∧ (¬ corner down p → (t.vks.keyAt p).standing = some .blocked)))
           ∧ (∀ p, only p → raw.getLsbD p = false → (t.vks.keyAt p).standing = none
             ∧ ((standing p = some .untracked ∨ standing p = some .blocked ∨ standing p = some .latched) →
                 silent ∧ t.vks.keys.ghostBlock = s.vks.keys.ghostBlock)
             ∧ (standing p = some .suspect → silent
               ∧ ((∀ q, q < 80 → q ≠ p → standing q ≠ some .suspect) → t.vks.keys.ghostBlock = false)
               ∧ (∀ q, q < 80 → q ≠ p → standing q = some .suspect → t.vks.keys.ghostBlock = s.vks.keys.ghostBlock))
             ∧ (∀ h, held.find? (fun k => k.position = p) = some h → standing p = some .tracked →
                 t.vks.keys.held = held.filter (fun k => k.position ≠ p)
                 ∧ (h.reported = false → t.vks.keys.reports = reports)
                 ∧ (h.reported = true → 16 ≤ reports.length →
                     t.vks.keys.reports = reports ∧ t.vks.port.latches.keyLost = true)))
           ∧ (∀ p q h, held.find? (fun k => k.position = p) = some h → both p q → raw.getLsbD p = false →
             raw.getLsbD q = true → standing p = some .tracked → standing q = none → h.reported = true →
             s.vks.keys.ghostBlock = false → held.length ≤ 4 → reports.length < 15 → (∀ k ∈ held, k.position ≠ q) →
             ¬ corner (fun x => x ≠ p ∧ down x) q → passed q →
             t.vks.keys.held = held.filter (fun k => k.position ≠ p) ++ [⟨q, entry q, now, .passed, true⟩]
             ∧ t.vks.keys.reports = reports
               ++ [⟨.release, p, h.entry, h.disposition, now⟩, ⟨.press, q, entry q, .passed, now⟩])
           ∧ (∀ p q, both p q → p < q → raw.getLsbD p = true → raw.getLsbD q = true → standing p = none →
             standing q = none → s.vks.keys.ghostBlock = false → held.length < 3 → reports.length < 15 →
             (∀ k ∈ held, k.position ≠ p ∧ k.position ≠ q) → ¬ corner down p → passed p → passed q →
             (¬ corner (fun x => x = p ∨ down x) q →
               t.vks.keys.held = held ++ [⟨p, entry p, now, .passed, true⟩, ⟨q, entry q, now, .passed, true⟩]
               ∧ t.vks.keys.reports = reports
                 ++ [⟨.press, p, entry p, .passed, now⟩, ⟨.press, q, entry q, .passed, now⟩])
             ∧ (corner (fun x => x = p ∨ down x) q →
               t.vks.keys.held = held ++ [⟨p, entry p, now, .passed, true⟩] ∧ t.vks.keys.ghostBlock = true
               ∧ (t.vks.keyAt q).standing = some .suspect
               ∧ t.vks.keys.reports = reports
                 ++ [⟨.press, p, entry p, .passed, now⟩, ⟨.ghost, q, entry q, .none, now⟩]))))

/-! ### Mixing and the output (07) -/

/-- R22, R101, R126, R129, R134, R149, R150, R152, R153, R155, R161: one output instant. While the amplifier is ON the
output is the mix of the host sample and one draw from each voice with the gains of the instant, the buffer gives its oldest
sample, crosses its mark with AUDIO_LOW, and stops when it is found empty. A voice that has nothing to draw starves: the
first time it is marked and raises VOICE_STARVED, later draws raise nothing. A voice whose last sample was drawn ends
FINISHED and is free, and the attempt takes the step it awaited that end for. An IDLE read engine serves the voice that then
needs a read. Otherwise the output is 0 and the buffer keeps its samples. Both words of the I2S frame carry the output
sample, most significant bit first; a stopped output has no frame. In SLEEP nothing happens. That a full clip window is
closed at the start of the next instant is the model's choice (log 3); so is what a voice or buffer that plays while the
amplifier is not ON would do, which no run reaches (log 18, log 32). So is the channel level of a level that is handed again
inside one item (log 36). -/
def Obligations.OutputInstantMixesTheSum : Prop :=
  (∀ s : State,
    (¬ Awake s → exec .outputInstant s = .next s)
    ∧ (Awake s → ∃ t, exec .outputInstant s = .next t ∧ t.flash = s.flash ∧ t.pending = s.pending
      ∧ t.vks.words = s.vks.words ∧ t.vks.keys = s.vks.keys ∧ t.vks.params = s.vks.params
      ∧ (s.vks.reader.engine = .idle → ArbiterServes t.vks)
      ∧ t.vks.mixer.windowCount = (if 256 ≤ s.vks.mixer.windowCount then 0 else s.vks.mixer.windowCount) + 1
      ∧ (let word := BitVec.ofInt 16 t.vks.mixer.output
         t.vks.mixer.i2s = ⟨true, word, word⟩
         ∧ i2sFrame t.vks = some ((List.range 16).map (fun k => (false, word.getLsbD (15 - k)))
            ++ (List.range 16).map (fun k => (true, word.getLsbD (15 - k)))))
      ∧ (s.vks.power.amp ≠ .on → t.vks.mixer.output = 0 ∧ t.vks.mixer.samples = s.vks.mixer.samples)
      ∧ (s.vks.power.amp = .on →
          let term : Voice → Nat → Int := fun w channel =>
            match w.ring with
            | r :: _ =>
              if w.state = .playing ∧ w.leadIn = false ∧ w.utterance.isSome then
                r.value * ((match r.level with
                  | some l => (l * 128 * channel + 8192) / 16384
                  | none => w.gain : Nat) : Int)
              else 0
            | [] => 0
          let acc := (if s.vks.mixer.playing then s.vks.mixer.samples.headD 0 else 0) * (t.vks.mixer.hostGain : Int)
            + (term s.vks.reader.mainVoice s.vks.params.mainVoiceLevel
              + term s.vks.reader.echoVoice s.vks.params.echoVoiceLevel)
          t.vks.mixer.output = mixOutput acc
          ∧ t.vks.mixer.clipSeen = (s.vks.mixer.clipSeen || mixClips acc)
          ∧ t.vks.mixer.samples = (if s.vks.mixer.playing then s.vks.mixer.samples.tail else s.vks.mixer.samples)
          ∧ (s.vks.mixer.playing = true → s.vks.mixer.samples = [] →
              t.vks.mixer.playing = false ∧ t.vks.mixer.endMark = false
              ∧ t.vks.port.latches.underrun = (s.vks.port.latches.underrun || !s.vks.mixer.endMark))
          ∧ (s.vks.mixer.playing = true → s.vks.mixer.samples ≠ [] → s.vks.mixer.lowArmed = true →
              s.vks.mixer.endMark = false → s.vks.mixer.samples.length ≤ s.vks.params.playoutMark →
              s.vks.notices.queue.length < 16 →
              ∃ later, t.vks.notices.queue = s.vks.notices.queue
                ++ .audioLow (s.vks.mixer.samples.length - 1) s.vks.params.playoutMark :: later)
          ∧ (∀ (i : VoiceId) (u : Utterance), (s.vks.voice i).state = .playing → (s.vks.voice i).leadIn = false →
              (s.vks.voice i).utterance = some u → (s.vks.voice i).ring = [] → (s.vks.voice i).readItem ≠ 0 →
              (t.vks.voice i).utterance = some { u with starved := true }
              ∧ (u.starved = false → s.vks.notices.queue.length + 2 < 16 →
                  .voiceStarved (if i = .main then 0 else 1) u.id ∈ t.vks.notices.queue))
          ∧ (∀ u, s.vks.reader.mainVoice.state = .playing → s.vks.reader.mainVoice.leadIn = false →
              s.vks.reader.mainVoice.utterance = some u → s.vks.reader.mainVoice.ring.length = 1 →
              s.vks.reader.mainVoice.readItem = 0 →
              (u.source = .say → s.vks.notices.queue.length + 2 < 16 →
                .utteranceDone u.tag u.id 1 u.flags ∈ t.vks.notices.queue)
              ∧ (s.vks.attempt.ctx.outstanding = [] → s.vks.sched.queue = [] → t.vks.reader.mainVoice = Voice.idle)
              ∧ (∀ k, u.source ≠ .say → s.vks.attempt.ctx.outstanding = [u.id] → s.vks.attempt.ctx.awaited = some (k, u.id) →
                  (k ≠ .closing → t.vks.attempt.state = .listening)
                  ∧ (k = .closing → LeavesClosing s.vks t.vks s.vks.lesson s.vks.attempt.ctx)))
          ∧ (∀ u, s.vks.reader.echoVoice.state = .playing → s.vks.reader.echoVoice.leadIn = false →
              s.vks.reader.echoVoice.utterance = some u → s.vks.reader.echoVoice.ring.length = 1 →
              s.vks.reader.echoVoice.readItem = 0 → u.source = .echo → s.vks.reader.mainVoice.ring.length ≠ 1 →
              s.vks.reader.mainVoice.drained = false → (∀ k, s.vks.attempt.ctx.awaited ≠ some (k, u.id)) →
              t.vks.attempt.ctx = { s.vks.attempt.ctx with
                outstanding := s.vks.attempt.ctx.outstanding.filter (fun x => x ≠ u.id) }
              ∧ (s.vks.sched.echoLine = none → t.vks.reader.echoVoice = Voice.idle)))))
  ∧ (∀ (v : Vks) (i : VoiceId) (u : Utterance), (v.voice i).utterance = some u → (v.voice i).ring = [] → u.starved = true →
      draw i v = (0, v))
  ∧ (∀ v : Vks, v.mixer.i2s.driven = false → i2sFrame v = none)

/-- R154: the exact sum never leaves the signed 32-bit range, is divided by 16384 and rounded once to nearest with ties away
from zero, and is then limited to 16 bits; a sample the limit changed is a clipped sample. -/
def Obligations.MixIsRoundedOnceAndLimited : Prop :=
  (∀ h m e gh gm ge : Int, |h| ≤ 32768 → |m| ≤ 32768 → |e| ≤ 32768 → 0 ≤ gh → gh ≤ 16384 → 0 ≤ gm → gm ≤ 16384 →
    0 ≤ ge → ge ≤ 16384 → |h * gh + m * gm + e * ge| ≤ 1610612736)
  ∧ (∀ acc : Int, ∃ x : Int, |acc - 16384 * x| ≤ 8192 ∧ (|acc - 16384 * x| = 8192 → |acc| < |16384 * x|)
      ∧ (32767 < x → mixOutput acc = 32767 ∧ mixClips acc = true)
      ∧ (x < -32768 → mixOutput acc = -32768 ∧ mixClips acc = true)
      ∧ (-32768 ≤ x → x ≤ 32767 → mixOutput acc = x ∧ mixClips acc = false))

/-- R156, R157, R158: the duck envelope at an output instant. The host gain is brought into L_e..L_h; an active instant falls
towards L_e and is then DUCKED; an inactive one holds, then rises towards L_h and is then OPEN. -/
def Obligations.EnvelopeFollowsTheVoices : Prop :=
  ∀ s : State, Awake s →
    let p := s.vks.params
    let m := s.vks.mixer
    let low := min p.duckLevel p.hostLevel
    let g := max low (min p.hostLevel m.hostGain)
    let active := s.vks.reader.mainVoice.state = .playing ∨ s.vks.reader.echoVoice.state = .playing
    ∃ t, exec .outputInstant s = .next t ∧ low ≤ t.vks.mixer.hostGain ∧ t.vks.mixer.hostGain ≤ p.hostLevel
      ∧ (active → (m.envelope ≠ .ducked ∨ low < g) → t.vks.mixer.hostGain = max low (g - p.duckFallStep)
          ∧ t.vks.mixer.envelope = if t.vks.mixer.hostGain = low then .ducked else .falling)
      ∧ (active → m.envelope = .ducked → g = low → t.vks.mixer.hostGain = low ∧ t.vks.mixer.envelope = .ducked)
      ∧ (¬ active → (m.envelope = .falling ∨ m.envelope = .ducked) → 0 < p.duckHold →
          t.vks.mixer.hostGain = g ∧ t.vks.mixer.envelope = .hold ∧ t.vks.mixer.holdCount = p.duckHold * 16 - 1)
      ∧ (¬ active → m.envelope = .hold → 0 < m.holdCount →
          t.vks.mixer.hostGain = g ∧ t.vks.mixer.envelope = .hold ∧ t.vks.mixer.holdCount = m.holdCount - 1)
      ∧ (¬ active → (m.envelope = .rising ∨ (m.envelope = .hold ∧ m.holdCount = 0)
            ∨ ((m.envelope = .falling ∨ m.envelope = .ducked) ∧ p.duckHold = 0) ∨ (m.envelope = .opened ∧ g < p.hostLevel)) →
          t.vks.mixer.hostGain = min p.hostLevel (g + p.duckRiseStep)
          ∧ t.vks.mixer.envelope = if t.vks.mixer.hostGain = p.hostLevel then .opened else .rising)
      ∧ (¬ active → m.envelope = .opened → g = p.hostLevel →
          t.vks.mixer.hostGain = p.hostLevel ∧ t.vks.mixer.envelope = .opened)

/-- R155, R158, R187: the sample clock's rows. CLIP_WINDOW_END closes a full window, DUCK_HOLD_END turns a hold that has run
out into a rise, and AMP_STANDBY_EXPIRY is the output instant that raises the standby count to its limit: it is due when the
amplifier is ON, no voice is PLAYING, and that instant's output sample is 0. Each changes nothing when it is not due. These
readings of the three rows are the model's choice (log 2, log 3, log 4, log 5). An instant at which neither voice was
PLAYING and whose output is 0, host audio that is zero included, raises the count; a PLAYING voice or a sample other than 0
sets it to 0; the limit reached turns the amplifier OFF and stops the buffer. -/
def Obligations.SampleClockRowsActWhenDue : Prop :=
  ∀ s : State,
    (256 ≤ s.vks.mixer.windowCount → exec .clipWindowEnd s = .next (withPart s { s.vks with mixer := { s.vks.mixer with
        clipLast := s.vks.mixer.clipCurrent, clipCurrent := false, windowCount := 0 } }))
    ∧ (s.vks.mixer.windowCount < 256 → exec .clipWindowEnd s = .next s)
    ∧ (s.vks.mixer.envelope = .hold → s.vks.mixer.holdCount = 0 →
        exec .duckHoldEnd s = .next (withPart s { s.vks with mixer := { s.vks.mixer with envelope := .rising } }))
    ∧ ((s.vks.mixer.envelope ≠ .hold ∨ 0 < s.vks.mixer.holdCount) → exec .duckHoldEnd s = .next s)
    ∧ (let limit := s.vks.params.ampStandby * 16000
       let silent := s.vks.reader.mainVoice.state ≠ .playing ∧ s.vks.reader.echoVoice.state ≠ .playing
       ((¬ Awake s ∨ s.vks.power.amp ≠ .on ∨ ¬ silent ∨ s.vks.params.ampStandby = 0 ∨ s.vks.power.standby + 1 < limit) →
          exec .ampStandbyExpiry s = .next s)
       ∧ (Awake s → s.vks.power.amp = .on → ∃ t, exec .outputInstant s = .next t
          ∧ (t.vks.mixer.output ≠ 0 → exec .ampStandbyExpiry s = .next s)
          ∧ (silent → t.vks.mixer.output = 0 → s.vks.params.ampStandby ≠ 0 → limit ≤ s.vks.power.standby + 1 →
              exec .ampStandbyExpiry s = .next t)
          ∧ (¬ silent → t.vks.power.amp = .on ∧ t.vks.power.standby = 0)
          ∧ (t.vks.mixer.output ≠ 0 → t.vks.power.amp = .on ∧ t.vks.power.standby = 0)
          ∧ (silent → t.vks.mixer.output = 0 → (s.vks.params.ampStandby = 0 ∨ s.vks.power.standby + 1 < limit) →
              t.vks.power.amp = .on ∧ t.vks.power.standby = s.vks.power.standby + 1)
          ∧ (silent → t.vks.mixer.output = 0 → s.vks.params.ampStandby ≠ 0 → limit ≤ s.vks.power.standby + 1 →
              s.vks.sched.queue = [] → s.vks.sched.echoLine = none →
              t.vks.power.amp = .off ∧ t.vks.power.standby = 0 ∧ t.vks.mixer.playing = false)
          ∧ (silent → s.vks.mixer.playing = false → t.vks.mixer.output = 0)
          ∧ (∀ x rest, silent → s.vks.mixer.playing = true → s.vks.mixer.samples = x :: rest →
              t.vks.mixer.samples = rest ∧ (x = 0 → t.vks.mixer.output = 0)
              ∧ (8192 ≤ |x * (t.vks.mixer.hostGain : Int)| → t.vks.mixer.output ≠ 0))))

/-! ### Timers, lamps and power (02, 03, 09, 10) -/

/-- R22, R36, R37, R42, R43, R45, R58, R59, R183: the first expiry of the inactivity timer nudges, a second in a row closes the
attempt ABANDONED as `ClosesAttempt` says; the gap timer's expiry opens the lesson's next valid word, or turns lesson auto
mode off when there is none. A timer that is not due changes nothing, which is the model's choice (log 2). -/
def Obligations.AttemptTimersActWhenDue : Prop :=
  ∀ s : State,
    (s.vks.attempt.state = .listening → s.vks.attempt.ctx.outstanding = [] → s.vks.params.inactivity ≠ 0 →
      s.vks.attempt.inactivity = some 0 →
      (s.vks.attempt.ctx.nudged = false →
        ∃ t, exec .inactivityExpiry s = .next t ∧ t.flash = s.flash ∧ t.pending = s.pending
          ∧ t.vks.attempt.state = .listening ∧ t.vks.lesson = s.vks.lesson
          ∧ (∃ spoken, t.vks.attempt.ctx = { s.vks.attempt.ctx with nudged := true, outstanding := spoken }
              ∧ (expandAll s.vks ⟨s.vks.attemptEntry, s.vks.attempt.ctx.buffer,
                    hintPosition s.vks.attempt.ctx.buffer s.vks.target, none⟩ (s.vks.row 14) ≠ [] →
                  s.vks.sched.queue.length < 16 → spoken = [s.vks.sched.nextId]))
          ∧ OutsideAttempt t.vks s.vks)
      ∧ (s.vks.attempt.ctx.nudged = true → s.vks.lesson.auto = false →
        ∃ t, exec .inactivityExpiry s = .next t ∧ t.flash = s.flash ∧ t.pending = s.pending
          ∧ (t.vks.attempt.state = .responding ∨ t.vks.attempt.state = .idle)
          ∧ t.vks.attempt.ctx.verdict = some .abandoned ∧ t.vks.attempt.ctx.verdictPosition = 0
          ∧ t.vks.attempt.ctx.closed = true ∧ t.vks.attempt.ctx.buffer = s.vks.attempt.ctx.buffer
          ∧ t.vks.notices.wrong = some 1000 ∧ OutsideAttempt t.vks s.vks)
      ∧ (s.vks.attempt.ctx.nudged = true →
        ∃ t, exec .inactivityExpiry s = .next t ∧ ClosesAttempt s.vks t.vks s.vks.attempt.ctx .abandoned 0))
    ∧ (s.vks.attempt.inactivity ≠ some 0 → exec .inactivityExpiry s = .next s)
    ∧ (s.vks.attempt.state = .gap → s.vks.lesson.gapTimer = some 0 →
      (∀ (bad : List LessonEntry) (e : LessonEntry) (rest : List LessonEntry) (x : WordEntry),
        s.vks.lesson.entries = bad ++ e :: rest → (∀ b ∈ bad, s.vks.entry b.word = none) → s.vks.entry e.word = some x →
        ∃ t, exec .gapExpiry s = .next t ∧ t.flash = s.flash ∧ t.pending = s.pending
          ∧ t.vks.lesson = { s.vks.lesson with entries := rest, gapTimer := none }
          ∧ (t.vks.attempt.state = .prompting ∨ t.vks.attempt.state = .listening)
          ∧ t.vks.attempt.ctx.word = e.word ∧ t.vks.attempt.ctx.origin = .lesson e.retries
          ∧ t.vks.attempt.ctx.settings = x.settings ∧ OutsideAttempt t.vks s.vks)
      ∧ ((∀ b ∈ s.vks.lesson.entries, s.vks.entry b.word = none) →
        ∃ t, exec .gapExpiry s = .next t ∧ t.vks.attempt.state = .idle
          ∧ t.vks.lesson = { s.vks.lesson with entries := [], auto := false, gapTimer := none }
          ∧ (s.vks.notices.queue.length < 16 →
              ∃ later, t.vks.notices.queue = s.vks.notices.queue ++ .lessonEmpty s.vks.lesson.entries.length :: later)
          ∧ OutsideAttempt t.vks s.vks))
    ∧ ((s.vks.attempt.state ≠ .gap ∨ s.vks.lesson.gapTimer ≠ some 0) → exec .gapExpiry s = .next s)

/-- R181, R182, R183, R184, R185: a lamp timer's expiry ends its condition, a blink phase alternates after its 500 ms, and
the ATTN gap's expiry raises ATTN where a reason waits and LNK_SEL is released. A lamp is lit by its mode's condition, its
blink phase and its invert modifier, and dark in SLEEP; a blink phase begins lit where the condition comes to hold, and is
abandoned where it does not; a SET of a lamp begins its phase afresh. ATTN rises where a record waits that the mask admits,
with LNK_SEL released and no gap running, be it in the event of the record or of a SET of the mask; it falls where no such
record is left, and its fall starts the gap. AMP_EN is high in WARMING and ON. A timer that is not due changes nothing,
which is the model's choice (log 2). -/
def Obligations.LampAndAttnTimersActWhenDue : Prop :=
  let holds : Vks → LampMode → Prop := fun v m =>
    match m with
    | .off => False
    | .on => True
    | .listening => v.attempt.state = .listening
    | .speaking => v.reader.mainVoice.state = .playing ∨ v.reader.echoVoice.state = .playing
    | .correct => v.notices.correct ≠ none
    | .wrong => v.notices.wrong ≠ none
    | .hint => (v.attempt.state = .prompting ∨ v.attempt.state = .listening ∨ v.attempt.state = .responding)
        ∧ 0 < v.attempt.ctx.hintStage
    | .store => v.reader.store = .claimed
    | .attn => v.notices.attn = true
  (∀ (v : Vks) (k : Nat) (l : LampSetting), k < 3 → v.params.lamps[k]? = some l →
    let plain := holds v l.mode ∧ (l.blink = true → (v.notices.blink.getD k none).map BlinkPhase.lit = some true)
    (v.power.asleep = true → lampLit v k = false)
    ∧ (v.power.asleep = false → l.invert = false → (lampLit v k = true ↔ plain))
    ∧ (v.power.asleep = false → l.invert = true → (lampLit v k = true ↔ ¬ plain)))
  ∧ (∀ s : State, Awake s → ∃ t, exec .idleSlot s = .next t
    ∧ ∀ (k : Nat) (l : LampSetting), k < 3 → s.vks.params.lamps[k]? = some l →
      (l.blink = true → holds t.vks l.mode →
        t.vks.notices.blink.getD k none = some ((s.vks.notices.blink.getD k none).getD ⟨true, 500⟩))
      ∧ ((l.blink = false ∨ ¬ holds t.vks l.mode) → t.vks.notices.blink.getD k none = none))
  ∧ (∀ (s : State) (tag : Byte) (k x : Nat), Awake s → TablesSized s.vks → k < 3 → x < 2 ^ 32 → x % 16 ≤ 8 →
    ∃ t, exec (.set tag (leBytes 1 (18 + k) ++ leBytes 4 x)) s = .next t ∧ ∀ l : LampSetting, t.vks.params.lamps[k]? = some l →
      (l.blink = true → holds t.vks l.mode → t.vks.notices.blink.getD k none = some ⟨true, 500⟩)
      ∧ ((l.blink = false ∨ ¬ holds t.vks l.mode) → t.vks.notices.blink.getD k none = none))
  ∧ (let reason := fun v : Vks => (v.keys.reports ≠ [] ∧ v.params.attnMask.getLsbD 16 = true)
       ∨ ∃ n ∈ v.notices.queue, v.params.attnMask.getLsbD (n.kind - 1) = true
     let follows := fun s t : Vks =>
       (s.port.txn ≠ none → t.notices.attn = s.notices.attn ∧ t.notices.attnGap = s.notices.attnGap)
       ∧ (s.port.txn = none → reason t → t.notices.attnGap = s.notices.attnGap
         ∧ (s.notices.attnGap = none → t.notices.attn = true) ∧ (s.notices.attnGap ≠ none → t.notices.attn = s.notices.attn))
       ∧ (s.port.txn = none → ¬ reason t → t.notices.attn = false
         ∧ (s.notices.attn = false → t.notices.attnGap = s.notices.attnGap)
         ∧ (s.notices.attn = true → t.notices.attnGap = if s.params.attnGap = 0 then none else some s.params.attnGap))
     ∀ s : State, Awake s →
       (∃ t, exec .idleSlot s = .next t ∧ follows s.vks t.vks)
       ∧ (∀ (tag : Byte) (x : Nat), x < 2 ^ 32 →
         ∃ t, exec (.set tag (leBytes 1 16 ++ leBytes 4 x)) s = .next t ∧ follows s.vks t.vks)
       ∧ (∀ raw : Matrix, s.vks.port.txn = none → s.vks.notices.attn = false → s.vks.notices.attnGap = none →
         ∃ t, exec (.keyScan raw) s = .next t ∧ (reason t.vks → t.vks.notices.attn = true)))
  ∧ (∀ v : Vks, ampEnable v = true ↔ v.power.amp = .warming ∨ v.power.amp = .on)
  ∧ ∀ s : State,
    (s.vks.notices.correct = some 0 → ∃ t, exec (.lampTimerExpiry .correct) s = .next t ∧ t.flash = s.flash
        ∧ t.pending = s.pending ∧ Untouched t.vks { s.vks with notices := { s.vks.notices with correct := none } })
    ∧ (s.vks.notices.wrong = some 0 → ∃ t, exec (.lampTimerExpiry .wrong) s = .next t ∧ t.flash = s.flash
        ∧ t.pending = s.pending ∧ Untouched t.vks { s.vks with notices := { s.vks.notices with wrong := none } })
    ∧ (s.vks.notices.correct ≠ some 0 → exec (.lampTimerExpiry .correct) s = .next s)
    ∧ (s.vks.notices.wrong ≠ some 0 → exec (.lampTimerExpiry .wrong) s = .next s)
    ∧ (∀ (k : Fin 3) (p : BlinkPhase), s.vks.notices.blink.getD k.val none = some p →
        (p.left = 0 → exec (.lampBlinkToggle k) s = .next (withPart s { s.vks with notices := { s.vks.notices with
            blink := s.vks.notices.blink.set k.val (some ⟨!p.lit, 500⟩) } }))
        ∧ (p.left ≠ 0 → exec (.lampBlinkToggle k) s = .next s))
    ∧ (∀ k : Fin 3, s.vks.notices.blink.getD k.val none = none → exec (.lampBlinkToggle k) s = .next s)
    ∧ (s.vks.notices.attnGap = some 0 →
        ((s.vks.keys.reports ≠ [] ∧ s.vks.params.attnMask.getLsbD 16 = true)
          ∨ ∃ n ∈ s.vks.notices.queue, s.vks.params.attnMask.getLsbD (n.kind - 1) = true) →
        s.vks.port.txn = none →
        ∃ t, exec .attnGapExpiry s = .next t ∧ t.flash = s.flash ∧ t.pending = s.pending
          ∧ t.vks.notices.attn = true ∧ t.vks.notices.attnGap = none ∧ Untouched t.vks s.vks)
    ∧ (s.vks.notices.attnGap ≠ some 0 → exec .attnGapExpiry s = .next s)

/-- R186, R190, R191, R192, R193: the end of a warm-up turns the amplifier ON, sets the waiting voices PLAYING and starts a
ready buffer; the sleep timer's expiry puts the part to sleep; a sleep scan passes 25 ms without touching the debounce, and
a raw press at an up position wakes the part with cause KEY. That a sleep scan moves the time counter by 25 is the model's
inference (log 1); that output and words of the stopped I2S output are held as 0 is its choice (log 18). A row that is not
due, and a scan of the other power state, changes nothing, which is the model's choice (log 2, log 27). -/
def Obligations.PowerRowsActWhenDue : Prop :=
  ∀ s : State,
    (s.vks.power.amp = .warming → s.vks.power.warmup = some 0 →
      ∃ t, exec .ampWarmupExpiry s = .next t ∧ t.flash = s.flash ∧ t.pending = s.pending
        ∧ t.vks.power.amp = .on ∧ t.vks.power.warmup = none ∧ t.vks.power.standby = 0
        ∧ (∀ i, (s.vks.voice i).state = .waitingAmp → (t.vks.voice i).state = .playing)
        ∧ (1 ≤ s.vks.mixer.samples.length → s.vks.params.playoutMark ≤ s.vks.mixer.samples.length →
            t.vks.mixer.playing = true)
        ∧ t.vks.mixer.samples = s.vks.mixer.samples
        ∧ (s.vks.sched.echoLine = none → Untouched t.vks s.vks))
    ∧ ((s.vks.power.amp ≠ .warming ∨ s.vks.power.warmup ≠ some 0) → exec .ampWarmupExpiry s = .next s)
    ∧ (s.vks.power.sleepTimer = some 0 → Awake s → s.vks.params.sleepAfter ≠ 0 → s.vks.attempt.state = .idle →
      s.vks.reader.mainVoice.state = .idle → s.vks.reader.echoVoice.state = .idle → s.vks.sched.queue = [] →
      s.vks.sched.echoLine = none → s.vks.reader.engine = .idle → s.vks.mixer.playing = false → s.vks.port.txn = none →
      exec .sleepTimerExpiry s = .next (withPart s { s.vks with
          mixer := { s.vks.mixer with
            playing := false, hostGain := s.vks.params.hostLevel, envelope := .opened, holdCount := 0
            clipCurrent := false, clipLast := false, windowCount := 0, output := 0, i2s := ⟨false, 0#16, 0#16⟩ }
          notices := { s.vks.notices with correct := none, wrong := none, blink := [none, none, none] }
          power := { asleep := true, amp := .off, warmup := none, standby := 0, sleepTimer := none } }))
    ∧ (s.vks.power.sleepTimer ≠ some 0 → exec .sleepTimerExpiry s = .next s)
    ∧ (∀ raw : Matrix,
      (Awake s → exec (.sleepScan raw) s = .next s)
      ∧ (¬ Awake s → exec (.keyScan raw) s = .next s)
      ∧ (¬ Awake s → ∃ t, exec (.sleepScan raw) s = .next t ∧ t.flash = s.flash ∧ t.pending = s.pending
        ∧ t.vks.keys = { s.vks.keys with time := s.vks.keys.time + 25#16 }
        ∧ t.vks.words = s.vks.words ∧ t.vks.params = s.vks.params ∧ t.vks.mixer.samples = s.vks.mixer.samples
        ∧ ((∃ p, p < 80 ∧ raw.getLsbD p = true ∧ (s.vks.keyAt p).standing = none) → Awake t
            ∧ (s.vks.notices.queue.length < 16 →
                ∃ later, t.vks.notices.queue = s.vks.notices.queue ++ .wake 1 :: later))
        ∧ ((∀ p, p < 80 → raw.getLsbD p = true → (s.vks.keyAt p).standing ≠ none) → ¬ Awake t
            ∧ t.vks.notices.queue = s.vks.notices.queue)))

/-! ### Invariants that every step keeps -/

/-- The flash keeps its canonical form at every step, and so do the word pool's account (R3, R4) and the sizes of the tables
(R1, R6, R62, R75, R81, R93, R182). The canonical form is the model's own (log 13). -/
def Obligations.EveryStepKeepsFlashPoolAndTables : Prop :=
  ∀ s t : State, step s = .next t →
    (s.flash.wf = true → t.flash.wf = true)
    ∧ (PoolBalances s.vks → PoolBalances t.vks)
    ∧ (TablesSized s.vks → TablesSized t.vks)

/-- Every step keeps each block within its capacity: the notice queue (R178), the held keys and key reports (R77, R89), the
lesson and review lists (R53, R70), the main queue (R104), the playout buffer (R145, R146), the output sample (R154) with the
two equal words of its I2S frame (R161), and the reply's data bytes (R169). That the stopped output's sample and words are held as
0, which meets the same bound, is the model's choice (log 18). -/
def Obligations.EveryStepKeepsTheCapacities : Prop :=
  ∀ s t : State, step s = .next t →
    (NoticesFit s.vks → NoticesFit t.vks)
    ∧ (KeysFit s.vks → KeysFit t.vks)
    ∧ (ListsFit s.vks → ListsFit t.vks)
    ∧ (QueueFits s.vks → QueueFits t.vks)
    ∧ (BufferFits s.vks → BufferFits t.vks)
    ∧ (OutputFits s.vks → OutputFits t.vks)
    ∧ (ReplyFits s.vks → ReplyFits t.vks)

/-- R189, R190, R193: a part that sleeps is quiet, and every step keeps it so: whatever makes something sound wakes it. That the
held output sample of a sleeping part is 0 is the model's choice (log 18). -/
def Obligations.EveryStepKeepsSleepQuiet : Prop :=
  ∀ s t : State, step s = .next t → SleepIsQuiet s.vks → SleepIsQuiet t.vks

/-- The state right after reset meets every invariant. Its erased flash (log 13), and the output sample and I2S words held as 0
(log 18), are the model's choices. -/
def Obligations.ResetMeetsTheInvariants : Prop :=
  State.reset.flash.wf = true ∧ PoolBalances State.reset.vks ∧ TablesSized State.reset.vks ∧ NoticesFit State.reset.vks
    ∧ KeysFit State.reset.vks ∧ ListsFit State.reset.vks ∧ QueueFits State.reset.vks ∧ BufferFits State.reset.vks
    ∧ OutputFits State.reset.vks ∧ ReplyFits State.reset.vks ∧ SleepIsQuiet State.reset.vks
end

