-- ==== Sys2Proof/Laws/Bytes.lean ====
section
/-! SUPPORT. Byte lists: lengths, little-endian fields, and reading back what was written. -/

namespace Sys2Proof.Machine

@[simp] theorem leBytes_length (n x : Nat) : (leBytes n x).length = n := by
  induction n generalizing x with
  | zero => rfl
  | succ n ih => simp [leBytes, ih]

theorem leValue_leBytes (n x : Nat) : leValue (leBytes n x) = x % 256 ^ n := by
  induction n generalizing x with
  | zero => simp [leBytes, leValue, Nat.mod_one]
  | succ n ih =>
    have h : (256 : Nat) ^ (n + 1) = 256 * 256 ^ n := Nat.pow_succ'
    rw [leBytes, leValue, ih, BitVec.toNat_ofNat, h, Nat.mod_mul]

/-- A field at the front of a list. -/
theorem fieldAt_front (n x : Nat) (rest : List Byte) : fieldAt (leBytes n x ++ rest) 0 n = x % 256 ^ n := by
  unfold fieldAt
  rw [List.drop_zero, List.take_append_of_le_length (by simp), List.take_of_length_le (by simp), leValue_leBytes]

/-- A field behind `k` bytes. -/
theorem fieldAt_skip (front rest : List Byte) (i n : Nat) (h : front.length ≤ i) :
    fieldAt (front ++ rest) i n = fieldAt rest (i - front.length) n := by
  unfold fieldAt
  rw [List.drop_append, List.drop_eq_nil_of_le h, List.nil_append]

@[simp] theorem byteAt_cons_zero (b : Byte) (bs : List Byte) : byteAt (b :: bs) 0 = b.toNat := rfl

@[simp] theorem byteAt_cons_succ (b : Byte) (bs : List Byte) (i : Nat) : byteAt (b :: bs) (i + 1) = byteAt bs i := by
  simp [byteAt]

theorem padTo_length (n : Nat) (bs : List Byte) (h : bs.length ≤ n) : (padTo n bs).length = n := by
  simp [padTo]
  omega

theorem byteSum_lt (bs : List Byte) : byteSum bs < 65536 := Nat.mod_lt _ (by decide)

/-- A body with its check has the check of R164. -/
theorem withCheck_length (body : List Byte) : (withCheck body).length = body.length + 2 := by simp [withCheck]

@[simp] theorem wireBits_nil : wireBits [] = [] := rfl

@[simp] theorem wireBits_cons (b : Byte) (bs : List Byte) :
    wireBits (b :: bs) = (List.range 8).map b.getMsbD ++ wireBits bs := rfl

@[simp] theorem wireBits_length (bs : List Byte) : (wireBits bs).length = 8 * bs.length := by
  induction bs with
  | nil => rfl
  | cons b bs ih => simp [ih]; omega

end Sys2Proof.Machine
end

