-- ==== Sys2Proof/Laws/Flash.lean ====
section
/-! SUPPORT. The flash as memory: a write is read back, other bytes stay, and every operation keeps the canonical form. -/

namespace Sys2Proof.Machine

/-! ### One byte -/

theorem cellsRead_of_above (t : List Host.Cell) (lo a : Nat) (h : cellsCanonicalFrom (some lo) t = true) (ha : a ≤ lo) :
    cellsRead t a = Config.erasedByte := by
  induction t generalizing lo with
  | nil => rfl
  | cons c t ih =>
    obtain ⟨k, b⟩ := c
    simp only [cellsCanonicalFrom, Bool.and_eq_true, decide_eq_true_eq] at h
    obtain ⟨⟨hk, -⟩, ht⟩ := h
    rw [cellsRead, if_neg (by omega)]
    exact ih k ht (by omega)

theorem cellsRead_write (t : List Host.Cell) (lo : Option Nat) (a : Nat) (b : Byte) (x : Nat)
    (h : cellsCanonicalFrom lo t = true) :
    cellsRead (cellsWrite t a b) x = if x = a then b else cellsRead t x := by
  induction t generalizing lo with
  | nil =>
    unfold cellsWrite
    split <;> rename_i hb
    · subst hb; simp [cellsRead]
    · simp [cellsRead]
  | cons c t ih =>
    obtain ⟨k, d⟩ := c
    simp only [cellsCanonicalFrom, Bool.and_eq_true] at h
    obtain ⟨-, ht⟩ := h
    unfold cellsWrite
    split
    · rename_i hak
      split <;> rename_i hb
      · by_cases hx : x = a
        · subst hx hb
          rw [if_pos rfl, cellsRead, if_neg (by omega), cellsRead_of_above t k x ht (by omega)]
        · rw [if_neg hx]
      · by_cases hx : x = a <;> simp [cellsRead, hx]
    · split
      · rename_i hak
        subst hak
        split <;> rename_i hb
        · by_cases hx : x = a
          · subst hx hb
            rw [if_pos rfl, cellsRead_of_above t x x ht (by omega)]
          · rw [if_neg hx, cellsRead, if_neg hx]
        · by_cases hx : x = a <;> simp [cellsRead, hx]
      · rename_i h1 h2
        rw [cellsRead, ih (some k) ht]
        by_cases hx : x = k
        · subst hx
          rw [if_pos rfl, if_neg (by omega), cellsRead, if_pos rfl]
        · rw [if_neg hx]
          by_cases hxa : x = a
          · rw [if_pos hxa, if_pos hxa]
          · rw [if_neg hxa, if_neg hxa, cellsRead, if_neg hx]

/-- Reading after a write: the byte written at its address, the old byte anywhere else. -/
theorem Flash.read_write (f : Flash) (a : Nat) (b : Byte) (x : Nat) (h : f.wf = true) :
    (f.write a b).read x = if x = a then b else f.read x := cellsRead_write f.cells none a b x h

/-! ### The canonical form -/

/-- `a` may stand behind `lo`. -/
def aboveBound (lo : Option Nat) (a : Nat) : Prop := ∀ l, lo = some l → l < a

/-- The canonical form of a list with a first cell. -/
theorem cellsCanonicalFrom_cons (lo : Option Nat) (k : Nat) (b : Byte) (t : List Host.Cell) :
    cellsCanonicalFrom lo ((k, b) :: t) = true ↔
      aboveBound lo k ∧ b ≠ Config.erasedByte ∧ cellsCanonicalFrom (some k) t = true := by
  cases lo <;> simp [cellsCanonicalFrom, aboveBound, and_assoc]

/-- The bound may be any bound that lies below the first cell. -/
theorem cellsCanonicalFrom_bound (t : List Host.Cell) (k : Nat) (lo : Option Nat)
    (h : cellsCanonicalFrom (some k) t = true) (hl : aboveBound lo k) : cellsCanonicalFrom lo t = true := by
  cases t with
  | nil => rfl
  | cons c t =>
    obtain ⟨j, d⟩ := c
    rw [cellsCanonicalFrom_cons] at h ⊢
    refine ⟨fun l hlo => ?_, h.2⟩
    have h1 := hl l hlo
    have h2 := h.1 k rfl
    omega

theorem cellsWrite_canonical (t : List Host.Cell) (lo : Option Nat) (a : Nat) (b : Byte)
    (h : cellsCanonicalFrom lo t = true) (ha : aboveBound lo a) : cellsCanonicalFrom lo (cellsWrite t a b) = true := by
  induction t generalizing lo with
  | nil =>
    unfold cellsWrite
    split <;> rename_i hb
    · rfl
    · exact (cellsCanonicalFrom_cons _ _ _ _).2 ⟨ha, hb, rfl⟩
  | cons c t ih =>
    obtain ⟨k, d⟩ := c
    obtain ⟨hk, hd, ht⟩ := (cellsCanonicalFrom_cons _ _ _ _).1 h
    unfold cellsWrite
    split
    · rename_i hak
      split <;> rename_i hb
      · exact h
      · refine (cellsCanonicalFrom_cons _ _ _ _).2 ⟨ha, hb, (cellsCanonicalFrom_cons _ _ _ _).2 ⟨?_, hd, ht⟩⟩
        intro l hl
        cases hl
        exact hak
    · split
      · rename_i hak
        subst hak
        split <;> rename_i hb
        · exact cellsCanonicalFrom_bound t a lo ht ha
        · exact (cellsCanonicalFrom_cons _ _ _ _).2 ⟨hk, hb, ht⟩
      · refine (cellsCanonicalFrom_cons _ _ _ _).2 ⟨hk, hd, ih (some k) ht ?_⟩
        intro l hl
        cases hl
        omega

theorem Flash.write_wf (f : Flash) (a : Nat) (b : Byte) (h : f.wf = true) : (f.write a b).wf = true :=
  cellsWrite_canonical f.cells none a b h (by intro l hl; cases hl)

theorem cellsFilter_canonical (p : Host.Cell → Bool) (t : List Host.Cell) (lo : Option Nat)
    (h : cellsCanonicalFrom lo t = true) : cellsCanonicalFrom lo (t.filter p) = true := by
  induction t generalizing lo with
  | nil => exact h
  | cons c t ih =>
    obtain ⟨k, d⟩ := c
    obtain ⟨hk, hd, ht⟩ := (cellsCanonicalFrom_cons _ _ _ _).1 h
    by_cases hp : p (k, d) = true
    · rw [List.filter_cons_of_pos hp]
      exact (cellsCanonicalFrom_cons _ _ _ _).2 ⟨hk, hd, ih (some k) ht⟩
    · rw [List.filter_cons_of_neg hp]
      exact ih lo (cellsCanonicalFrom_bound t k lo ht hk)

theorem Flash.program_wf (bs : List Byte) (f : Flash) (a : Nat) (h : f.wf = true) : (f.program a bs).wf = true := by
  induction bs generalizing f a with
  | nil => exact h
  | cons b bs ih => exact ih _ _ (f.write_wf _ _ h)

theorem Flash.erase_wf (f : Flash) (a n : Nat) (h : f.wf = true) : (f.erase a n).wf = true :=
  cellsFilter_canonical _ f.cells none h

theorem Flash.programReached_wf (bs : List Byte) (f : Flash) (a : Nat) (h : f.wf = true) :
    (f.programReached a bs).wf = true := by
  induction bs generalizing f a with
  | nil => exact h
  | cons b bs ih =>
    rw [Flash.programReached]
    refine ih _ _ ?_
    split
    · exact f.write_wf _ _ h
    · exact h

theorem Flash.eraseReached_wf (f : Flash) (a n : Nat) (h : f.wf = true) : (f.eraseReached a n).wf = true :=
  cellsFilter_canonical _ f.cells none h

theorem Flash.finishInterrupted_wf (f : Flash) (op : Option LinkOp) (h : f.wf = true) :
    (f.finishInterrupted op).wf = true := by
  unfold Flash.finishInterrupted
  split
  · exact f.programReached_wf _ _ h
  · exact f.eraseReached_wf _ _ h
  · exact h

/-- The flash the model starts from is in canonical form. -/
theorem Flash.erased_wf : Flash.erased.wf = true := rfl

/-! ### Programming and erasing, byte by byte -/

/-- Programming leaves every byte outside the run as it was, and ands the data into the bytes of the run (R139). -/
theorem Flash.read_program (bs : List Byte) (f : Flash) (a x : Nat) (h : f.wf = true) :
    (f.program a bs).read x =
      if a ≤ x ∧ x < a + bs.length then f.read x &&& bs.getD (x - a) 0#8 else f.read x := by
  induction bs generalizing f a with
  | nil =>
    rw [Flash.program, if_neg]
    simp
  | cons b bs ih =>
    rw [Flash.program, ih _ _ (f.write_wf _ _ h), f.read_write _ _ _ h]
    by_cases hx : x = a
    · subst hx
      rw [if_neg (by omega), if_pos rfl, if_pos (by simp)]
      simp
    · rw [if_neg hx]
      by_cases hr : a + 1 ≤ x ∧ x < a + 1 + bs.length
      · rw [if_pos hr, if_pos (by simp; omega)]
        have hs : x - a = (x - (a + 1)) + 1 := by omega
        rw [hs, List.getD_cons_succ]
      · rw [if_neg hr, if_neg (by simp; omega)]

/-- Erasing makes the bytes of the run 0xFF and leaves every other byte as it was (R140). -/
theorem Flash.read_erase (f : Flash) (a n x : Nat) :
    (f.erase a n).read x = if a ≤ x ∧ x < a + n then 0xFF#8 else f.read x := by
  unfold Flash.erase Flash.read
  induction f.cells with
  | nil => simp [cellsRead]
  | cons c t ih =>
    obtain ⟨k, d⟩ := c
    by_cases hk : a ≤ k ∧ k < a + n
    · rw [List.filter_cons_of_neg (by simp; omega), ih]
      by_cases hx : x = k
      · subst hx
        rw [if_pos hk, if_pos hk]
      · by_cases hr : a ≤ x ∧ x < a + n
        · rw [if_pos hr, if_pos hr]
        · rw [if_neg hr, if_neg hr, cellsRead, if_neg hx]
    · rw [List.filter_cons_of_pos (by simp; omega), cellsRead]
      by_cases hx : x = k
      · subst hx
        rw [if_pos rfl, if_neg hk, cellsRead, if_pos rfl]
      · rw [if_neg hx, ih, cellsRead, if_neg hx]

end Sys2Proof.Machine
end

