-- ==== Sys2Proof/Laws/Frames.lean ====
section
/-! SUPPORT. What the shared operations leave unchanged: one lemma per operation, to be cited in place of unfolding it. -/

namespace Sys2Proof

open Sys2Proof.Machine

/-! ### `Untouched` is a preorder -/

theorem Untouched.refl (v : Vks) : Untouched v v := by constructor <;> rfl

theorem Untouched.trans {a b c : Vks} (h : Untouched a b) (k : Untouched b c) : Untouched a c := by
  obtain ⟨⟩ := h
  obtain ⟨⟩ := k
  constructor <;> simp only [*]

/-! ### Notices, voices and queues -/

theorem raiseNotice_untouched (n : Notice) (v : Vks) : Untouched (raiseNotice n v) v := by
  unfold raiseNotice
  split <;> constructor <;> rfl

theorem setVoice_untouched (i : VoiceId) (w : Voice) (v : Vks) : Untouched (setVoice i w v) v := by
  cases i <;> constructor <;> rfl

theorem setQueue_untouched (q : List Utterance) (v : Vks) : Untouched (setQueue q v) v := by constructor <;> rfl

theorem setEchoLine_untouched (u : Option Utterance) (v : Vks) : Untouched (setEchoLine u v) v := by constructor <;> rfl

theorem idleVoice_untouched (i : VoiceId) (v : Vks) : Untouched (idleVoice i v) v := by
  cases i <;> constructor <;> rfl

theorem replaceSegment_untouched (i : VoiceId) (s c : Nat) (v : Vks) : Untouched (replaceSegment i s c v) v :=
  (raiseNotice_untouched _ _).trans (setVoice_untouched _ _ _)

theorem readStage_untouched (i : VoiceId) (v : Vks) : Untouched (readStage i v).1 v := by
  unfold readStage
  simp only
  repeat' split
  all_goals first
    | exact Untouched.refl v
    | exact setVoice_untouched _ _ _
    | exact replaceSegment_untouched _ _ _ _

theorem readStages_untouched (n : Nat) (i : VoiceId) (v : Vks) : Untouched (readStages n i v) v := by
  induction n generalizing v with
  | zero => exact Untouched.refl v
  | succ n ih =>
    have h := readStage_untouched i v
    unfold readStages
    split <;> rename_i heq <;> rw [heq] at h
    · exact (ih _).trans h
    · exact h

theorem readAhead_untouched (i : VoiceId) (v : Vks) : Untouched (readAhead i v) v := readStages_untouched 82 i v

theorem startRead_untouched (v : Vks) : Untouched (startRead v) v := by
  unfold startRead
  repeat' split
  all_goals constructor <;> rfl

/-! ### The playout buffer and the amplifier -/

theorem startPlayout_untouched (v : Vks) : Untouched (startPlayout v) v := by
  unfold startPlayout
  split <;> constructor <;> rfl

theorem stopPlayout_untouched (v : Vks) : Untouched (stopPlayout v) v := by constructor <;> rfl

theorem lowCompare_untouched (v : Vks) : Untouched (lowCompare v) v := by
  unfold lowCompare
  repeat' split
  · refine (raiseNotice_untouched _ _).trans ?_
    constructor <;> rfl
  · exact Untouched.refl v
  · constructor <;> rfl

theorem becomePlaying_untouched (i : VoiceId) (v : Vks) : Untouched (becomePlaying i v) v :=
  (readAhead_untouched i _).trans (setVoice_untouched _ _ _)

theorem releaseVoice_untouched (i : VoiceId) (v : Vks) : Untouched (releaseVoice i v) v := by
  unfold releaseVoice
  split
  · exact becomePlaying_untouched i v
  · exact Untouched.refl v

theorem ampBecomesOn_untouched (v : Vks) : Untouched (ampBecomesOn v) v := by
  unfold ampBecomesOn
  refine (startPlayout_untouched _).trans ((releaseVoice_untouched _ _).trans ((releaseVoice_untouched _ _).trans ?_))
  constructor <;> rfl

theorem askAmp_untouched (v : Vks) : Untouched (askAmp v) v := by
  unfold askAmp
  repeat' split
  · exact ampBecomesOn_untouched v
  · constructor <;> rfl
  · exact Untouched.refl v

theorem testPlayout_untouched (v : Vks) : Untouched (testPlayout v) v := by
  unfold testPlayout
  repeat' split
  · exact startPlayout_untouched v
  · exact askAmp_untouched v
  · exact Untouched.refl v
  · exact Untouched.refl v

theorem ampGoesOff_untouched (v : Vks) : Untouched (ampGoesOff v) v := by constructor <;> rfl

theorem startVoice_untouched (i : VoiceId) (u : Utterance) (v : Vks) : Untouched (startVoice i u v) v := by
  unfold startVoice
  simp only
  split
  · exact (becomePlaying_untouched _ _).trans (setVoice_untouched _ _ _)
  · exact (askAmp_untouched _).trans (setVoice_untouched _ _ _)

theorem startMainHead_untouched (v : Vks) : Untouched (startMainHead v) v := by
  unfold startMainHead
  repeat' split
  · exact (startVoice_untouched _ _ _).trans (setQueue_untouched _ _)
  · exact Untouched.refl v
  · exact Untouched.refl v

theorem startEchoHead_untouched (v : Vks) : Untouched (startEchoHead v) v := by
  unfold startEchoHead
  repeat' split
  · exact (startVoice_untouched _ _ _).trans (setEchoLine_untouched _ _)
  all_goals exact Untouched.refl v

theorem startHeads_untouched (v : Vks) : Untouched (startHeads v) v :=
  (startEchoHead_untouched _).trans (startMainHead_untouched v)

/-! ### The end of an event -/

theorem settleReads_untouched (v : Vks) : Untouched (settleReads v) v :=
  (startRead_untouched _).trans ((readAhead_untouched _ _).trans (readAhead_untouched _ _))

theorem settleInactivity_untouched (v : Vks) : Untouched (settleInactivity v) v := by constructor <;> rfl

theorem dropAttn_untouched (v : Vks) : Untouched (dropAttn v) v := by
  unfold dropAttn
  split <;> constructor <;> rfl

theorem settleAttn_untouched (v : Vks) : Untouched (settleAttn v) v := by
  unfold settleAttn
  repeat' split
  · exact Untouched.refl v
  · constructor <;> rfl
  · exact Untouched.refl v
  · exact dropAttn_untouched v

theorem settleLamps_untouched (v : Vks) : Untouched (settleLamps v) v := by constructor <;> rfl

theorem settleSleepTimer_untouched (v : Vks) : Untouched (settleSleepTimer v) v := by constructor <;> rfl

theorem restartSleepTimer_untouched (v : Vks) : Untouched (restartSleepTimer v) v := by constructor <;> rfl

theorem settle_untouched (v : Vks) : Untouched (settle v) v :=
  (settleSleepTimer_untouched _).trans ((settleLamps_untouched _).trans ((settleAttn_untouched _).trans
    ((settleInactivity_untouched _).trans ((settleReads_untouched _).trans (startHeads_untouched v)))))

/-! ### The Attempt Controller -/

theorem OutsideAttempt.refl (v : Vks) : OutsideAttempt v v := by constructor <;> rfl

theorem OutsideAttempt.trans {a b c : Vks} (h : OutsideAttempt a b) (k : OutsideAttempt b c) : OutsideAttempt a c := by
  obtain ⟨⟩ := h
  obtain ⟨⟩ := k
  constructor <;> simp only [*]

theorem Untouched.outside {a b : Vks} (h : Untouched a b) : OutsideAttempt a b := by
  obtain ⟨⟩ := h
  constructor <;> assumption

theorem setContext_outside (c : Context) (v : Vks) : OutsideAttempt (setContext c v) v := by constructor <;> rfl

theorem stopInactivity_outside (v : Vks) : OutsideAttempt (stopInactivity v) v := by constructor <;> rfl

theorem setAttemptState_outside (st : AttemptState) (v : Vks) : OutsideAttempt (setAttemptState st v) v := by
  constructor <;> rfl

theorem setAwaited_outside (a : Option (AwaitKind × Nat)) (v : Vks) : OutsideAttempt (setAwaited a v) v := by
  constructor <;> rfl

theorem rearm_outside (v : Vks) : OutsideAttempt (rearm v) v := by constructor <;> rfl

theorem startCorrect_outside (v : Vks) : OutsideAttempt (startCorrect v) v := by constructor <;> rfl

theorem startWrong_outside (v : Vks) : OutsideAttempt (startWrong v) v := by constructor <;> rfl

theorem stopGap_outside (v : Vks) : OutsideAttempt (stopGap v) v := by constructor <;> rfl

theorem forget_outside (id : Nat) (v : Vks) : OutsideAttempt (forget id v) v := by constructor <;> rfl

theorem remember_outside (id : Nat) (v : Vks) : OutsideAttempt (remember id v) v := by constructor <;> rfl

theorem makeUtterance_outside (s : Source) (tag : Byte) (items : List Item) (v : Vks) :
    OutsideAttempt (makeUtterance s tag items v).2 v := by constructor <;> rfl

theorem placeEngine_outside (u : Utterance) (v : Vks) : OutsideAttempt (placeEngine u v).1 v := by
  unfold placeEngine
  repeat' split
  · exact (startVoice_untouched _ _ _).outside
  · exact (setQueue_untouched _ _).outside
  · exact ((setQueue_untouched _ _).trans (raiseNotice_untouched _ _)).outside
  · exact OutsideAttempt.refl v

theorem cutPlayingEcho_outside (v : Vks) : OutsideAttempt (cutPlayingEcho v) v := by
  unfold cutPlayingEcho
  split
  · exact (forget_outside _ _).trans (idleVoice_untouched _ _).outside
  · exact (idleVoice_untouched _ _).outside

theorem dropWaitingEcho_outside (v : Vks) : OutsideAttempt (dropWaitingEcho v) v := by
  unfold dropWaitingEcho
  split
  · exact (setEchoLine_untouched _ _).outside.trans (forget_outside _ _)
  · exact OutsideAttempt.refl v

theorem placeEcho_outside (u : Utterance) (v : Vks) : OutsideAttempt (placeEcho u v) v := by
  have h := dropWaitingEcho_outside v
  unfold placeEcho
  simp only
  repeat' split
  · exact (startVoice_untouched _ _ _).outside.trans h
  · exact (setEchoLine_untouched _ _).outside.trans h
  · exact (startVoice_untouched _ _ _).outside.trans ((cutPlayingEcho_outside _).trans h)
  · exact (setEchoLine_untouched _ _).outside.trans h
  · exact (setEchoLine_untouched _ _).outside.trans h

theorem takeOverEcho_outside (r : Bool) (v : Vks) : OutsideAttempt (takeOverEcho r v) v := by
  unfold takeOverEcho
  repeat' split
  · exact (startVoice_untouched _ _ _).outside.trans
      ((setEchoLine_untouched _ _).outside.trans (cutPlayingEcho_outside v))
  all_goals exact OutsideAttempt.refl v

theorem cutNamed_outside (ids : List Nat) (v : Vks) : OutsideAttempt (cutNamed ids v) v := by
  unfold cutNamed
  simp only
  split
  · exact ((idleVoice_untouched _ _).trans (setQueue_untouched _ _)).outside
  · exact (setQueue_untouched _ _).outside

theorem requestEngine_outside (s : Source) (ps : List Part) (x : Expansion) (v : Vks) :
    OutsideAttempt (requestEngine s ps x v).1 v := by
  have h0 := stopInactivity_outside v
  unfold requestEngine
  simp only
  repeat' split
  · exact h0
  · exact (forget_outside _ _).trans ((placeEngine_outside _ _).trans ((remember_outside _ _).trans
      ((makeUtterance_outside _ _ _ _).trans h0)))
  · exact (placeEngine_outside _ _).trans ((remember_outside _ _).trans ((makeUtterance_outside _ _ _ _).trans h0))

theorem requestEcho_outside (item : Item) (v : Vks) : OutsideAttempt (requestEcho item v) v :=
  (placeEcho_outside _ _).trans ((remember_outside _ _).trans
    ((makeUtterance_outside _ _ _ _).trans (stopInactivity_outside v)))

theorem letterEcho_outside (st : EchoStyle) (c : Nat) (v : Vks) : OutsideAttempt (letterEcho st c v) v := by
  cases st
  · exact requestEcho_outside _ _
  · exact requestEcho_outside _ _
  · exact OutsideAttempt.refl v

theorem requestPrompt_outside (v : Vks) : OutsideAttempt (requestPrompt v).1 v :=
  (setAwaited_outside _ _).trans ((setAttemptState_outside _ _).trans (requestEngine_outside _ _ _ v))

theorem beginPrompting_outside (v : Vks) : OutsideAttempt (beginPrompting v) v := by
  have h := (raiseNotice_untouched (openedNotice (requestPrompt v).1.attempt.ctx) _).outside.trans
    (requestPrompt_outside v)
  unfold beginPrompting
  simp only
  split
  · exact (setAttemptState_outside _ _).trans h
  · exact h

theorem openAttempt_outside (w : Nat) (o : Origin) (m : Option CheckMode) (v : Vks) :
    OutsideAttempt (openAttempt w o m v) v := by
  unfold openAttempt
  split
  · exact (beginPrompting_outside _).trans ((setContext_outside _ _).trans (stopGap_outside v))
  · exact OutsideAttempt.refl v

theorem lessonWalk_outside (v : Vks) : OutsideAttempt (lessonWalk v) v := by
  unfold lessonWalk
  split
  · refine (openAttempt_outside _ _ _ _).trans ?_
    constructor <;> rfl
  · refine (raiseNotice_untouched _ _).outside.trans ((setAttemptState_outside _ _).trans ?_)
    constructor <;> rfl

theorem closingEnded_outside (v : Vks) : OutsideAttempt (closingEnded v) v := by
  unfold closingEnded
  simp only
  repeat' split
  · exact (lessonWalk_outside _).trans ((setAttemptState_outside _ _).trans (setContext_outside _ v))
  · constructor <;> rfl
  · exact (setAttemptState_outside _ _).trans (setContext_outside _ v)

theorem tryEnded_outside (v : Vks) : OutsideAttempt (tryEnded v) v := by constructor <;> rfl

theorem awaitedStep_outside (k : AwaitKind) (v : Vks) : OutsideAttempt (awaitedStep k v) v := by
  cases k
  · exact setAttemptState_outside _ _
  · exact tryEnded_outside v
  · exact closingEnded_outside v

theorem endReport_outside (id : Nat) (v : Vks) : OutsideAttempt (endReport id v) v := by
  have h := forget_outside id v
  unfold endReport
  simp only
  repeat' split
  · exact (awaitedStep_outside _ _).trans ((setAwaited_outside _ _).trans h)
  · exact h
  · exact h
  · exact OutsideAttempt.refl v

theorem reportEnd_outside (o : UttOutcome) (v : Vks) (u : Utterance) : OutsideAttempt (reportEnd o v u) v := by
  unfold reportEnd
  split
  · exact (raiseNotice_untouched _ _).outside
  · exact endReport_outside _ _

theorem reportEnds_outside (o : UttOutcome) (us : List Utterance) (v : Vks) : OutsideAttempt (reportEnds o us v) v := by
  unfold reportEnds
  induction us generalizing v with
  | nil => exact OutsideAttempt.refl v
  | cons u us ih => exact (ih _).trans (reportEnd_outside o v u)

theorem stopVoices_untouched (v : Vks) : Untouched (stopVoices v).2 v :=
  (idleVoice_untouched _ _).trans (idleVoice_untouched _ _)

theorem countClose_outside (w : Nat) (d : Verdict) (c : CloseClass) (o : Origin) (v : Vks) :
    OutsideAttempt (countClose w d c o v) v := by
  unfold countClose
  extract_lets old r l v1 v2 l2
  have h1 : OutsideAttempt v1 v := by constructor <;> rfl
  have h2 : OutsideAttempt v2 v := by
    unfold v2
    split
    · exact h1
    · exact (raiseNotice_untouched _ _).outside.trans h1
  refine OutsideAttempt.trans ?_ h2
  constructor <;> rfl

theorem closeAttempt_outside (d : Verdict) (p : Nat) (v : Vks) : OutsideAttempt (closeAttempt d p v) v := by
  unfold closeAttempt
  extract_lets cls c v1 r v2 v3 v4 v5 v6
  have h1 : OutsideAttempt v1 v := setContext_outside _ _
  have h2 : OutsideAttempt v2 v := (setAwaited_outside _ _).trans ((requestEngine_outside _ _ _ v1).trans h1)
  have h3 : OutsideAttempt v3 v := (raiseNotice_untouched _ v2).outside.trans h2
  have h4 : OutsideAttempt v4 v := (countClose_outside _ _ _ _ v3).trans h3
  have h5 : OutsideAttempt v5 v := (setAttemptState_outside _ v4).trans h4
  have h6 : OutsideAttempt v6 v := by
    unfold v6
    split
    · exact (startCorrect_outside _).trans h5
    · exact (startWrong_outside _).trans h5
  split
  · exact (closingEnded_outside _).trans h6
  · exact h6

theorem failTry_outside (d : Verdict) (p : Nat) (v : Vks) : OutsideAttempt (failTry d p v) v := by
  unfold failTry
  simp only
  split
  · exact (tryEnded_outside _).trans ((setAttemptState_outside _ _).trans ((startWrong_outside _).trans
      ((raiseNotice_untouched _ _).outside.trans ((setAwaited_outside _ _).trans (requestEngine_outside _ _ _ _)))))
  · exact (setAttemptState_outside _ _).trans ((startWrong_outside _).trans
      ((raiseNotice_untouched _ _).outside.trans ((setAwaited_outside _ _).trans (requestEngine_outside _ _ _ _))))

theorem endTry_outside (d : Verdict) (p : Nat) (v : Vks) : OutsideAttempt (endTry d p v) v := by
  unfold endTry
  simp only
  split
  · exact (failTry_outside _ _ _).trans (setContext_outside _ v)
  · exact (closeAttempt_outside _ _ _).trans (setContext_outside _ v)

theorem enterMatch_outside (st : EchoStyle) (c : Nat) (v : Vks) : OutsideAttempt (enterMatch st c v) v := by
  unfold enterMatch
  simp only
  split
  · exact (closeAttempt_outside _ _ _).trans ((letterEcho_outside _ _ _).trans (setContext_outside _ v))
  · exact (letterEcho_outside _ _ _).trans (setContext_outside _ v)

theorem enterMistake_outside (v : Vks) : OutsideAttempt (enterMistake v) v := by
  unfold enterMistake
  simp only
  split
  · exact (requestEngine_outside _ _ _ _).trans ((startWrong_outside _).trans (setContext_outside _ v))
  · exact (closeAttempt_outside _ _ _).trans ((startWrong_outside _).trans (setContext_outside _ v))

theorem takeLetter_outside (c : Nat) (v : Vks) : OutsideAttempt (takeLetter c v).1 v := by
  have h := rearm_outside v
  unfold takeLetter
  simp only
  repeat' split
  · exact (enterMatch_outside _ _ _).trans h
  · exact (enterMistake_outside _).trans h
  · exact (letterEcho_outside _ _ _).trans ((setContext_outside _ _).trans h)
  · exact (requestEcho_outside _ _).trans h

theorem takeErase_outside (v : Vks) : OutsideAttempt (takeErase v).1 v := by
  unfold takeErase
  split
  · exact (requestEcho_outside _ _).trans ((setContext_outside _ _).trans (rearm_outside v))
  · exact OutsideAttempt.refl v

theorem takeSubmit_outside (v : Vks) : OutsideAttempt (takeSubmit v).1 v := by
  unfold takeSubmit
  split
  · exact (endTry_outside _ _ _).trans (rearm_outside v)
  · exact OutsideAttempt.refl v

theorem takeRepeat_outside (v : Vks) : OutsideAttempt (takeRepeat v).1 v := by
  have h := (requestPrompt_outside _).trans (rearm_outside v)
  unfold takeRepeat
  simp only
  split
  · exact (setAttemptState_outside _ _).trans h
  · exact h

theorem takeHint_outside (v : Vks) : OutsideAttempt (takeHint v).1 v := by
  have h := rearm_outside v
  unfold takeHint
  simp only
  repeat' split
  · exact (enterMatch_outside _ _ _).trans ((setContext_outside _ _).trans h)
  · exact (setContext_outside _ _).trans h
  · exact (requestEngine_outside _ _ _ _).trans ((setContext_outside _ _).trans h)
  · exact (requestEcho_outside _ _).trans ((setContext_outside _ _).trans h)
  · exact (enterMatch_outside _ _ _).trans ((setContext_outside _ _).trans h)
  · exact (setContext_outside _ _).trans h
  · exact (requestEngine_outside _ _ _ _).trans ((setContext_outside _ _).trans h)
  · exact (requestEcho_outside _ _).trans ((setContext_outside _ _).trans h)

theorem bargeIn_outside (v : Vks) : OutsideAttempt (bargeIn v) v := by
  unfold bargeIn
  split
  · exact (startHeads_untouched _).outside.trans ((forget_outside _ _).trans ((cutNamed_outside _ _).trans
      ((setAttemptState_outside _ _).trans (setAwaited_outside _ v))))
  · exact setAttemptState_outside _ v

theorem handlePress_outside (cls : KeyClass) (c : Nat) (v : Vks) : OutsideAttempt (handlePress cls c v).1 v := by
  unfold handlePress
  repeat' split
  · exact (takeLetter_outside _ _).trans (bargeIn_outside v)
  · exact OutsideAttempt.refl v
  · exact takeLetter_outside _ _
  · exact takeErase_outside v
  · exact takeSubmit_outside v
  · exact takeHint_outside v
  · exact takeRepeat_outside v
  all_goals exact OutsideAttempt.refl v

theorem inactivityExpires_outside (v : Vks) : OutsideAttempt (inactivityExpires v) v := by
  unfold inactivityExpires
  simp only
  split
  · exact closeAttempt_outside _ _ _
  · exact (requestEngine_outside _ _ _ _).trans (setContext_outside _ v)

/-! ### Changes taken whole, the wake and the standby -/

theorem takeWhole_untouched (take : Vks → Nat → Vks) (v : Vks) (p : Nat) : Untouched (takeWhole take v p) (take v p) :=
  settle_untouched _

/-- What a wake can do: the part is ACTIVE with a new clip window and I2S frames of 0, and the rest is `Untouched`. -/
theorem wake_untouched (cause : Nat) (v : Vks) :
    Untouched (wake cause v) { v with
      power := { v.power with asleep := false }
      mixer := { v.mixer with clipCurrent := false, clipLast := false, windowCount := 0, i2s := I2s.frame 0 } } := by
  have h := raiseNotice_untouched (.wake cause)
    { v with power := { v.power with asleep := false }, mixer := { v.mixer with i2s := I2s.frame 0 } }
  refine (testPlayout_untouched _).trans ((restartSleepTimer_untouched _).trans ?_)
  obtain ⟨⟩ := h
  constructor <;> simp only [newClipWindow, *]

/-- What the standby row can do: it is the output instant where that instant reaches the limit, and nothing elsewhere. -/
theorem standbyExpiry_cases (v : Vks) :
    (standbyDue v = true ∧ standbyExpiry v = outputInstant v) ∨ (standbyDue v = false ∧ standbyExpiry v = v) := by
  unfold standbyExpiry
  cases standbyDue v <;> simp

end Sys2Proof
end

