-- ==== Sys2Proof/Laws/PerInstr.lean ====
section
/-! SUPPORT. Statements made per command. `SlotForm`: a well-formed slot command is written as exactly 64 bytes (R164). -/

namespace Sys2Proof.Laws

open Sys2Proof.Machine

/-- A well-formed slot command is written as 64 bytes; a command that is no slot is not written. -/
def SlotForm.Statement (i : Instr) : Prop := i.wf = true → ∀ bs, encodeSlot i = some bs → bs.length = 64

theorem controlSlot_length (code tag : Byte) (arg : List Byte) (h : Instr.argFits arg = true) :
    (controlSlot code tag arg).length = 64 := by
  simp only [Instr.argFits, decide_eq_true_eq] at h
  simp [controlSlot, withCheck_length, padTo_length 58 arg h]

/-- A request's slot has 64 bytes. -/
theorem slotForm_of_parts (i : Instr) (code tag : Byte) (arg : List Byte)
    (he : encodeSlot i = some (controlSlot code tag arg)) (hf : i.wf = true → Instr.argFits arg = true) :
    SlotForm.Statement i := by
  intro hw bs hb
  rw [he] at hb
  cases hb
  exact controlSlot_length code tag arg (hf hw)

theorem selects_fits (n : Nat) (arg : List Byte) (h : Instr.selects n arg = true) : Instr.argFits arg = true := by
  simp only [Instr.selects, Bool.and_eq_true, decide_eq_true_eq] at h
  simp only [Instr.argFits, decide_eq_true_eq]
  omega

theorem samples_length (samples : List Sample) :
    (samples.flatMap (fun x => leBytes 2 x.toNat)).length = 2 * samples.length := by
  induction samples with
  | nil => rfl
  | cons x t ih =>
    rw [List.flatMap_cons, List.length_append, ih, leBytes_length, List.length_cons]
    omega

theorem SlotForm.powerOnReset : SlotForm.Statement (.powerOnReset) :=
  fun _ _ hb => nomatch hb

theorem SlotForm.transactionBegin : SlotForm.Statement (.transactionBegin) :=
  fun _ _ hb => nomatch hb

theorem SlotForm.transactionEnd (bytes : List Byte) : SlotForm.Statement (.transactionEnd bytes) :=
  fun _ _ hb => nomatch hb

theorem SlotForm.idleSlot : SlotForm.Statement (.idleSlot) := by
  intro _ bs hb
  cases hb
  decide

theorem SlotForm.audioSlot (last : Bool) (samples : List Sample) : SlotForm.Statement (.audioSlot last samples) := by
  intro hw bs hb
  cases hb
  simp only [Instr.wf, Instr.samplesFit, decide_eq_true_eq] at hw
  simp only [audioBytes, withCheck_length, List.length_append, List.length_cons, List.length_nil]
  rw [padTo_length 58 _ (by rw [samples_length]; omega)]

theorem SlotForm.badCommand (code tag : Byte) (arg : List Byte) : SlotForm.Statement (.badCommand code tag arg) :=
  slotForm_of_parts _ _ _ arg rfl (fun h => by simp only [Instr.wf, Bool.and_eq_true] at h; exact h.2)

theorem SlotForm.identify (tag : Byte) (arg : List Byte) : SlotForm.Statement (.identify tag arg) :=
  slotForm_of_parts _ _ _ arg rfl (fun h => h)

theorem SlotForm.reset (tag : Byte) (arg : List Byte) : SlotForm.Statement (.reset tag arg) :=
  slotForm_of_parts _ _ _ arg rfl (fun h => h)

theorem SlotForm.streamRestart (tag : Byte) (arg : List Byte) : SlotForm.Statement (.streamRestart tag arg) :=
  slotForm_of_parts _ _ _ arg rfl (fun h => h)

theorem SlotForm.sleep (tag : Byte) (arg : List Byte) : SlotForm.Statement (.sleep tag arg) :=
  slotForm_of_parts _ _ _ arg rfl (fun h => h)

theorem SlotForm.set (tag : Byte) (arg : List Byte) : SlotForm.Statement (.set tag arg) :=
  slotForm_of_parts _ _ _ arg rfl (fun h => h)

theorem SlotForm.get (tag : Byte) (arg : List Byte) : SlotForm.Statement (.get tag arg) :=
  slotForm_of_parts _ _ _ arg rfl (fun h => h)

theorem SlotForm.clearFlags (tag : Byte) (arg : List Byte) : SlotForm.Statement (.clearFlags tag arg) :=
  slotForm_of_parts _ _ _ arg rfl (fun h => h)

theorem SlotForm.wordPut (tag : Byte) (arg : List Byte) : SlotForm.Statement (.wordPut tag arg) :=
  slotForm_of_parts _ _ _ arg rfl (fun h => h)

theorem SlotForm.wordSounds (tag : Byte) (arg : List Byte) : SlotForm.Statement (.wordSounds tag arg) :=
  slotForm_of_parts _ _ _ arg rfl (fun h => h)

theorem SlotForm.wordDrop (tag : Byte) (arg : List Byte) : SlotForm.Statement (.wordDrop tag arg) :=
  slotForm_of_parts _ _ _ arg rfl (fun h => h)

theorem SlotForm.wordGet (tag : Byte) (arg : List Byte) : SlotForm.Statement (.wordGet tag arg) :=
  slotForm_of_parts _ _ _ arg rfl (fun h => h)

theorem SlotForm.alphabetPut (tag : Byte) (arg : List Byte) : SlotForm.Statement (.alphabetPut tag arg) :=
  slotForm_of_parts _ _ _ arg rfl (fun h => h)

theorem SlotForm.tableGetAlphabet (tag : Byte) (arg : List Byte) : SlotForm.Statement (.tableGetAlphabet tag arg) :=
  slotForm_of_parts _ _ _ arg rfl (fun h => by simp only [Instr.wf, Bool.and_eq_true] at h; exact h.1.1)

theorem SlotForm.tableGetKeymap (tag : Byte) (arg : List Byte) : SlotForm.Statement (.tableGetKeymap tag arg) :=
  slotForm_of_parts _ _ _ arg rfl (fun h => selects_fits _ arg h)

theorem SlotForm.tableGetResponses (tag : Byte) (arg : List Byte) : SlotForm.Statement (.tableGetResponses tag arg) :=
  slotForm_of_parts _ _ _ arg rfl (fun h => selects_fits _ arg h)

theorem SlotForm.keymapPut (tag : Byte) (arg : List Byte) : SlotForm.Statement (.keymapPut tag arg) :=
  slotForm_of_parts _ _ _ arg rfl (fun h => h)

theorem SlotForm.responsePut (tag : Byte) (arg : List Byte) : SlotForm.Statement (.responsePut tag arg) :=
  slotForm_of_parts _ _ _ arg rfl (fun h => h)

theorem SlotForm.attemptOpen (tag : Byte) (arg : List Byte) : SlotForm.Statement (.attemptOpen tag arg) :=
  slotForm_of_parts _ _ _ arg rfl (fun h => h)

theorem SlotForm.attemptCancel (tag : Byte) (arg : List Byte) : SlotForm.Statement (.attemptCancel tag arg) :=
  slotForm_of_parts _ _ _ arg rfl (fun h => h)

theorem SlotForm.attemptShelve (tag : Byte) (arg : List Byte) : SlotForm.Statement (.attemptShelve tag arg) :=
  slotForm_of_parts _ _ _ arg rfl (fun h => h)

theorem SlotForm.attemptUnshelve (tag : Byte) (arg : List Byte) : SlotForm.Statement (.attemptUnshelve tag arg) :=
  slotForm_of_parts _ _ _ arg rfl (fun h => h)

theorem SlotForm.attemptGet (tag : Byte) (arg : List Byte) : SlotForm.Statement (.attemptGet tag arg) :=
  slotForm_of_parts _ _ _ arg rfl (fun h => h)

theorem SlotForm.lessonAdd (tag : Byte) (arg : List Byte) : SlotForm.Statement (.lessonAdd tag arg) :=
  slotForm_of_parts _ _ _ arg rfl (fun h => h)

theorem SlotForm.lessonClear (tag : Byte) (arg : List Byte) : SlotForm.Statement (.lessonClear tag arg) :=
  slotForm_of_parts _ _ _ arg rfl (fun h => h)

theorem SlotForm.lessonFromReview (tag : Byte) (arg : List Byte) : SlotForm.Statement (.lessonFromReview tag arg) :=
  slotForm_of_parts _ _ _ arg rfl (fun h => h)

theorem SlotForm.lessonStart (tag : Byte) (arg : List Byte) : SlotForm.Statement (.lessonStart tag arg) :=
  slotForm_of_parts _ _ _ arg rfl (fun h => h)

theorem SlotForm.lessonStop (tag : Byte) (arg : List Byte) : SlotForm.Statement (.lessonStop tag arg) :=
  slotForm_of_parts _ _ _ arg rfl (fun h => h)

theorem SlotForm.lessonGet (tag : Byte) (arg : List Byte) : SlotForm.Statement (.lessonGet tag arg) :=
  slotForm_of_parts _ _ _ arg rfl (fun h => h)

theorem SlotForm.progressGet (tag : Byte) (arg : List Byte) : SlotForm.Statement (.progressGet tag arg) :=
  slotForm_of_parts _ _ _ arg rfl (fun h => h)

theorem SlotForm.progressPut (tag : Byte) (arg : List Byte) : SlotForm.Statement (.progressPut tag arg) :=
  slotForm_of_parts _ _ _ arg rfl (fun h => h)

theorem SlotForm.progressClear (tag : Byte) (arg : List Byte) : SlotForm.Statement (.progressClear tag arg) :=
  slotForm_of_parts _ _ _ arg rfl (fun h => h)

theorem SlotForm.reviewGet (tag : Byte) (arg : List Byte) : SlotForm.Statement (.reviewGet tag arg) :=
  slotForm_of_parts _ _ _ arg rfl (fun h => h)

theorem SlotForm.reviewClear (tag : Byte) (arg : List Byte) : SlotForm.Statement (.reviewClear tag arg) :=
  slotForm_of_parts _ _ _ arg rfl (fun h => h)

theorem SlotForm.say (tag : Byte) (arg : List Byte) : SlotForm.Statement (.say tag arg) :=
  slotForm_of_parts _ _ _ arg rfl (fun h => h)

theorem SlotForm.silence (tag : Byte) (arg : List Byte) : SlotForm.Statement (.silence tag arg) :=
  slotForm_of_parts _ _ _ arg rfl (fun h => h)

theorem SlotForm.queueGet (tag : Byte) (arg : List Byte) : SlotForm.Statement (.queueGet tag arg) :=
  slotForm_of_parts _ _ _ arg rfl (fun h => h)

theorem SlotForm.storeClaim (tag : Byte) (arg : List Byte) : SlotForm.Statement (.storeClaim tag arg) :=
  slotForm_of_parts _ _ _ arg rfl (fun h => h)

theorem SlotForm.storeRelease (tag : Byte) (arg : List Byte) : SlotForm.Statement (.storeRelease tag arg) :=
  slotForm_of_parts _ _ _ arg rfl (fun h => h)

theorem SlotForm.storeWrite (tag : Byte) (arg : List Byte) : SlotForm.Statement (.storeWrite tag arg) :=
  slotForm_of_parts _ _ _ arg rfl (fun h => h)

theorem SlotForm.storeErase (tag : Byte) (arg : List Byte) : SlotForm.Statement (.storeErase tag arg) :=
  slotForm_of_parts _ _ _ arg rfl (fun h => h)

theorem SlotForm.storeRead (tag : Byte) (arg : List Byte) : SlotForm.Statement (.storeRead tag arg) :=
  slotForm_of_parts _ _ _ arg rfl (fun h => h)

theorem SlotForm.storeFetch (tag : Byte) (arg : List Byte) : SlotForm.Statement (.storeFetch tag arg) :=
  slotForm_of_parts _ _ _ arg rfl (fun h => h)

theorem SlotForm.faultGet (tag : Byte) (arg : List Byte) : SlotForm.Statement (.faultGet tag arg) :=
  slotForm_of_parts _ _ _ arg rfl (fun h => h)

theorem SlotForm.storeWriteEnd (present : Bool) (bad1 bad2 : Misread) : SlotForm.Statement (.storeWriteEnd present bad1 bad2) :=
  fun _ _ hb => nomatch hb

theorem SlotForm.storeEraseEnd (present : Bool) (bad1 bad2 : Misread) : SlotForm.Statement (.storeEraseEnd present bad1 bad2) :=
  fun _ _ hb => nomatch hb

theorem SlotForm.storeReadEnd (present : Bool) (bad : Misread) : SlotForm.Statement (.storeReadEnd present bad) :=
  fun _ _ hb => nomatch hb

theorem SlotForm.headerCheckEnd (present : Bool) (bad1 bad2 : Misread) : SlotForm.Statement (.headerCheckEnd present bad1 bad2) :=
  fun _ _ hb => nomatch hb

theorem SlotForm.directoryReadEnd (bad : Misread) : SlotForm.Statement (.directoryReadEnd bad) :=
  fun _ _ hb => nomatch hb

theorem SlotForm.blockReadEnd (bad1 bad2 : Misread) : SlotForm.Statement (.blockReadEnd bad1 bad2) :=
  fun _ _ hb => nomatch hb

theorem SlotForm.keyScan (raw : Matrix) : SlotForm.Statement (.keyScan raw) :=
  fun _ _ hb => nomatch hb

theorem SlotForm.sleepScan (raw : Matrix) : SlotForm.Statement (.sleepScan raw) :=
  fun _ _ hb => nomatch hb

theorem SlotForm.outputInstant : SlotForm.Statement (.outputInstant) :=
  fun _ _ hb => nomatch hb

theorem SlotForm.clipWindowEnd : SlotForm.Statement (.clipWindowEnd) :=
  fun _ _ hb => nomatch hb

theorem SlotForm.duckHoldEnd : SlotForm.Statement (.duckHoldEnd) :=
  fun _ _ hb => nomatch hb

theorem SlotForm.ampWarmupExpiry : SlotForm.Statement (.ampWarmupExpiry) :=
  fun _ _ hb => nomatch hb

theorem SlotForm.ampStandbyExpiry : SlotForm.Statement (.ampStandbyExpiry) :=
  fun _ _ hb => nomatch hb

theorem SlotForm.inactivityExpiry : SlotForm.Statement (.inactivityExpiry) :=
  fun _ _ hb => nomatch hb

theorem SlotForm.gapExpiry : SlotForm.Statement (.gapExpiry) :=
  fun _ _ hb => nomatch hb

theorem SlotForm.lampTimerExpiry (which : LampTimer) : SlotForm.Statement (.lampTimerExpiry which) :=
  fun _ _ hb => nomatch hb

theorem SlotForm.lampBlinkToggle (lamp : Fin 3) : SlotForm.Statement (.lampBlinkToggle lamp) :=
  fun _ _ hb => nomatch hb

theorem SlotForm.attnGapExpiry : SlotForm.Statement (.attnGapExpiry) :=
  fun _ _ hb => nomatch hb

theorem SlotForm.sleepTimerExpiry : SlotForm.Statement (.sleepTimerExpiry) :=
  fun _ _ hb => nomatch hb

end Sys2Proof.Laws
end

