-- ==== Sys2Proof/Laws/State.lean ====
section
/-! SUPPORT. What each plain update of the part does to each of its blocks, true by unfolding. -/

namespace Sys2Proof.Machine

/-! ### setReply -/

@[simp] theorem setReply_words (code tag : Byte) (a : Answer) (v : Vks) : (setReply code tag a v).words = v.words := rfl
@[simp] theorem setReply_attempt (code tag : Byte) (a : Answer) (v : Vks) : (setReply code tag a v).attempt = v.attempt := rfl
@[simp] theorem setReply_lesson (code tag : Byte) (a : Answer) (v : Vks) : (setReply code tag a v).lesson = v.lesson := rfl
@[simp] theorem setReply_keys (code tag : Byte) (a : Answer) (v : Vks) : (setReply code tag a v).keys = v.keys := rfl
@[simp] theorem setReply_sched (code tag : Byte) (a : Answer) (v : Vks) : (setReply code tag a v).sched = v.sched := rfl
@[simp] theorem setReply_reader (code tag : Byte) (a : Answer) (v : Vks) : (setReply code tag a v).reader = v.reader := rfl
@[simp] theorem setReply_mixer (code tag : Byte) (a : Answer) (v : Vks) : (setReply code tag a v).mixer = v.mixer := rfl
@[simp] theorem setReply_notices (code tag : Byte) (a : Answer) (v : Vks) : (setReply code tag a v).notices = v.notices := rfl
@[simp] theorem setReply_power (code tag : Byte) (a : Answer) (v : Vks) : (setReply code tag a v).power = v.power := rfl
@[simp] theorem setReply_params (code tag : Byte) (a : Answer) (v : Vks) : (setReply code tag a v).params = v.params := rfl

/-! ### setReplyNone -/

@[simp] theorem setReplyNone_words (v : Vks) : (setReplyNone v).words = v.words := rfl
@[simp] theorem setReplyNone_attempt (v : Vks) : (setReplyNone v).attempt = v.attempt := rfl
@[simp] theorem setReplyNone_lesson (v : Vks) : (setReplyNone v).lesson = v.lesson := rfl
@[simp] theorem setReplyNone_keys (v : Vks) : (setReplyNone v).keys = v.keys := rfl
@[simp] theorem setReplyNone_sched (v : Vks) : (setReplyNone v).sched = v.sched := rfl
@[simp] theorem setReplyNone_reader (v : Vks) : (setReplyNone v).reader = v.reader := rfl
@[simp] theorem setReplyNone_mixer (v : Vks) : (setReplyNone v).mixer = v.mixer := rfl
@[simp] theorem setReplyNone_notices (v : Vks) : (setReplyNone v).notices = v.notices := rfl
@[simp] theorem setReplyNone_power (v : Vks) : (setReplyNone v).power = v.power := rfl
@[simp] theorem setReplyNone_params (v : Vks) : (setReplyNone v).params = v.params := rfl

/-! ### discardSlot -/

@[simp] theorem discardSlot_words (cause : Nat) (v : Vks) : (discardSlot cause v).words = v.words := rfl
@[simp] theorem discardSlot_attempt (cause : Nat) (v : Vks) : (discardSlot cause v).attempt = v.attempt := rfl
@[simp] theorem discardSlot_lesson (cause : Nat) (v : Vks) : (discardSlot cause v).lesson = v.lesson := rfl
@[simp] theorem discardSlot_keys (cause : Nat) (v : Vks) : (discardSlot cause v).keys = v.keys := rfl
@[simp] theorem discardSlot_sched (cause : Nat) (v : Vks) : (discardSlot cause v).sched = v.sched := rfl
@[simp] theorem discardSlot_reader (cause : Nat) (v : Vks) : (discardSlot cause v).reader = v.reader := rfl
@[simp] theorem discardSlot_mixer (cause : Nat) (v : Vks) : (discardSlot cause v).mixer = v.mixer := rfl
@[simp] theorem discardSlot_notices (cause : Nat) (v : Vks) : (discardSlot cause v).notices = v.notices := rfl
@[simp] theorem discardSlot_power (cause : Nat) (v : Vks) : (discardSlot cause v).power = v.power := rfl
@[simp] theorem discardSlot_params (cause : Nat) (v : Vks) : (discardSlot cause v).params = v.params := rfl

/-! ### passTime -/

@[simp] theorem passTime_words (ms : Nat) (v : Vks) : (passTime ms v).words = v.words := rfl
@[simp] theorem passTime_sched (ms : Nat) (v : Vks) : (passTime ms v).sched = v.sched := rfl
@[simp] theorem passTime_reader (ms : Nat) (v : Vks) : (passTime ms v).reader = v.reader := rfl
@[simp] theorem passTime_mixer (ms : Nat) (v : Vks) : (passTime ms v).mixer = v.mixer := rfl
@[simp] theorem passTime_port (ms : Nat) (v : Vks) : (passTime ms v).port = v.port := rfl
@[simp] theorem passTime_params (ms : Nat) (v : Vks) : (passTime ms v).params = v.params := rfl

/-! ### setEntry -/

@[simp] theorem setEntry_attempt (w : Nat) (e : Option WordEntry) (v : Vks) : (setEntry w e v).attempt = v.attempt := rfl
@[simp] theorem setEntry_lesson (w : Nat) (e : Option WordEntry) (v : Vks) : (setEntry w e v).lesson = v.lesson := rfl
@[simp] theorem setEntry_keys (w : Nat) (e : Option WordEntry) (v : Vks) : (setEntry w e v).keys = v.keys := rfl
@[simp] theorem setEntry_sched (w : Nat) (e : Option WordEntry) (v : Vks) : (setEntry w e v).sched = v.sched := rfl
@[simp] theorem setEntry_reader (w : Nat) (e : Option WordEntry) (v : Vks) : (setEntry w e v).reader = v.reader := rfl
@[simp] theorem setEntry_mixer (w : Nat) (e : Option WordEntry) (v : Vks) : (setEntry w e v).mixer = v.mixer := rfl
@[simp] theorem setEntry_port (w : Nat) (e : Option WordEntry) (v : Vks) : (setEntry w e v).port = v.port := rfl
@[simp] theorem setEntry_notices (w : Nat) (e : Option WordEntry) (v : Vks) : (setEntry w e v).notices = v.notices := rfl
@[simp] theorem setEntry_power (w : Nat) (e : Option WordEntry) (v : Vks) : (setEntry w e v).power = v.power := rfl
@[simp] theorem setEntry_params (w : Nat) (e : Option WordEntry) (v : Vks) : (setEntry w e v).params = v.params := rfl

/-! ### clearProgress -/

@[simp] theorem clearProgress_words (w : Nat) (v : Vks) : (clearProgress w v).words = v.words := rfl
@[simp] theorem clearProgress_attempt (w : Nat) (v : Vks) : (clearProgress w v).attempt = v.attempt := rfl
@[simp] theorem clearProgress_keys (w : Nat) (v : Vks) : (clearProgress w v).keys = v.keys := rfl
@[simp] theorem clearProgress_sched (w : Nat) (v : Vks) : (clearProgress w v).sched = v.sched := rfl
@[simp] theorem clearProgress_reader (w : Nat) (v : Vks) : (clearProgress w v).reader = v.reader := rfl
@[simp] theorem clearProgress_mixer (w : Nat) (v : Vks) : (clearProgress w v).mixer = v.mixer := rfl
@[simp] theorem clearProgress_port (w : Nat) (v : Vks) : (clearProgress w v).port = v.port := rfl
@[simp] theorem clearProgress_notices (w : Nat) (v : Vks) : (clearProgress w v).notices = v.notices := rfl
@[simp] theorem clearProgress_power (w : Nat) (v : Vks) : (clearProgress w v).power = v.power := rfl
@[simp] theorem clearProgress_params (w : Nat) (v : Vks) : (clearProgress w v).params = v.params := rfl

/-! ### setQueue -/

@[simp] theorem setQueue_words (q : List Utterance) (v : Vks) : (setQueue q v).words = v.words := rfl
@[simp] theorem setQueue_attempt (q : List Utterance) (v : Vks) : (setQueue q v).attempt = v.attempt := rfl
@[simp] theorem setQueue_lesson (q : List Utterance) (v : Vks) : (setQueue q v).lesson = v.lesson := rfl
@[simp] theorem setQueue_keys (q : List Utterance) (v : Vks) : (setQueue q v).keys = v.keys := rfl
@[simp] theorem setQueue_reader (q : List Utterance) (v : Vks) : (setQueue q v).reader = v.reader := rfl
@[simp] theorem setQueue_mixer (q : List Utterance) (v : Vks) : (setQueue q v).mixer = v.mixer := rfl
@[simp] theorem setQueue_port (q : List Utterance) (v : Vks) : (setQueue q v).port = v.port := rfl
@[simp] theorem setQueue_notices (q : List Utterance) (v : Vks) : (setQueue q v).notices = v.notices := rfl
@[simp] theorem setQueue_power (q : List Utterance) (v : Vks) : (setQueue q v).power = v.power := rfl
@[simp] theorem setQueue_params (q : List Utterance) (v : Vks) : (setQueue q v).params = v.params := rfl

/-! ### setEchoLine -/

@[simp] theorem setEchoLine_words (u : Option Utterance) (v : Vks) : (setEchoLine u v).words = v.words := rfl
@[simp] theorem setEchoLine_attempt (u : Option Utterance) (v : Vks) : (setEchoLine u v).attempt = v.attempt := rfl
@[simp] theorem setEchoLine_lesson (u : Option Utterance) (v : Vks) : (setEchoLine u v).lesson = v.lesson := rfl
@[simp] theorem setEchoLine_keys (u : Option Utterance) (v : Vks) : (setEchoLine u v).keys = v.keys := rfl
@[simp] theorem setEchoLine_reader (u : Option Utterance) (v : Vks) : (setEchoLine u v).reader = v.reader := rfl
@[simp] theorem setEchoLine_mixer (u : Option Utterance) (v : Vks) : (setEchoLine u v).mixer = v.mixer := rfl
@[simp] theorem setEchoLine_port (u : Option Utterance) (v : Vks) : (setEchoLine u v).port = v.port := rfl
@[simp] theorem setEchoLine_notices (u : Option Utterance) (v : Vks) : (setEchoLine u v).notices = v.notices := rfl
@[simp] theorem setEchoLine_power (u : Option Utterance) (v : Vks) : (setEchoLine u v).power = v.power := rfl
@[simp] theorem setEchoLine_params (u : Option Utterance) (v : Vks) : (setEchoLine u v).params = v.params := rfl

/-! ### setContext -/

@[simp] theorem setContext_words (c : Context) (v : Vks) : (setContext c v).words = v.words := rfl
@[simp] theorem setContext_lesson (c : Context) (v : Vks) : (setContext c v).lesson = v.lesson := rfl
@[simp] theorem setContext_keys (c : Context) (v : Vks) : (setContext c v).keys = v.keys := rfl
@[simp] theorem setContext_sched (c : Context) (v : Vks) : (setContext c v).sched = v.sched := rfl
@[simp] theorem setContext_reader (c : Context) (v : Vks) : (setContext c v).reader = v.reader := rfl
@[simp] theorem setContext_mixer (c : Context) (v : Vks) : (setContext c v).mixer = v.mixer := rfl
@[simp] theorem setContext_port (c : Context) (v : Vks) : (setContext c v).port = v.port := rfl
@[simp] theorem setContext_notices (c : Context) (v : Vks) : (setContext c v).notices = v.notices := rfl
@[simp] theorem setContext_power (c : Context) (v : Vks) : (setContext c v).power = v.power := rfl
@[simp] theorem setContext_params (c : Context) (v : Vks) : (setContext c v).params = v.params := rfl

/-! ### setAttemptState -/

@[simp] theorem setAttemptState_words (st : AttemptState) (v : Vks) : (setAttemptState st v).words = v.words := rfl
@[simp] theorem setAttemptState_lesson (st : AttemptState) (v : Vks) : (setAttemptState st v).lesson = v.lesson := rfl
@[simp] theorem setAttemptState_keys (st : AttemptState) (v : Vks) : (setAttemptState st v).keys = v.keys := rfl
@[simp] theorem setAttemptState_sched (st : AttemptState) (v : Vks) : (setAttemptState st v).sched = v.sched := rfl
@[simp] theorem setAttemptState_reader (st : AttemptState) (v : Vks) : (setAttemptState st v).reader = v.reader := rfl
@[simp] theorem setAttemptState_mixer (st : AttemptState) (v : Vks) : (setAttemptState st v).mixer = v.mixer := rfl
@[simp] theorem setAttemptState_port (st : AttemptState) (v : Vks) : (setAttemptState st v).port = v.port := rfl
@[simp] theorem setAttemptState_notices (st : AttemptState) (v : Vks) : (setAttemptState st v).notices = v.notices := rfl
@[simp] theorem setAttemptState_power (st : AttemptState) (v : Vks) : (setAttemptState st v).power = v.power := rfl
@[simp] theorem setAttemptState_params (st : AttemptState) (v : Vks) : (setAttemptState st v).params = v.params := rfl

/-! ### setAwaited -/

@[simp] theorem setAwaited_words (a : Option (AwaitKind × Nat)) (v : Vks) : (setAwaited a v).words = v.words := rfl
@[simp] theorem setAwaited_lesson (a : Option (AwaitKind × Nat)) (v : Vks) : (setAwaited a v).lesson = v.lesson := rfl
@[simp] theorem setAwaited_keys (a : Option (AwaitKind × Nat)) (v : Vks) : (setAwaited a v).keys = v.keys := rfl
@[simp] theorem setAwaited_sched (a : Option (AwaitKind × Nat)) (v : Vks) : (setAwaited a v).sched = v.sched := rfl
@[simp] theorem setAwaited_reader (a : Option (AwaitKind × Nat)) (v : Vks) : (setAwaited a v).reader = v.reader := rfl
@[simp] theorem setAwaited_mixer (a : Option (AwaitKind × Nat)) (v : Vks) : (setAwaited a v).mixer = v.mixer := rfl
@[simp] theorem setAwaited_port (a : Option (AwaitKind × Nat)) (v : Vks) : (setAwaited a v).port = v.port := rfl
@[simp] theorem setAwaited_notices (a : Option (AwaitKind × Nat)) (v : Vks) : (setAwaited a v).notices = v.notices := rfl
@[simp] theorem setAwaited_power (a : Option (AwaitKind × Nat)) (v : Vks) : (setAwaited a v).power = v.power := rfl
@[simp] theorem setAwaited_params (a : Option (AwaitKind × Nat)) (v : Vks) : (setAwaited a v).params = v.params := rfl

/-! ### forget -/

@[simp] theorem forget_words (id : Nat) (v : Vks) : (forget id v).words = v.words := rfl
@[simp] theorem forget_lesson (id : Nat) (v : Vks) : (forget id v).lesson = v.lesson := rfl
@[simp] theorem forget_keys (id : Nat) (v : Vks) : (forget id v).keys = v.keys := rfl
@[simp] theorem forget_sched (id : Nat) (v : Vks) : (forget id v).sched = v.sched := rfl
@[simp] theorem forget_reader (id : Nat) (v : Vks) : (forget id v).reader = v.reader := rfl
@[simp] theorem forget_mixer (id : Nat) (v : Vks) : (forget id v).mixer = v.mixer := rfl
@[simp] theorem forget_port (id : Nat) (v : Vks) : (forget id v).port = v.port := rfl
@[simp] theorem forget_notices (id : Nat) (v : Vks) : (forget id v).notices = v.notices := rfl
@[simp] theorem forget_power (id : Nat) (v : Vks) : (forget id v).power = v.power := rfl
@[simp] theorem forget_params (id : Nat) (v : Vks) : (forget id v).params = v.params := rfl

/-! ### remember -/

@[simp] theorem remember_words (id : Nat) (v : Vks) : (remember id v).words = v.words := rfl
@[simp] theorem remember_lesson (id : Nat) (v : Vks) : (remember id v).lesson = v.lesson := rfl
@[simp] theorem remember_keys (id : Nat) (v : Vks) : (remember id v).keys = v.keys := rfl
@[simp] theorem remember_sched (id : Nat) (v : Vks) : (remember id v).sched = v.sched := rfl
@[simp] theorem remember_reader (id : Nat) (v : Vks) : (remember id v).reader = v.reader := rfl
@[simp] theorem remember_mixer (id : Nat) (v : Vks) : (remember id v).mixer = v.mixer := rfl
@[simp] theorem remember_port (id : Nat) (v : Vks) : (remember id v).port = v.port := rfl
@[simp] theorem remember_notices (id : Nat) (v : Vks) : (remember id v).notices = v.notices := rfl
@[simp] theorem remember_power (id : Nat) (v : Vks) : (remember id v).power = v.power := rfl
@[simp] theorem remember_params (id : Nat) (v : Vks) : (remember id v).params = v.params := rfl

/-! ### stopInactivity -/

@[simp] theorem stopInactivity_words (v : Vks) : (stopInactivity v).words = v.words := rfl
@[simp] theorem stopInactivity_lesson (v : Vks) : (stopInactivity v).lesson = v.lesson := rfl
@[simp] theorem stopInactivity_keys (v : Vks) : (stopInactivity v).keys = v.keys := rfl
@[simp] theorem stopInactivity_sched (v : Vks) : (stopInactivity v).sched = v.sched := rfl
@[simp] theorem stopInactivity_reader (v : Vks) : (stopInactivity v).reader = v.reader := rfl
@[simp] theorem stopInactivity_mixer (v : Vks) : (stopInactivity v).mixer = v.mixer := rfl
@[simp] theorem stopInactivity_port (v : Vks) : (stopInactivity v).port = v.port := rfl
@[simp] theorem stopInactivity_notices (v : Vks) : (stopInactivity v).notices = v.notices := rfl
@[simp] theorem stopInactivity_power (v : Vks) : (stopInactivity v).power = v.power := rfl
@[simp] theorem stopInactivity_params (v : Vks) : (stopInactivity v).params = v.params := rfl

/-! ### startCorrect -/

@[simp] theorem startCorrect_words (v : Vks) : (startCorrect v).words = v.words := rfl
@[simp] theorem startCorrect_attempt (v : Vks) : (startCorrect v).attempt = v.attempt := rfl
@[simp] theorem startCorrect_lesson (v : Vks) : (startCorrect v).lesson = v.lesson := rfl
@[simp] theorem startCorrect_keys (v : Vks) : (startCorrect v).keys = v.keys := rfl
@[simp] theorem startCorrect_sched (v : Vks) : (startCorrect v).sched = v.sched := rfl
@[simp] theorem startCorrect_reader (v : Vks) : (startCorrect v).reader = v.reader := rfl
@[simp] theorem startCorrect_mixer (v : Vks) : (startCorrect v).mixer = v.mixer := rfl
@[simp] theorem startCorrect_port (v : Vks) : (startCorrect v).port = v.port := rfl
@[simp] theorem startCorrect_power (v : Vks) : (startCorrect v).power = v.power := rfl
@[simp] theorem startCorrect_params (v : Vks) : (startCorrect v).params = v.params := rfl

/-! ### startWrong -/

@[simp] theorem startWrong_words (v : Vks) : (startWrong v).words = v.words := rfl
@[simp] theorem startWrong_attempt (v : Vks) : (startWrong v).attempt = v.attempt := rfl
@[simp] theorem startWrong_lesson (v : Vks) : (startWrong v).lesson = v.lesson := rfl
@[simp] theorem startWrong_keys (v : Vks) : (startWrong v).keys = v.keys := rfl
@[simp] theorem startWrong_sched (v : Vks) : (startWrong v).sched = v.sched := rfl
@[simp] theorem startWrong_reader (v : Vks) : (startWrong v).reader = v.reader := rfl
@[simp] theorem startWrong_mixer (v : Vks) : (startWrong v).mixer = v.mixer := rfl
@[simp] theorem startWrong_port (v : Vks) : (startWrong v).port = v.port := rfl
@[simp] theorem startWrong_power (v : Vks) : (startWrong v).power = v.power := rfl
@[simp] theorem startWrong_params (v : Vks) : (startWrong v).params = v.params := rfl

/-! ### stopGap -/

@[simp] theorem stopGap_words (v : Vks) : (stopGap v).words = v.words := rfl
@[simp] theorem stopGap_attempt (v : Vks) : (stopGap v).attempt = v.attempt := rfl
@[simp] theorem stopGap_keys (v : Vks) : (stopGap v).keys = v.keys := rfl
@[simp] theorem stopGap_sched (v : Vks) : (stopGap v).sched = v.sched := rfl
@[simp] theorem stopGap_reader (v : Vks) : (stopGap v).reader = v.reader := rfl
@[simp] theorem stopGap_mixer (v : Vks) : (stopGap v).mixer = v.mixer := rfl
@[simp] theorem stopGap_port (v : Vks) : (stopGap v).port = v.port := rfl
@[simp] theorem stopGap_notices (v : Vks) : (stopGap v).notices = v.notices := rfl
@[simp] theorem stopGap_power (v : Vks) : (stopGap v).power = v.power := rfl
@[simp] theorem stopGap_params (v : Vks) : (stopGap v).params = v.params := rfl

/-! ### setAuto -/

@[simp] theorem setAuto_words (b : Bool) (v : Vks) : (setAuto b v).words = v.words := rfl
@[simp] theorem setAuto_attempt (b : Bool) (v : Vks) : (setAuto b v).attempt = v.attempt := rfl
@[simp] theorem setAuto_keys (b : Bool) (v : Vks) : (setAuto b v).keys = v.keys := rfl
@[simp] theorem setAuto_sched (b : Bool) (v : Vks) : (setAuto b v).sched = v.sched := rfl
@[simp] theorem setAuto_reader (b : Bool) (v : Vks) : (setAuto b v).reader = v.reader := rfl
@[simp] theorem setAuto_mixer (b : Bool) (v : Vks) : (setAuto b v).mixer = v.mixer := rfl
@[simp] theorem setAuto_port (b : Bool) (v : Vks) : (setAuto b v).port = v.port := rfl
@[simp] theorem setAuto_notices (b : Bool) (v : Vks) : (setAuto b v).notices = v.notices := rfl
@[simp] theorem setAuto_power (b : Bool) (v : Vks) : (setAuto b v).power = v.power := rfl
@[simp] theorem setAuto_params (b : Bool) (v : Vks) : (setAuto b v).params = v.params := rfl

/-! ### stopPlayout -/

@[simp] theorem stopPlayout_words (v : Vks) : (stopPlayout v).words = v.words := rfl
@[simp] theorem stopPlayout_attempt (v : Vks) : (stopPlayout v).attempt = v.attempt := rfl
@[simp] theorem stopPlayout_lesson (v : Vks) : (stopPlayout v).lesson = v.lesson := rfl
@[simp] theorem stopPlayout_keys (v : Vks) : (stopPlayout v).keys = v.keys := rfl
@[simp] theorem stopPlayout_sched (v : Vks) : (stopPlayout v).sched = v.sched := rfl
@[simp] theorem stopPlayout_reader (v : Vks) : (stopPlayout v).reader = v.reader := rfl
@[simp] theorem stopPlayout_port (v : Vks) : (stopPlayout v).port = v.port := rfl
@[simp] theorem stopPlayout_notices (v : Vks) : (stopPlayout v).notices = v.notices := rfl
@[simp] theorem stopPlayout_power (v : Vks) : (stopPlayout v).power = v.power := rfl
@[simp] theorem stopPlayout_params (v : Vks) : (stopPlayout v).params = v.params := rfl

/-! ### openEnvelope -/

@[simp] theorem openEnvelope_words (v : Vks) : (openEnvelope v).words = v.words := rfl
@[simp] theorem openEnvelope_attempt (v : Vks) : (openEnvelope v).attempt = v.attempt := rfl
@[simp] theorem openEnvelope_lesson (v : Vks) : (openEnvelope v).lesson = v.lesson := rfl
@[simp] theorem openEnvelope_keys (v : Vks) : (openEnvelope v).keys = v.keys := rfl
@[simp] theorem openEnvelope_sched (v : Vks) : (openEnvelope v).sched = v.sched := rfl
@[simp] theorem openEnvelope_reader (v : Vks) : (openEnvelope v).reader = v.reader := rfl
@[simp] theorem openEnvelope_port (v : Vks) : (openEnvelope v).port = v.port := rfl
@[simp] theorem openEnvelope_notices (v : Vks) : (openEnvelope v).notices = v.notices := rfl
@[simp] theorem openEnvelope_power (v : Vks) : (openEnvelope v).power = v.power := rfl
@[simp] theorem openEnvelope_params (v : Vks) : (openEnvelope v).params = v.params := rfl

/-! ### newClipWindow -/

@[simp] theorem newClipWindow_words (v : Vks) : (newClipWindow v).words = v.words := rfl
@[simp] theorem newClipWindow_attempt (v : Vks) : (newClipWindow v).attempt = v.attempt := rfl
@[simp] theorem newClipWindow_lesson (v : Vks) : (newClipWindow v).lesson = v.lesson := rfl
@[simp] theorem newClipWindow_keys (v : Vks) : (newClipWindow v).keys = v.keys := rfl
@[simp] theorem newClipWindow_sched (v : Vks) : (newClipWindow v).sched = v.sched := rfl
@[simp] theorem newClipWindow_reader (v : Vks) : (newClipWindow v).reader = v.reader := rfl
@[simp] theorem newClipWindow_port (v : Vks) : (newClipWindow v).port = v.port := rfl
@[simp] theorem newClipWindow_notices (v : Vks) : (newClipWindow v).notices = v.notices := rfl
@[simp] theorem newClipWindow_power (v : Vks) : (newClipWindow v).power = v.power := rfl
@[simp] theorem newClipWindow_params (v : Vks) : (newClipWindow v).params = v.params := rfl

/-! ### setStore -/

@[simp] theorem setStore_words (st : StoreState) (v : Vks) : (setStore st v).words = v.words := rfl
@[simp] theorem setStore_attempt (st : StoreState) (v : Vks) : (setStore st v).attempt = v.attempt := rfl
@[simp] theorem setStore_lesson (st : StoreState) (v : Vks) : (setStore st v).lesson = v.lesson := rfl
@[simp] theorem setStore_keys (st : StoreState) (v : Vks) : (setStore st v).keys = v.keys := rfl
@[simp] theorem setStore_sched (st : StoreState) (v : Vks) : (setStore st v).sched = v.sched := rfl
@[simp] theorem setStore_mixer (st : StoreState) (v : Vks) : (setStore st v).mixer = v.mixer := rfl
@[simp] theorem setStore_port (st : StoreState) (v : Vks) : (setStore st v).port = v.port := rfl
@[simp] theorem setStore_notices (st : StoreState) (v : Vks) : (setStore st v).notices = v.notices := rfl
@[simp] theorem setStore_power (st : StoreState) (v : Vks) : (setStore st v).power = v.power := rfl
@[simp] theorem setStore_params (st : StoreState) (v : Vks) : (setStore st v).params = v.params := rfl

/-! ### setEngine -/

@[simp] theorem setEngine_words (e : Engine) (v : Vks) : (setEngine e v).words = v.words := rfl
@[simp] theorem setEngine_attempt (e : Engine) (v : Vks) : (setEngine e v).attempt = v.attempt := rfl
@[simp] theorem setEngine_lesson (e : Engine) (v : Vks) : (setEngine e v).lesson = v.lesson := rfl
@[simp] theorem setEngine_keys (e : Engine) (v : Vks) : (setEngine e v).keys = v.keys := rfl
@[simp] theorem setEngine_sched (e : Engine) (v : Vks) : (setEngine e v).sched = v.sched := rfl
@[simp] theorem setEngine_mixer (e : Engine) (v : Vks) : (setEngine e v).mixer = v.mixer := rfl
@[simp] theorem setEngine_port (e : Engine) (v : Vks) : (setEngine e v).port = v.port := rfl
@[simp] theorem setEngine_notices (e : Engine) (v : Vks) : (setEngine e v).notices = v.notices := rfl
@[simp] theorem setEngine_power (e : Engine) (v : Vks) : (setEngine e v).power = v.power := rfl
@[simp] theorem setEngine_params (e : Engine) (v : Vks) : (setEngine e v).params = v.params := rfl

/-! ### setHolding -/

@[simp] theorem setHolding_words (h : Option Holding) (v : Vks) : (setHolding h v).words = v.words := rfl
@[simp] theorem setHolding_attempt (h : Option Holding) (v : Vks) : (setHolding h v).attempt = v.attempt := rfl
@[simp] theorem setHolding_lesson (h : Option Holding) (v : Vks) : (setHolding h v).lesson = v.lesson := rfl
@[simp] theorem setHolding_keys (h : Option Holding) (v : Vks) : (setHolding h v).keys = v.keys := rfl
@[simp] theorem setHolding_sched (h : Option Holding) (v : Vks) : (setHolding h v).sched = v.sched := rfl
@[simp] theorem setHolding_mixer (h : Option Holding) (v : Vks) : (setHolding h v).mixer = v.mixer := rfl
@[simp] theorem setHolding_port (h : Option Holding) (v : Vks) : (setHolding h v).port = v.port := rfl
@[simp] theorem setHolding_notices (h : Option Holding) (v : Vks) : (setHolding h v).notices = v.notices := rfl
@[simp] theorem setHolding_power (h : Option Holding) (v : Vks) : (setHolding h v).power = v.power := rfl
@[simp] theorem setHolding_params (h : Option Holding) (v : Vks) : (setHolding h v).params = v.params := rfl

/-! ### setHeld -/

@[simp] theorem setHeld_words (l : List HeldKey) (v : Vks) : (setHeld l v).words = v.words := rfl
@[simp] theorem setHeld_attempt (l : List HeldKey) (v : Vks) : (setHeld l v).attempt = v.attempt := rfl
@[simp] theorem setHeld_lesson (l : List HeldKey) (v : Vks) : (setHeld l v).lesson = v.lesson := rfl
@[simp] theorem setHeld_sched (l : List HeldKey) (v : Vks) : (setHeld l v).sched = v.sched := rfl
@[simp] theorem setHeld_reader (l : List HeldKey) (v : Vks) : (setHeld l v).reader = v.reader := rfl
@[simp] theorem setHeld_mixer (l : List HeldKey) (v : Vks) : (setHeld l v).mixer = v.mixer := rfl
@[simp] theorem setHeld_port (l : List HeldKey) (v : Vks) : (setHeld l v).port = v.port := rfl
@[simp] theorem setHeld_notices (l : List HeldKey) (v : Vks) : (setHeld l v).notices = v.notices := rfl
@[simp] theorem setHeld_power (l : List HeldKey) (v : Vks) : (setHeld l v).power = v.power := rfl
@[simp] theorem setHeld_params (l : List HeldKey) (v : Vks) : (setHeld l v).params = v.params := rfl

/-! ### setGhostBlock -/

@[simp] theorem setGhostBlock_words (b : Bool) (v : Vks) : (setGhostBlock b v).words = v.words := rfl
@[simp] theorem setGhostBlock_attempt (b : Bool) (v : Vks) : (setGhostBlock b v).attempt = v.attempt := rfl
@[simp] theorem setGhostBlock_lesson (b : Bool) (v : Vks) : (setGhostBlock b v).lesson = v.lesson := rfl
@[simp] theorem setGhostBlock_sched (b : Bool) (v : Vks) : (setGhostBlock b v).sched = v.sched := rfl
@[simp] theorem setGhostBlock_reader (b : Bool) (v : Vks) : (setGhostBlock b v).reader = v.reader := rfl
@[simp] theorem setGhostBlock_mixer (b : Bool) (v : Vks) : (setGhostBlock b v).mixer = v.mixer := rfl
@[simp] theorem setGhostBlock_port (b : Bool) (v : Vks) : (setGhostBlock b v).port = v.port := rfl
@[simp] theorem setGhostBlock_notices (b : Bool) (v : Vks) : (setGhostBlock b v).notices = v.notices := rfl
@[simp] theorem setGhostBlock_power (b : Bool) (v : Vks) : (setGhostBlock b v).power = v.power := rfl
@[simp] theorem setGhostBlock_params (b : Bool) (v : Vks) : (setGhostBlock b v).params = v.params := rfl

/-! ### setStanding -/

@[simp] theorem setStanding_words (p : Nat) (st : Option Standing) (v : Vks) : (setStanding p st v).words = v.words := rfl
@[simp] theorem setStanding_attempt (p : Nat) (st : Option Standing) (v : Vks) : (setStanding p st v).attempt = v.attempt := rfl
@[simp] theorem setStanding_lesson (p : Nat) (st : Option Standing) (v : Vks) : (setStanding p st v).lesson = v.lesson := rfl
@[simp] theorem setStanding_sched (p : Nat) (st : Option Standing) (v : Vks) : (setStanding p st v).sched = v.sched := rfl
@[simp] theorem setStanding_reader (p : Nat) (st : Option Standing) (v : Vks) : (setStanding p st v).reader = v.reader := rfl
@[simp] theorem setStanding_mixer (p : Nat) (st : Option Standing) (v : Vks) : (setStanding p st v).mixer = v.mixer := rfl
@[simp] theorem setStanding_port (p : Nat) (st : Option Standing) (v : Vks) : (setStanding p st v).port = v.port := rfl
@[simp] theorem setStanding_notices (p : Nat) (st : Option Standing) (v : Vks) : (setStanding p st v).notices = v.notices := rfl
@[simp] theorem setStanding_power (p : Nat) (st : Option Standing) (v : Vks) : (setStanding p st v).power = v.power := rfl
@[simp] theorem setStanding_params (p : Nat) (st : Option Standing) (v : Vks) : (setStanding p st v).params = v.params := rfl

/-! ### restartSleepTimer -/

@[simp] theorem restartSleepTimer_words (v : Vks) : (restartSleepTimer v).words = v.words := rfl
@[simp] theorem restartSleepTimer_attempt (v : Vks) : (restartSleepTimer v).attempt = v.attempt := rfl
@[simp] theorem restartSleepTimer_lesson (v : Vks) : (restartSleepTimer v).lesson = v.lesson := rfl
@[simp] theorem restartSleepTimer_keys (v : Vks) : (restartSleepTimer v).keys = v.keys := rfl
@[simp] theorem restartSleepTimer_sched (v : Vks) : (restartSleepTimer v).sched = v.sched := rfl
@[simp] theorem restartSleepTimer_reader (v : Vks) : (restartSleepTimer v).reader = v.reader := rfl
@[simp] theorem restartSleepTimer_mixer (v : Vks) : (restartSleepTimer v).mixer = v.mixer := rfl
@[simp] theorem restartSleepTimer_port (v : Vks) : (restartSleepTimer v).port = v.port := rfl
@[simp] theorem restartSleepTimer_notices (v : Vks) : (restartSleepTimer v).notices = v.notices := rfl
@[simp] theorem restartSleepTimer_params (v : Vks) : (restartSleepTimer v).params = v.params := rfl

/-! ### enterSleep -/

@[simp] theorem enterSleep_words (v : Vks) : (enterSleep v).words = v.words := rfl
@[simp] theorem enterSleep_attempt (v : Vks) : (enterSleep v).attempt = v.attempt := rfl
@[simp] theorem enterSleep_lesson (v : Vks) : (enterSleep v).lesson = v.lesson := rfl
@[simp] theorem enterSleep_keys (v : Vks) : (enterSleep v).keys = v.keys := rfl
@[simp] theorem enterSleep_sched (v : Vks) : (enterSleep v).sched = v.sched := rfl
@[simp] theorem enterSleep_reader (v : Vks) : (enterSleep v).reader = v.reader := rfl
@[simp] theorem enterSleep_port (v : Vks) : (enterSleep v).port = v.port := rfl
@[simp] theorem enterSleep_params (v : Vks) : (enterSleep v).params = v.params := rfl

/-! ### closeTransaction -/

@[simp] theorem closeTransaction_words (v : Vks) : (closeTransaction v).words = v.words := rfl
@[simp] theorem closeTransaction_attempt (v : Vks) : (closeTransaction v).attempt = v.attempt := rfl
@[simp] theorem closeTransaction_lesson (v : Vks) : (closeTransaction v).lesson = v.lesson := rfl
@[simp] theorem closeTransaction_keys (v : Vks) : (closeTransaction v).keys = v.keys := rfl
@[simp] theorem closeTransaction_sched (v : Vks) : (closeTransaction v).sched = v.sched := rfl
@[simp] theorem closeTransaction_reader (v : Vks) : (closeTransaction v).reader = v.reader := rfl
@[simp] theorem closeTransaction_mixer (v : Vks) : (closeTransaction v).mixer = v.mixer := rfl
@[simp] theorem closeTransaction_notices (v : Vks) : (closeTransaction v).notices = v.notices := rfl
@[simp] theorem closeTransaction_power (v : Vks) : (closeTransaction v).power = v.power := rfl
@[simp] theorem closeTransaction_params (v : Vks) : (closeTransaction v).params = v.params := rfl

/-! ### deliver -/

@[simp] theorem deliver_words (t : Transaction) (v : Vks) : (deliver t v).words = v.words := rfl
@[simp] theorem deliver_attempt (t : Transaction) (v : Vks) : (deliver t v).attempt = v.attempt := rfl
@[simp] theorem deliver_lesson (t : Transaction) (v : Vks) : (deliver t v).lesson = v.lesson := rfl
@[simp] theorem deliver_sched (t : Transaction) (v : Vks) : (deliver t v).sched = v.sched := rfl
@[simp] theorem deliver_reader (t : Transaction) (v : Vks) : (deliver t v).reader = v.reader := rfl
@[simp] theorem deliver_mixer (t : Transaction) (v : Vks) : (deliver t v).mixer = v.mixer := rfl
@[simp] theorem deliver_port (t : Transaction) (v : Vks) : (deliver t v).port = v.port := rfl
@[simp] theorem deliver_power (t : Transaction) (v : Vks) : (deliver t v).power = v.power := rfl
@[simp] theorem deliver_params (t : Transaction) (v : Vks) : (deliver t v).params = v.params := rfl

/-! ### takeBack -/

@[simp] theorem takeBack_words (t : Transaction) (v : Vks) : (takeBack t v).words = v.words := rfl
@[simp] theorem takeBack_attempt (t : Transaction) (v : Vks) : (takeBack t v).attempt = v.attempt := rfl
@[simp] theorem takeBack_lesson (t : Transaction) (v : Vks) : (takeBack t v).lesson = v.lesson := rfl
@[simp] theorem takeBack_keys (t : Transaction) (v : Vks) : (takeBack t v).keys = v.keys := rfl
@[simp] theorem takeBack_sched (t : Transaction) (v : Vks) : (takeBack t v).sched = v.sched := rfl
@[simp] theorem takeBack_reader (t : Transaction) (v : Vks) : (takeBack t v).reader = v.reader := rfl
@[simp] theorem takeBack_mixer (t : Transaction) (v : Vks) : (takeBack t v).mixer = v.mixer := rfl
@[simp] theorem takeBack_notices (t : Transaction) (v : Vks) : (takeBack t v).notices = v.notices := rfl
@[simp] theorem takeBack_power (t : Transaction) (v : Vks) : (takeBack t v).power = v.power := rfl
@[simp] theorem takeBack_params (t : Transaction) (v : Vks) : (takeBack t v).params = v.params := rfl

/-! ### emptyFault -/

@[simp] theorem emptyFault_words (v : Vks) : (emptyFault v).words = v.words := rfl
@[simp] theorem emptyFault_attempt (v : Vks) : (emptyFault v).attempt = v.attempt := rfl
@[simp] theorem emptyFault_lesson (v : Vks) : (emptyFault v).lesson = v.lesson := rfl
@[simp] theorem emptyFault_keys (v : Vks) : (emptyFault v).keys = v.keys := rfl
@[simp] theorem emptyFault_sched (v : Vks) : (emptyFault v).sched = v.sched := rfl
@[simp] theorem emptyFault_mixer (v : Vks) : (emptyFault v).mixer = v.mixer := rfl
@[simp] theorem emptyFault_port (v : Vks) : (emptyFault v).port = v.port := rfl
@[simp] theorem emptyFault_notices (v : Vks) : (emptyFault v).notices = v.notices := rfl
@[simp] theorem emptyFault_power (v : Vks) : (emptyFault v).power = v.power := rfl
@[simp] theorem emptyFault_params (v : Vks) : (emptyFault v).params = v.params := rfl

/-! ### clearSeen -/

@[simp] theorem clearSeen_words (v : Vks) : (clearSeen v).words = v.words := rfl
@[simp] theorem clearSeen_attempt (v : Vks) : (clearSeen v).attempt = v.attempt := rfl
@[simp] theorem clearSeen_lesson (v : Vks) : (clearSeen v).lesson = v.lesson := rfl
@[simp] theorem clearSeen_keys (v : Vks) : (clearSeen v).keys = v.keys := rfl
@[simp] theorem clearSeen_sched (v : Vks) : (clearSeen v).sched = v.sched := rfl
@[simp] theorem clearSeen_reader (v : Vks) : (clearSeen v).reader = v.reader := rfl
@[simp] theorem clearSeen_notices (v : Vks) : (clearSeen v).notices = v.notices := rfl
@[simp] theorem clearSeen_power (v : Vks) : (clearSeen v).power = v.power := rfl
@[simp] theorem clearSeen_params (v : Vks) : (clearSeen v).params = v.params := rfl

/-! ### emitSample -/

@[simp] theorem emitSample_words (acc : Int) (v : Vks) : (emitSample acc v).words = v.words := rfl
@[simp] theorem emitSample_attempt (acc : Int) (v : Vks) : (emitSample acc v).attempt = v.attempt := rfl
@[simp] theorem emitSample_lesson (acc : Int) (v : Vks) : (emitSample acc v).lesson = v.lesson := rfl
@[simp] theorem emitSample_keys (acc : Int) (v : Vks) : (emitSample acc v).keys = v.keys := rfl
@[simp] theorem emitSample_sched (acc : Int) (v : Vks) : (emitSample acc v).sched = v.sched := rfl
@[simp] theorem emitSample_reader (acc : Int) (v : Vks) : (emitSample acc v).reader = v.reader := rfl
@[simp] theorem emitSample_port (acc : Int) (v : Vks) : (emitSample acc v).port = v.port := rfl
@[simp] theorem emitSample_notices (acc : Int) (v : Vks) : (emitSample acc v).notices = v.notices := rfl
@[simp] theorem emitSample_power (acc : Int) (v : Vks) : (emitSample acc v).power = v.power := rfl
@[simp] theorem emitSample_params (acc : Int) (v : Vks) : (emitSample acc v).params = v.params := rfl

/-! ### restartBuffer -/

@[simp] theorem restartBuffer_words (v : Vks) : (restartBuffer v).words = v.words := rfl
@[simp] theorem restartBuffer_attempt (v : Vks) : (restartBuffer v).attempt = v.attempt := rfl
@[simp] theorem restartBuffer_lesson (v : Vks) : (restartBuffer v).lesson = v.lesson := rfl
@[simp] theorem restartBuffer_keys (v : Vks) : (restartBuffer v).keys = v.keys := rfl
@[simp] theorem restartBuffer_sched (v : Vks) : (restartBuffer v).sched = v.sched := rfl
@[simp] theorem restartBuffer_reader (v : Vks) : (restartBuffer v).reader = v.reader := rfl
@[simp] theorem restartBuffer_port (v : Vks) : (restartBuffer v).port = v.port := rfl
@[simp] theorem restartBuffer_notices (v : Vks) : (restartBuffer v).notices = v.notices := rfl
@[simp] theorem restartBuffer_power (v : Vks) : (restartBuffer v).power = v.power := rfl

/-! ### resetPart -/

@[simp] theorem resetPart_words (v : Vks) : (resetPart v).words = v.words := rfl

/-! ### The updated fields -/

@[simp] theorem setReply_reply (code tag : Byte) (a : Answer) (v : Vks) :
    (setReply code tag a v).port.reply = ⟨code, tag, a.result, padTo 4 a.data, a.bulk⟩ := rfl
@[simp] theorem setReplyNone_reply (v : Vks) :
    (setReplyNone v).port.reply = Reply.none := rfl
@[simp] theorem discardSlot_reply (cause : Nat) (v : Vks) :
    (discardSlot cause v).port.reply = ⟨0#8, 0#8, .linkError, padTo 4 (leBytes 1 cause), []⟩ := rfl
@[simp] theorem discardSlot_badSlot (cause : Nat) (v : Vks) :
    (discardSlot cause v).port.latches.badSlot = true := rfl
@[simp] theorem setStore_store (st : StoreState) (v : Vks) :
    (setStore st v).reader.store = st := rfl
@[simp] theorem setStore_engine (st : StoreState) (v : Vks) :
    (setStore st v).reader.engine = v.reader.engine := rfl
@[simp] theorem setEngine_engine (e : Engine) (v : Vks) :
    (setEngine e v).reader.engine = e := rfl
@[simp] theorem setEngine_store (e : Engine) (v : Vks) :
    (setEngine e v).reader.store = v.reader.store := rfl
@[simp] theorem setContext_ctx (c : Context) (v : Vks) :
    (setContext c v).attempt.ctx = c := rfl
@[simp] theorem setContext_state (c : Context) (v : Vks) :
    (setContext c v).attempt.state = v.attempt.state := rfl
@[simp] theorem setAttemptState_state (st : AttemptState) (v : Vks) :
    (setAttemptState st v).attempt.state = st := rfl
@[simp] theorem setAttemptState_ctx (st : AttemptState) (v : Vks) :
    (setAttemptState st v).attempt.ctx = v.attempt.ctx := rfl
@[simp] theorem setQueue_queue (q : List Utterance) (v : Vks) :
    (setQueue q v).sched.queue = q := rfl
@[simp] theorem setEchoLine_echoLine (u : Option Utterance) (v : Vks) :
    (setEchoLine u v).sched.echoLine = u := rfl
@[simp] theorem emitSample_output (acc : Int) (v : Vks) :
    (emitSample acc v).mixer.output = mixOutput acc := rfl
@[simp] theorem emitSample_i2s (acc : Int) (v : Vks) :
    (emitSample acc v).mixer.i2s = I2s.frame (mixOutput acc) := rfl
@[simp] theorem enterSleep_i2s (v : Vks) :
    (enterSleep v).mixer.i2s = I2s.stopped := rfl
@[simp] theorem enterSleep_asleep (v : Vks) :
    (enterSleep v).power.asleep = true := rfl
@[simp] theorem enterSleep_amp (v : Vks) :
    (enterSleep v).power.amp = .off := rfl

/-! ### Outcomes -/

@[simp] theorem onPart_eq (f : Vks → Vks) (s : State) : onPart f s = .next { s with vks := f s.vks } := rfl

end Sys2Proof.Machine
end

