-- ==== Sys2Proof/Laws/Requests.lean ====
section
/-! SUPPORT. How a request runs in a part that is awake: the owner's handling, then its answer as the pending reply. -/

namespace Sys2Proof.Machine

theorem wakeByLink_awake (v : Vks) (h : v.power.asleep = false) : wakeByLink v = v := by simp [wakeByLink, h]

/-- R165: the owner handles the request and its answer becomes the pending reply. -/
theorem takeControl_awake (code tag : Byte) (arg : List Byte) (hd : Handler) (v : Vks) (h : v.power.asleep = false)
    (ha : arg.length ≤ 58) : takeControl code tag arg hd v = setReply code tag (hd arg v).2 (hd arg v).1 := by
  rw [takeControl, wakeByLink_awake v h, serve, if_neg (by omega)]

/-- The reply after an answer with four data bytes is that answer. -/
theorem setReply_eq (code tag : Byte) (a : Answer) (v : Vks) (h : a.data.length = 4) :
    setReply code tag a v = replying code tag a.result a.data a.bulk v := by
  simp [setReply, replying, padTo, h]

theorem withoutArgument_nil (f : Vks → Vks × Answer) (v : Vks) : withoutArgument f [] v = f v := by
  simp [withoutArgument]

/-- R171: an argument where none is asked for is BAD_ARGS cause 1, and the part is unchanged. -/
theorem withoutArgument_cons (f : Vks → Vks × Answer) (b : Byte) (bs : List Byte) (v : Vks) :
    withoutArgument f (b :: bs) v = (v, answerBadArgs 1) := by
  simp [withoutArgument]

/-- A request whose checks all pass. -/
theorem checked_pass (checks : List (Bool × Nat)) (v : Vks) (f : Vks × Answer) (h : ∀ c ∈ checks, c.1 = false) :
    checked checks v f = f := by
  have hn : firstCause checks = none := by
    induction checks with
    | nil => rfl
    | cons c t ih =>
      obtain ⟨b, n⟩ := c
      have hb := h (b, n) (by simp)
      simp only at hb
      subst hb
      exact ih (fun c hc => h c (List.mem_cons_of_mem _ hc))
  simp [checked, hn]

/-- A request one of whose checks fails changes nothing and answers BAD_ARGS with the first failing cause. -/
theorem checked_fail (checks : List (Bool × Nat)) (v : Vks) (f : Vks × Answer) (n : Nat)
    (h : firstCause checks = some n) : checked checks v f = (v, answerBadArgs n) := by
  simp [checked, h]

/-! ### What the Slot Port sends (R164) -/

/-- With LNK_SEL released nothing is sent. -/
theorem sentUpstream_released (n : Nat) (v : Vks) (h : v.port.txn = none) : sentUpstream n v = none := by
  simp [sentUpstream, h]

/-- In a transaction as many bytes are sent as are clocked. -/
theorem sentUpstream_length (n : Nat) (v : Vks) (bs : List Byte) (h : sentUpstream n v = some bs) : bs.length = n := by
  obtain ⟨_, _, rfl⟩ := Option.map_eq_some_iff.mp h
  exact padTo_length n _ (by simp)

end Sys2Proof.Machine
end

