-- ==== Sys2Proof/Tests/Slice0.lean ====
section
/-! SUPPORT. Tests: well-formedness, the decoding of slots written out byte by byte, the spec's worked examples, and for every
statement with hypotheses a state and operands that meet them. -/

namespace Sys2Proof.Tests

open Sys2Proof.Machine

/-! ### Small states -/

/-- The state after reset with the part changed. -/
def st (f : Vks → Vks) : State := { State.reset with vks := f State.reset.vks }

/-- The part after a command, where it answers a next state. -/
def after (o : StepOutcome) : Option Vks := match o with | .next t => some t.vks | _ => none

/-- CAT of 05 section 5.9: one prompt, tries 2, hint limit 1, barge, echo NAME. -/
def cat (mode : CheckMode) : WordEntry := ⟨[3, 1, 20], some 9, [5], none, ⟨mode, .name, true, 2, 3, 1⟩⟩

/-- A USABLE store, an idle engine, the amplifier ON, and word 20 spelled CAT. -/
def ready (v : Vks) : Vks :=
  { v with
    words := { v.words with entries := v.words.entries.set 20 (some (cat .deferred)), freeItems := 6140 }
    reader := { v.reader with store := .usable, engine := .idle, headerOutcome := .good, segmentCount := 300, storeSize := 4 }
    power := { v.power with amp := .on } }

/-- An attempt at CAT in a state, with a check mode and letters typed. -/
def spelling (state : AttemptState) (mode : CheckMode) (typed : List Nat) (v : Vks) : Vks :=
  { ready v with attempt := { v.attempt with
      state := state
      ctx := { Context.cleared with word := 20, settings := (cat mode).settings, tryNumber := 1, buffer := typed } } }

/-- An utterance of one CHIME. -/
def chime (source : Source) (id : Nat) : Utterance := ⟨id, source, 7#8, [.tone .chime], 0, 0, false, false, false⟩

/-- An utterance that plays on the main voice. -/
def onMain (u : Utterance) (v : Vks) : Vks :=
  { v with reader := { v.reader with mainVoice := { v.reader.mainVoice with
      state := .playing, utterance := some { u with playItem := 1 }, readItem := 1 } } }

/-- Waiting utterances. -/
def waiting (us : List Utterance) (v : Vks) : Vks := { v with sched := { v.sched with queue := us } }

/-- The store in a state, with an engine. -/
def store (s : StoreState) (e : Engine) (v : Vks) : Vks := { v with reader := { v.reader with store := s, engine := e } }

/-- Every key position up with a disagreement count. -/
def keysUp (count : Nat) (v : Vks) : Vks := { v with keys := { v.keys with positions := List.replicate 80 ⟨none, count⟩ } }

/-- The part asleep. -/
def asleep (v : Vks) : Vks := { ready v with power := { v.power with asleep := true } }

/-- Bytes with the slot check of 08 section 8.1 appended. -/
def slot (head : List Byte) : List Byte :=
  let body := head ++ List.replicate (62 - head.length) 0#8
  body ++ leBytes 2 (body.foldl (fun n b => n + b.toNat) 0)

/-! ### Well-formedness -/

theorem test_wf_refuses_an_owned_code : (Instr.badCommand 0x10#8 0#8 []).wf = false := by decide
theorem test_wf_accepts_an_unowned_code : (Instr.badCommand 0x08#8 0#8 []).wf = true := by decide
theorem test_wf_refuses_an_argument_of_59 : (Instr.identify 0#8 (List.replicate 59 0#8)).wf = false := by decide
theorem test_wf_refuses_30_samples : (Instr.audioSlot false (List.replicate 30 0#16)).wf = false := by decide
theorem test_wf_refuses_a_wrong_selector : (Instr.tableGetKeymap 0#8 [2#8, 0#8]).wf = false := by decide
theorem test_wf_refuses_a_misread_outside : (Instr.directoryReadEnd [(8, 1#8)]).wf = false := by decide

/-! ### Decoding, one slot of each family written out from 08 sections 8.1 and 8.5 -/

theorem test_decode_table_word : decodeTableWord 8 1 = none := rfl

/-- AUDIO, 2 samples, LAST: 0x0102 and 0xFFFE. The check is 1 + 2 + 1 + 2 + 1 + 0xFE + 0xFF = 0x0204. -/
theorem test_decode_audio :
    decodeSlot ([1#8, 2#8, 1#8, 0#8, 0x02#8, 0x01#8, 0xFE#8, 0xFF#8] ++ List.replicate 54 0#8 ++ [0x04#8, 0x02#8])
      = .ok (.audioSlot true [0x0102#16, 0xFFFE#16]) := by decide

/-- WORD DROP of word 20 (0x0014) with tag 9. The check is 2 + 2 + 0x12 + 9 + 0x14 = 0x33. -/
theorem test_decode_word_drop :
    decodeSlot ([2#8, 2#8, 0x12#8, 9#8, 0x14#8, 0x00#8] ++ List.replicate 56 0#8 ++ [0x33#8, 0x00#8])
      = .ok (.wordDrop 9#8 [0x14#8, 0x00#8]) := by decide

theorem test_decode_link : decodeSlot (slot [2#8, 0#8, 0x01#8, 7#8]) = .ok (.identify 7#8 []) := by decide
theorem test_decode_attempt : decodeSlot (slot [2#8, 0#8, 0x21#8, 7#8]) = .ok (.attemptCancel 7#8 []) := by decide
theorem test_decode_lesson : decodeSlot (slot [2#8, 0#8, 0x2B#8, 7#8]) = .ok (.lessonStart 7#8 []) := by decide
theorem test_decode_progress : decodeSlot (slot [2#8, 1#8, 0x33#8, 7#8, 31#8]) = .ok (.reviewGet 7#8 [31#8]) := by decide
theorem test_decode_speech : decodeSlot (slot [2#8, 2#8, 0x39#8, 7#8, 2#8, 8#8]) = .ok (.silence 7#8 [2#8, 8#8]) := by decide
theorem test_decode_store : decodeSlot (slot [2#8, 3#8, 0x43#8, 7#8, 0#8, 0x10#8, 0#8])
    = .ok (.storeErase 7#8 [0#8, 0x10#8, 0#8]) := by decide
theorem test_decode_table_get : decodeSlot (slot [2#8, 2#8, 0x17#8, 7#8, 2#8, 15#8])
    = .ok (.tableGetResponses 7#8 [2#8, 15#8]) := by decide
theorem test_decode_unowned : decodeSlot (slot [2#8, 1#8, 0x47#8, 7#8, 5#8]) = .ok (.badCommand 0x47#8 7#8 [5#8]) := by decide

/-! ### The spec's worked examples -/

/-- 02 section 2.7, worked grading cases (A 1, B 2, C 3, E 5, H 8, I 9, L 12, P 16, S 19, T 20). -/
theorem test_grading_cat :
    grade [3, 1, 20] [3, 1, 20] = (.exact, 0) ∧ grade [3, 1, 18] [3, 1, 20] = (.substitution, 3)
      ∧ grade [1, 3, 20] [3, 1, 20] = (.swap, 1) ∧ grade [3, 20] [3, 1, 20] = (.missing, 2)
      ∧ grade [3, 1, 1, 20] [3, 1, 20] = (.extra, 2) ∧ grade [20, 1, 3] [3, 1, 20] = (.wrong, 0)
      ∧ grade [3, 1] [3, 1, 20] = (.missing, 3) ∧ grade [3] [3, 1, 20] = (.wrong, 0) := by decide

theorem test_grading_doubled :
    grade [2, 1, 12] [2, 1, 12, 12] = (.missing, 3) ∧ grade [2, 12, 1, 12] [2, 1, 12, 12] = (.swap, 2)
      ∧ grade [19, 5] [19, 5, 5] = (.missing, 2) ∧ grade [19, 5, 5, 5] [19, 5, 5] = (.extra, 2)
      ∧ grade [19, 9, 8, 16] [19, 8, 9, 16] = (.swap, 2) ∧ grade [19, 16, 9, 8] [19, 8, 9, 16] = (.wrong, 0)
      ∧ grade [1, 2] [1] = (.extra, 2) ∧ grade [2, 1] [1] = (.extra, 1) ∧ grade [2] [1] = (.substitution, 1) := by decide

/-- 07 section 7.4, worked cases 1 to 7. -/
theorem test_mix :
    mixOutput 425984000 = 26000 ∧ mixOutput (-69908736) = -4267 ∧ mixOutput 8192 = 1 ∧ mixOutput (-8192) = -1
      ∧ mixOutput 1069531136 = 32767 ∧ mixOutput (-1073741824) = -32768 ∧ mixOutput (-1610612736) = -32768
      ∧ mixClips 1069531136 = true ∧ mixClips 425984000 = false := by decide

/-! ### Witnesses: every statement with hypotheses, each clause at the ends of its range -/

theorem witness_StepRunsTheFrontCommand : State.reset.pending = [] := rfl

theorem witness_ResetKeepsTablesAndEmptiesTheRest : Awake State.reset := rfl

theorem witness_StreamRestartEmptiesTheStream : Awake State.reset ∧ State.reset.vks.attempt.ctx.outstanding = []
    ∧ State.reset.vks.sched.queue = [] ∧ State.reset.vks.sched.echoLine = none := ⟨rfl, rfl, rfl, rfl⟩

/-- One state for each of the five clauses. -/
theorem witness_SleepStopsTheOutputs :
    (let s := st ready
     Awake s ∧ s.vks.attempt.state = .idle ∧ s.vks.reader.mainVoice.state = .idle ∧ s.vks.reader.echoVoice.state = .idle
      ∧ s.vks.sched.queue = [] ∧ s.vks.sched.echoLine = none ∧ s.vks.reader.engine = .idle)
    ∧ (Awake (st (spelling .listening .deferred [])) ∧ (st (spelling .listening .deferred [])).vks.attempt.state ≠ .idle)
    ∧ (let s := st (fun v => onMain (chime .say 1) (ready v))
       Awake s ∧ s.vks.attempt.state = .idle ∧ s.vks.reader.mainVoice.state ≠ .idle)
    ∧ (let s := st (fun v => waiting [chime .say 1] (ready v))
       Awake s ∧ s.vks.attempt.state = .idle ∧ s.vks.reader.mainVoice.state = .idle ∧ s.vks.reader.echoVoice.state = .idle
        ∧ s.vks.sched.queue ≠ [])
    ∧ (Awake State.reset ∧ State.reset.vks.sched.queue = [] ∧ State.reset.vks.reader.engine ≠ .idle) := by
  refine ⟨⟨rfl, ?_⟩, ⟨rfl, ?_⟩, ⟨rfl, ?_⟩, ⟨rfl, ?_⟩, rfl, ?_⟩ <;> decide

theorem witness_SlotsThatReachNoBlock : Awake State.reset ∧ ([] : List Byte).length ≤ 58
    ∧ (List.replicate 58 0#8).length ≤ 58 := ⟨rfl, by decide, by decide⟩

theorem witness_ClearFlagsClearsBothMarks : Awake State.reset ∧ [0#8] ≠ ([] : List Byte) ∧ (List.replicate 58 0#8).length ≤ 58 :=
  ⟨rfl, by decide, by decide⟩

/-- A playout buffer with `n` samples, PLAYING or not, and the amplifier in a state. -/
def buffered (n : Nat) (playing : Bool) (amp : AmpState) (v : Vks) : Vks :=
  { v with mixer := { v.mixer with samples := List.replicate n 0, playing := playing }, power := { v.power with amp := amp } }

/-- A last slot; a slot without LAST that appends, one that is empty, one that overruns by one, one that just fits; a fill that
reaches the mark with the amplifier ON, OFF with a warm-up and without, and WARMING; a PLAYING buffer below its mark and at it. -/
theorem witness_AudioSlotAppendsWhatFits :
    Awake State.reset ∧ (List.replicate 29 0#16).length ≤ 29
    ∧ (let s := st (fun v => { v with mixer := { v.mixer with samples := List.replicate 1508 0 } })
       Awake s ∧ s.vks.mixer.samples.length ≤ s.vks.mixer.sizeInForce ∧ s.vks.mixer.samples.length < s.vks.mixer.sizeInForce
        ∧ s.vks.mixer.sizeInForce < s.vks.mixer.samples.length + (List.replicate 29 0#16).length
        ∧ s.vks.mixer.samples.length + (List.replicate 28 0#16).length ≤ s.vks.mixer.sizeInForce)
    ∧ (let s := st (fun v => { v with mixer := { v.mixer with samples := List.replicate 1536 0 } })
       s.vks.mixer.samples.length ≤ s.vks.mixer.sizeInForce ∧ s.vks.notices.queue.length < 16)
    ∧ (∀ k ∈ [AmpState.on, .off, .warming], (st (buffered 511 false k)).vks.power.amp = k
      ∧ (st (buffered 511 false k)).vks.mixer.playing = false ∧ (st (buffered 511 false k)).vks.params.playoutMark = 512
      ∧ (st (buffered 511 false k)).vks.mixer.samples.length + [0#16].length = 512)
    ∧ (st (buffered 511 false .off)).vks.params.ampWarmup ≠ 0
    ∧ (st (fun v => { buffered 511 false .off v with params := { v.params with ampWarmup := 0 } })).vks.params.ampWarmup = 0
    ∧ (let s := st (buffered 510 true .on)
       s.vks.mixer.playing = true ∧ s.vks.mixer.samples.length + [0#16].length < s.vks.params.playoutMark
        ∧ s.vks.mixer.lowArmed = true) := by
  refine ⟨rfl, ?_, ⟨rfl, ?_⟩, ?_⟩ <;> decide +kernel

theorem witness_IdentifyReturnsTheCapacities : Awake State.reset ∧ [0#8] ≠ ([] : List Byte) ∧ [0#8].length ≤ 58
    ∧ (List.replicate 58 0#8).length ≤ 58 := ⟨rfl, by decide, by decide, by decide⟩

theorem witness_GetReturnsTheValueInForce :
    Awake State.reset ∧ (1, leBytes 4 16384) ∈ parameterTable State.reset.vks ∧ (23, leBytes 4 0) ∈ parameterTable State.reset.vks
    ∧ ([] : List Byte).length ≠ 1 ∧ [0#8, 0#8].length ≠ 1 ∧ (List.replicate 58 0#8).length ≤ 58 ∧ (23 < (24#8).toNat)
    ∧ (23 < (255#8).toNat) ∧ (∃ t, exec .powerOnReset State.reset = .next t) := by
  refine ⟨rfl, ?_, ?_, ?_, ?_, ?_, ?_, ?_, ⟨_, rfl⟩⟩ <;> decide +kernel

/-- The tables of the reset state have their sizes. -/
theorem reset_tables_sized : TablesSized State.reset.vks := by constructor <;> decide +kernel

/-- KEY_ROUTE 1 and 2, lamp modes 8 and 9, ids 0, 1, 23, 24. -/
theorem witness_SetStoresTheValueUsed : Awake State.reset ∧ TablesSized State.reset.vks
    ∧ (let undefinedValue := fun id x : Nat => (id = 12 ∧ 1 < x) ∨ (18 ≤ id ∧ id ≤ 20 ∧ 8 < x % 16)
       ¬ undefinedValue 1 0 ∧ ¬ undefinedValue 23 (2 ^ 32 - 1) ∧ ¬ undefinedValue 12 1 ∧ undefinedValue 12 2
        ∧ ¬ undefinedValue 18 (64 + 8) ∧ undefinedValue 18 9 ∧ undefinedValue 20 15)
    ∧ (0 = 0 ∨ 23 < 0) ∧ (23 < 24 ∧ 255 < 256)
    ∧ [0#8, 0#8, 0#8, 0#8].length ≠ 5 ∧ [0#8, 0#8, 0#8, 0#8, 0#8, 0#8].length ≠ 5 := by
  refine ⟨rfl, reset_tables_sized, ?_⟩; decide

/-- DUCK_FALL_STEP (1..1024) below, at both ends of and above its range; PLAYOUT_SIZE about a step and its ends. -/
theorem witness_ValuesUsedAreClampedToTheirRanges :
    (3, 1, 1024) ∈ [(1, 0, 16384), (2, 0, 16384), (3, 1, 1024)] ∧ 0 < 1 ∧ 1 ≤ 1 ∧ 1024 ≤ 1024 ∧ 1024 < 1025
    ∧ paramUsed State.reset.vks 3 0 = 1 ∧ paramUsed State.reset.vks 3 1025 = 1024
    ∧ paramUsed State.reset.vks 8 767 = 512 ∧ paramUsed State.reset.vks 8 768 = 768 ∧ paramUsed State.reset.vks 8 2561 = 2560 := by
  decide +kernel

/-- A part with an open transaction that offered no record. -/
def inTransaction (v : Vks) : Vks := { v with port := { v.port with txn := some ⟨0, 0, Latches.clear⟩ } }

theorem witness_TransactionBeginComposesTheSlot :
    Awake State.reset ∧ State.reset.vks.port.txn = none ∧ ReplyFits State.reset.vks ∧ State.reset.vks.port.reply.bulk = []
    ∧ (let s := st (fun v => { v with port := { v.port with reply := ⟨1#8, 0#8, .ok, [0#8, 0#8, 0#8, 0#8], [5#8]⟩ } })
       Awake s ∧ s.vks.port.txn = none ∧ ReplyFits s.vks ∧ s.vks.port.reply.bulk ≠ [] ∧ s.vks.port.reply.bulk.length ≤ 48)
    ∧ (sentUpstream 65 (st inTransaction).vks).isSome :=
  ⟨rfl, rfl, rfl, rfl, ⟨rfl, rfl, rfl, by decide⟩, rfl⟩

theorem witness_SlotsWakeASleepingPart : ¬ Awake (st asleep) ∧ (st asleep).vks.port.txn = none
    ∧ (st asleep).vks.notices.queue.length < 16 := by
  refine ⟨by simp [Awake, st, asleep], ?_⟩; decide

theorem witness_DiscardedSlotDeliversBy64Bytes :
    (st inTransaction).vks.port.txn = some ⟨0, 0, Latches.clear⟩
    ∧ decodeSlot (List.replicate 63 0#8) = .error 1 ∧ decodeSlot (List.replicate 63 0#8 ++ [1#8]) = .error 2
    ∧ (List.replicate 63 0#8 ++ [1#8]).length = 64 ∧ (List.replicate 63 0#8).length ≠ 64
    ∧ (let s := st inTransaction
       s.vks.reader.mainVoice.state = .idle ∧ s.vks.reader.echoVoice.state = .idle ∧ s.vks.sched.queue = []
        ∧ s.vks.sched.echoLine = none) := by decide

/-- 63 and 65 bytes; a wrong sum; kind 3; 30 samples; 59 argument bytes; and an IDLE slot. -/
theorem witness_SlotsAreDiscardedByTheFirstCause :
    (List.replicate 63 0#8).length ≠ 64 ∧ (List.replicate 65 0#8).length ≠ 64
    ∧ (let b := List.replicate 63 0#8 ++ [1#8]; b.length = 64 ∧ byteSum (b.take 62) ≠ fieldAt b 62 2)
    ∧ (let b := slot [3#8]; b.length = 64 ∧ byteSum (b.take 62) = fieldAt b 62 2 ∧ 2 < byteAt b 0)
    ∧ (let b := slot [1#8, 30#8]; b.length = 64 ∧ byteSum (b.take 62) = fieldAt b 62 2 ∧ byteAt b 0 = 1 ∧ 29 < byteAt b 1)
    ∧ (let b := slot [2#8, 59#8]; b.length = 64 ∧ byteSum (b.take 62) = fieldAt b 62 2 ∧ byteAt b 0 = 2 ∧ 58 < byteAt b 1)
    ∧ (let b := slot [0#8, 255#8]; b.length = 64 ∧ byteSum (b.take 62) = fieldAt b 62 2 ∧ byteAt b 0 = 0) := by decide

/-- Slots whose operands are at their ends. -/
theorem witness_DecodeReadsBackEverySlotCommand :
    (Instr.audioSlot true (List.replicate 29 0x8000#16)).wf = true
    ∧ (encodeSlot (.audioSlot true (List.replicate 29 0x8000#16))).isSome = true
    ∧ (Instr.say 255#8 (List.replicate 58 255#8)).wf = true ∧ (encodeSlot (.say 255#8 (List.replicate 58 255#8))).isSome = true
    ∧ encodeSlot .idleSlot = some (List.replicate 64 0#8) := by decide

theorem witness_TransactionEndRunsTheSlotsRow :
    (st inTransaction).vks.port.txn = some ⟨0, 0, Latches.clear⟩ ∧ decodeSlot (slot [0#8]) = .ok .idleSlot := by decide

theorem witness_ReadsAndRefusalsChangeOnlyTheReply : Awake State.reset ∧ (List.replicate 58 0#8).length ≤ 58
    ∧ (after (exec (.set 9#8 []) State.reset)).map (fun v => v.port.reply.result) = some .badArgs
    ∧ (after (exec (.sleep 9#8 []) State.reset)).map (fun v => v.port.reply.result) = some .busy := by
  refine ⟨rfl, ?_⟩; decide +kernel

/-! Words and tables -/

/-- The ends of every operand; a word in use, a pool one item short, and one that just holds the entry. -/
theorem witness_WordPutReplacesTheEntry :
    Awake State.reset ∧ 511 < 512 ∧ (List.replicate 16 48).length ≤ 16 ∧ (∀ c ∈ List.replicate 16 48, 1 ≤ c ∧ c ≤ 48)
    ∧ (∀ c ∈ [1], 1 ≤ c ∧ c ≤ 48) ∧ [2047, 0, 1, 2].length ≤ 4 ∧ (∀ p ∈ [2047, 0, 1, 2], p < 2048)
    ∧ (∀ x, some 2047 = some x → x < 2048)
    ∧ wordHolder 20 (st (spelling .listening .deferred [])).vks ≠ 0
    ∧ (let s := st (fun v => { v with words := { v.words with freeItems := 1 } })
       wordHolder 5 s.vks = 0 ∧ s.vks.words.freeItems + entryItems (s.vks.entry 5) < 2
        ∧ 1 ≤ s.vks.words.freeItems + entryItems (s.vks.entry 5)) := by
  refine ⟨rfl, ?_, ?_, ?_, ?_, ?_, ?_, fun x h => by cases h; decide, ?_⟩ <;> decide +kernel

theorem witness_WordSoundsReplacesTheOverrides :
    (let s := st ready
     Awake s ∧ s.vks.entry 20 = some (cat .deferred) ∧ [some 2047, none, some 0].length = (cat .deferred).letters.length
      ∧ wordHolder 20 s.vks = 0 ∧ 7 ≤ s.vks.words.freeItems + (cat .deferred).items)
    ∧ (let s := st (fun v => { ready v with words := { (ready v).words with freeItems := 2 } })
       wordHolder 20 s.vks = 0 ∧ s.vks.words.freeItems + (cat .deferred).items < 7)
    ∧ (st (spelling .listening .deferred [])).vks.entry 20 = some (cat .deferred)
    ∧ wordHolder 20 (st (spelling .listening .deferred [])).vks ≠ 0 := by
  refine ⟨⟨rfl, ?_⟩, ?_⟩ <;> decide +kernel

theorem witness_WordDropInvalidatesTheEntry : Awake State.reset ∧ wordHolder 511 State.reset.vks = 0
    ∧ wordHolder 20 (st (spelling .listening .deferred [])).vks ≠ 0 ∧ 512 ≤ 512 ∧ 65535 < 65536
    ∧ [0#8].length ≠ 2 ∧ [0#8, 0#8, 0#8].length ≠ 2 := by
  refine ⟨rfl, ?_⟩; decide +kernel

theorem witness_WordGetReturnsTheEntry : Awake (st ready) ∧ (st ready).vks.entry 20 = some (cat .deferred)
    ∧ (st ready).vks.entry 511 = none := by
  refine ⟨rfl, ?_⟩; decide +kernel

theorem witness_AlphabetPutWritesItsItems : Awake State.reset ∧ TablesSized State.reset.vks
    ∧ (let l : List AlphabetItem := List.replicate 8 ⟨48, 3, 2047, 0xFFFF⟩ ++ [⟨1, 1, 0, 0xFFFF⟩]
       1 ≤ l.length ∧ l.length ≤ 9 ∧ ∀ x ∈ l, 1 ≤ x.code ∧ x.code ≤ 48 ∧ 1 ≤ x.selection ∧ x.selection ≤ 3
        ∧ (x.name < 2048 ∨ x.name = 0xFFFF) ∧ (x.sound < 2048 ∨ x.sound = 0xFFFF)) := by
  refine ⟨rfl, reset_tables_sized, ?_⟩; decide

theorem witness_KeymapPutWritesItsPositions : Awake State.reset ∧ TablesSized State.reset.vks
    ∧ (let l : List KeymapEntry := List.replicate 13 ⟨.letter, 48, 1#8⟩ ++ [⟨.pass, 255, 2#8⟩]
       l.length ≤ 14 ∧ 66 + l.length ≤ 80 ∧ ∀ e ∈ l, e.letter < 256 ∧ (e.cls = .letter → 1 ≤ e.letter ∧ e.letter ≤ 48))
    ∧ 79 + [KeymapEntry.mk .letter 1 0#8].length ≤ 80 := by
  refine ⟨rfl, reset_tables_sized, ?_⟩; decide

theorem witness_ResponsePutReplacesTheRow : Awake State.reset ∧ 15 ≤ 15
    ∧ (let l := [(1, 2047), (2, 2), (3, 65535), (9, 0), (4, 65535), (3, 0)]
       l.length ≤ 6 ∧ ∀ p ∈ l, 1 ≤ p.1 ∧ p.1 ≤ 9 ∧ p.2 < 65536 ∧ (p.1 = 1 → p.2 < 2048) ∧ (p.1 = 2 → p.2 ≤ 2)) := by
  refine ⟨rfl, ?_⟩; decide

/-- Starts 1 and 48, 79, 15, and just beyond; selectors 3 and 255. -/
theorem witness_TableGetReturnsTheTables : Awake State.reset ∧ TablesSized State.reset.vks
    ∧ (1 ≤ 1 ∧ 48 ≤ 48 ∧ 79 ≤ 79 ∧ 15 ≤ 15) ∧ (48 < 49 ∧ 79 < 80 ∧ 15 < 16 ∧ 255 < 256) ∧ (2 < 3 ∧ 2 < 255)
    ∧ [0#8].length ≠ 2 := by
  refine ⟨rfl, reset_tables_sized, ?_⟩; decide

/-! Lessons and progress -/

/-- A lesson list whose first word is invalid and whose second is CAT. -/
def withLesson (v : Vks) : Vks := { ready v with lesson := { v.lesson with entries := [⟨3, 1⟩, ⟨20, 2⟩, ⟨20, 0⟩] } }

theorem witness_LessonListRequests : Awake State.reset ∧ 31 ≤ 31
    ∧ (let l := List.replicate 17 (511, 255) ++ [(0, 0)]; 1 ≤ l.length ∧ l.length ≤ 18 ∧ ∀ x ∈ l, x.1 < 512 ∧ x.2 < 256)
    ∧ [(0, 3)].length ≤ 18 := by
  refine ⟨rfl, ?_⟩; decide

theorem witness_LessonStartAndStop :
    (let s := st withLesson
     Awake s ∧ s.vks.attempt.state = .idle ∧ s.vks.lesson.entries = [⟨3, 1⟩] ++ ⟨20, 2⟩ :: [⟨20, 0⟩]
      ∧ (∀ b ∈ [LessonEntry.mk 3 1], s.vks.entry b.word = none) ∧ s.vks.entry 20 = some (cat .deferred))
    ∧ (∀ b ∈ State.reset.vks.lesson.entries, State.reset.vks.entry b.word = none)
    ∧ (let s := st (fun v => { v with lesson := { v.lesson with entries := [⟨3, 1⟩] } })
       s.vks.attempt.state = .idle ∧ (∀ b ∈ s.vks.lesson.entries, s.vks.entry b.word = none)
        ∧ s.vks.notices.queue.length < 16)
    ∧ (st (spelling .listening .deferred [])).vks.attempt.state ≠ .idle
    ∧ (st (spelling .gap .deferred [])).vks.attempt.state = .gap := by
  refine ⟨⟨rfl, ?_⟩, ?_⟩ <;> decide +kernel

/-- Counters at their ends: a full record, one whose counters sum, and a new one. -/
theorem witness_ProgressAndReviewRequests : Awake State.reset ∧ TablesSized State.reset.vks
    ∧ (511 < 512 ∧ 1 ≤ 4 ∧ 4 ≤ 4)
    ∧ (65535 < 65536 ∧ 255 < 256 ∧ 2 ≤ 2 ∧ 7 ≤ 7 ∧ (65535 < 65535 → 0 + 0 + 0 = 65535) ∧ (Mastery.slipping = .new ↔ 65535 = 0))
    ∧ ((3 < 65535 → 1 + 1 + 1 = 3) ∧ (Mastery.known = .new ↔ 3 = 0))
    ∧ ((0 < 65535 → 0 + 0 + 0 = 0) ∧ (Mastery.new = .new ↔ 0 = 0)) := by
  refine ⟨rfl, reset_tables_sized, ?_⟩; decide

/-! Attempts -/

/-- IDLE and GAP with a valid word and its prompt, the amplifier not ON; an open state; no entry; the ends of the bad fields. -/
theorem witness_AttemptOpenFillsTheContext :
    (let s := st (fun v => { ready v with power := v.power })
     Awake s ∧ s.vks.entry 20 = some (cat .deferred) ∧ s.vks.attempt.state = .idle ∧ (cat .deferred).prompts ≠ []
      ∧ s.vks.sched.queue.length < 16 ∧ s.vks.power.amp ≠ .on ∧ s.vks.params.ampWarmup ≠ 0 ∧ s.vks.notices.queue.length < 16)
    ∧ (st (spelling .gap .deferred [])).vks.attempt.state = .gap
    ∧ (st (spelling .gap .deferred [])).vks.entry 20 = some (cat .deferred)
    ∧ (st (spelling .prompting .deferred [])).vks.attempt.state = .prompting
    ∧ (∀ b, (none : Option Nat) = some b → b ≤ 2) ∧ (∀ b, some 2 = some b → b ≤ 2)
    ∧ State.reset.vks.entry 511 = none ∧ (2 < 3 ∧ 255 < 256 ∧ 512 ≤ 512 ∧ 65535 < 65536) ∧ [0#8].length ≠ 2
    ∧ [0#8, 0#8, 0#8, 0#8].length ≠ 3 := by
  refine ⟨⟨rfl, ?_⟩, ?_, ?_, ?_, (by simp), (by simp), ?_⟩ <;> decide +kernel

/-- The part whose prompt plays and is awaited. -/
def prompting (v : Vks) : Vks :=
  onMain (chime .prompt 3) (setContext { (spelling .prompting .deferred [] v).attempt.ctx with
    awaited := some (.prompt, 3), outstanding := [3] } (spelling .prompting .deferred [] v))

theorem witness_AttemptCancelClosesTheAttempt :
    Awake State.reset ∧ State.reset.vks.attempt.state = .idle
    ∧ (st (spelling .prompting .deferred [])).vks.attempt.state = .prompting
    ∧ (st (spelling .responding .deferred [])).vks.attempt.ctx.closed = false
    ∧ (st (spelling .listening .deferred [])).vks.notices.queue.length < 16
    ∧ (let s := st (fun v => setContext { v.attempt.ctx with closed := true } (spelling .responding .deferred [] v))
       Awake s ∧ s.vks.attempt.state = .responding ∧ s.vks.attempt.ctx.closed = true)
    ∧ (st (spelling .gap .deferred [])).vks.attempt.state = .gap
    ∧ (let s := st prompting
       s.vks.reader.mainVoice.state ≠ .idle ∧ s.vks.attempt.ctx.awaited = some (.prompt, 3)
        ∧ s.vks.reader.mainVoice.utterance = some { chime .prompt 3 with playItem := 1 } ∧ 3 ∈ s.vks.attempt.ctx.outstanding)
    ∧ (let s := st (fun v => onMain (chime .say 9) (prompting v))
       s.vks.reader.mainVoice.utterance = some { chime .say 9 with playItem := 1 } ∧ 9 ∉ s.vks.attempt.ctx.outstanding) := by
  refine ⟨rfl, ?_, ?_, ?_, ?_, ⟨rfl, ?_⟩, ?_⟩ <;> decide

/-- An echo of a CHIME with identity 4 that plays on the echo voice, `age` of its samples drawn and the ring given. -/
def echoing (age : Nat) (ring : List RingSample) (v : Vks) : Vks :=
  { ready v with reader := { (ready v).reader with echoVoice := { v.reader.echoVoice with
      state := .playing, readItem := 1, ring := ring
      utterance := some { chime .echo 4 with playItem := 1, playSamples := age } } } }

/-- A part whose shelf is occupied. -/
def withShelf (state : AttemptState) (v : Vks) : Vks :=
  { spelling state .deferred [3] v with attempt := { (spelling state .deferred [3] v).attempt with
      shelf := some { Context.cleared with word := 20, tryNumber := 1 } } }

theorem witness_ShelveAndUnshelveMoveTheAttempt :
    (let s := st (spelling .listening .deferred [3]); Awake s ∧ s.vks.attempt.state = .listening ∧ s.vks.attempt.shelf = none)
    ∧ (let s := st (withShelf .prompting)
       Awake s ∧ s.vks.attempt.state = .prompting ∧ s.vks.attempt.shelf = some { Context.cleared with word := 20, tryNumber := 1 }
        ∧ s.vks.notices.queue.length < 16)
    ∧ (st (spelling .responding .deferred [])).vks.attempt.state = .responding
    ∧ (State.reset.vks.attempt.state = .idle ∧ State.reset.vks.attempt.shelf = none)
    ∧ ((st (withShelf .gap)).vks.attempt.state = .gap ∧ (st (withShelf .idle)).vks.attempt.state = .idle)
    ∧ (let s := st prompting
       s.vks.reader.mainVoice.state ≠ .idle ∧ s.vks.reader.mainVoice.utterance = some { chime .prompt 3 with playItem := 1 }
        ∧ 3 ∈ s.vks.attempt.ctx.outstanding ∧ 9 ∉ s.vks.attempt.ctx.outstanding ∧ s.vks.reader.echoVoice.state = .idle)
    ∧ (st (echoing 1 [])).vks.reader.echoVoice.state ≠ .idle
    ∧ (let s := st (fun v => { withShelf .idle v with power := v.power })
       s.vks.entry 20 = some (cat .deferred) ∧ (cat .deferred).prompts ≠ [] ∧ s.vks.sched.queue.length < 16
        ∧ s.vks.power.amp ≠ .on ∧ s.vks.params.ampWarmup ≠ 0 ∧ s.vks.notices.queue.length < 16) := by
  refine ⟨⟨rfl, ?_⟩, ⟨rfl, ?_⟩, ?_⟩ <;> decide +kernel

theorem witness_AttemptGetReturnsTheContext : Awake (st (spelling .listening .deferred (List.replicate 18 1)))
    ∧ (st (spelling .listening .deferred (List.replicate 18 1))).vks.attempt.ctx.buffer.length ≤ 18 := by
  refine ⟨rfl, ?_⟩; decide

/-- One pair of lists for each rule: CAT CAT, CAT CAR, CAT ACT, SEE SE (removing the first E first), SEE SEEE, CAT TAC. -/
theorem witness_GradingFollowsTheSixRules :
    (∀ i, i ≠ 3 → letterAt [3, 1, 18] i = letterAt [3, 1, 20] i) ∧ letterAt [3, 1, 18] 3 ≠ letterAt [3, 1, 20] 3
    ∧ (∀ i, i ≠ 1 → i ≠ 2 → letterAt [1, 3, 20] i = letterAt [3, 1, 20] i)
    ∧ (letterAt [1, 3, 20] 1 = letterAt [3, 1, 20] 2 ∧ letterAt [1, 3, 20] 2 = letterAt [3, 1, 20] 1)
    ∧ ([19, 5, 5].eraseIdx (2 - 1) = [19, 5] ∧ ∀ q, q < 2 → ¬ (1 ≤ q ∧ q ≤ 3 ∧ [19, 5, 5].eraseIdx (q - 1) = [19, 5]))
    ∧ ([19, 5, 5, 5].eraseIdx (2 - 1) = [19, 5, 5]
        ∧ ∀ q, q < 2 → ¬ (1 ≤ q ∧ q ≤ 4 ∧ [19, 5, 5, 5].eraseIdx (q - 1) = [19, 5, 5]))
    ∧ ([20, 1, 3] ≠ [3, 1, 20] ∧ (∀ p, p ≤ 3 → ¬ ∀ i, i < 4 → i ≠ p → letterAt [20, 1, 3] i = letterAt [3, 1, 20] i)
        ∧ (∀ p, p ≤ 3 → ¬ ∀ i, i < 4 → i ≠ p → i ≠ p + 1 → letterAt [20, 1, 3] i = letterAt [3, 1, 20] i)) := by
  refine ⟨?_, by decide, ?_, by decide, by decide, by decide, by decide⟩
  · rintro (_ | _ | _ | _ | i) h <;> simp_all [letterAt]
  · rintro (_ | _ | _ | _ | i) h h2 <;> simp_all [letterAt]

/-- The part with a mistake limit of 3 and some mistakes made. -/
def mistaken (n : Nat) (typed : List Nat) : Vks :=
  setContext { (spelling .listening .immediate typed State.reset.vks).attempt.ctx with mistakes := n }
    (spelling .listening .immediate typed State.reset.vks)

/-- The attempt of `mistaken 0 [3]` with hint position 2, a hint stage, and hint limit 3. -/
def hinted (stage : Nat) : Vks :=
  setContext { (mistaken 0 [3]).attempt.ctx with
    hintPosition := 2, hintStage := stage, settings := { (cat .immediate).settings with hintLimit := 3 } } (mistaken 0 [3])

/-- A match before the last letter, the last letter, mistakes below and at the limit, and hints at each stage and at the limit. -/
theorem witness_LettersInImmediateMode :
    (let v := mistaken 0 [3]
     v.attempt.state = .listening ∧ v.attempt.ctx.settings.checkMode = .immediate ∧ v.attemptEntry = some (cat .deferred)
      ∧ v.attempt.ctx.buffer.length < (cat .deferred).letters.length ∧ letterAt (cat .deferred).letters 2 = some 1)
    ∧ (let v := mistaken 0 [3, 1]
       v.attempt.ctx.buffer.length + 1 = (cat .deferred).letters.length ∧ v.lesson.auto = false
        ∧ letterAt (cat .deferred).letters 3 = some 20)
    ∧ (let v := mistaken 1 [3]
       letterAt (cat .deferred).letters 2 ≠ some 5 ∧ v.attempt.ctx.mistakes + 1 < v.attempt.ctx.settings.mistakeLimit)
    ∧ (let v := mistaken 2 [3]
       v.attempt.ctx.settings.mistakeLimit ≤ v.attempt.ctx.mistakes + 1 ∧ v.lesson.auto = false)
    ∧ (let v := mistaken 1 [3]
       expandAll v ⟨some (cat .deferred), [3], 2, none⟩ (v.row 12) ≠ [] ∧ v.sched.queue.length < 16)
    ∧ (∀ k ∈ [0, 1, 2], (hinted k).attempt.ctx.buffer = (cat .deferred).letters.take 1 ∧ (hinted k).attempt.ctx.hintPosition = 2
      ∧ (hinted k).attempt.ctx.hintStage = k ∧ k < (hinted k).attempt.ctx.settings.hintLimit
      ∧ (hinted k).attempt.ctx.hintsUsed ≤ 255 ∧ (hinted k).sched.queue.length < 16)
    ∧ (hinted 3).attempt.ctx.settings.hintLimit ≤ (hinted 3).attempt.ctx.hintStage
    ∧ letterAt (cat .deferred).letters 2 = some 1 := by decide +kernel

/-- A buffer one short of its capacity of 5, at it, and empty; hints at the first letter, past the target, and at the limit of 1; a
repeat; a prompt with barge that is awaited, and one without; and the states that ignore. -/
theorem witness_KeysInDeferredMode :
    (let v := (st (spelling .listening .deferred [3, 1, 1, 1])).vks
     v.attempt.state = .listening ∧ v.attempt.ctx.settings.checkMode = .deferred ∧ v.attemptEntry = some (cat .deferred)
      ∧ v.attempt.ctx.buffer.length < min ((cat .deferred).letters.length + 2) 18 ∧ v.attempt.ctx.buffer ≠ []
      ∧ v.lesson.auto = false)
    ∧ (min ((cat .deferred).letters.length + 2) 18 ≤ (st (spelling .listening .deferred [3, 1, 1, 1, 1])).vks.attempt.ctx.buffer.length)
    ∧ (st (spelling .listening .deferred [])).vks.attempt.ctx.buffer = []
    ∧ (st (spelling .responding .deferred [])).vks.attempt.state = .responding
    ∧ (let v := (st (spelling .listening .deferred [1])).vks
       letterAt v.attempt.ctx.buffer 1 ≠ letterAt (cat .deferred).letters 1
        ∧ v.attempt.ctx.buffer.take (1 - 1) = (cat .deferred).letters.take (1 - 1) ∧ v.attempt.ctx.hintsUsed ≤ 255
        ∧ v.attempt.ctx.hintPosition ≠ 1 ∧ 0 < v.attempt.ctx.settings.hintLimit ∧ v.sched.queue.length < 16
        ∧ expandAll v ⟨some (cat .deferred), [1], 1, none⟩ [.letterSoundAt] ≠ [])
    ∧ (let v := (st (spelling .listening .deferred [3, 1, 20, 1])).vks
       v.attempt.ctx.buffer.take (cat .deferred).letters.length = (cat .deferred).letters
        ∧ expandAll v ⟨some (cat .deferred), [3, 1, 20, 1], 0, none⟩ [.word] ≠ [])
    ∧ (let v := setContext { (st (spelling .listening .deferred [1])).vks.attempt.ctx with hintPosition := 1, hintStage := 1 }
         (st (spelling .listening .deferred [1])).vks
       v.attempt.ctx.settings.hintLimit ≤ v.attempt.ctx.hintStage ∧ v.attempt.ctx.hintPosition = 1)
    ∧ (let v := (st (spelling .listening .deferred [])).vks
       (cat .deferred).prompts ≠ [] ∧ expandAll v ⟨some (cat .deferred), [], 0, none⟩ [.prompt] ≠ [] ∧ v.sched.queue.length < 16)
    ∧ (let v := (st prompting).vks
       v.attempt.state = .prompting ∧ v.attempt.ctx.settings.barge = true ∧ v.attempt.ctx.awaited = some (.prompt, 3))
    ∧ (let v := setContext { (st prompting).vks.attempt.ctx with settings := { (cat .deferred).settings with barge := false } }
         (st prompting).vks
       v.attempt.state = .prompting ∧ v.attempt.ctx.settings.barge = false) := by decide +kernel

/-- The reset part with the record of word 0 given. -/
def withRecord (r : ProgressRecord) : Vks :=
  { State.reset.vks with lesson := { State.reset.vks.lesson with records := State.reset.vks.lesson.records.set 0 r } }

/-- Records in each mastery, a full counter, a streak that reaches KNOWN_STREAK 3 and one that does not, slips 0 and 1, a mastery
that changes and one that stays, a full review list, and room in the lesson list and none. -/
theorem witness_ClosesAreCountedInTheRecord : TablesSized State.reset.vks
    ∧ (let r := State.reset.vks.record 511
       r.attempts ≤ 65535 ∧ r.passes ≤ 65535 ∧ r.assisted ≤ 65535 ∧ r.misses ≤ 65535 ∧ r.streak ≤ 255 ∧ r.mastery = .new)
    ∧ (let r := (withRecord ⟨65535, 0, 0, 0, 255, 1, 1, .slipping⟩).record 0
       r.attempts ≤ 65535 ∧ r.mastery = .slipping ∧ r.slips ≤ 1 ∧ r.streak ≤ 255)
    ∧ ((withRecord ⟨3, 3, 0, 0, 3, 0, 1, .known⟩).record 0).mastery = .known
    ∧ (withRecord ⟨3, 3, 0, 0, 3, 0, 1, .known⟩).lesson.entries.length < 32
    ∧ (countClose 0 .exact .pass .command (withRecord ⟨2, 2, 0, 0, 2, 0, 1, .learning⟩)).record 0
        = ⟨3, 3, 0, 0, 3, 0, 1, .known⟩
    ∧ ((countClose 0 .wrong .miss .command (withRecord ⟨2, 2, 0, 0, 2, 0, 1, .learning⟩)).record 0).mastery = .learning
    ∧ (withRecord ⟨2, 2, 0, 0, 2, 0, 1, .learning⟩).notices.queue.length < 16
    ∧ (withRecord ⟨4, 3, 0, 1, 0, 0, 6, .slipping⟩).params.knownStreak = 3
    ∧ ((withRecord ⟨4, 3, 0, 1, 0, 0, 6, .slipping⟩).record 0).slips = 0
    ∧ (let v := withRecord ProgressRecord.zero
       let full := { v with lesson := { v.lesson with
         review := (List.range 32).map (· + 1), entries := List.replicate 32 ⟨1, 0⟩ } }
       ¬ (full.lesson.review.filter (fun x => x ≠ 0)).length < 32 ∧ 32 ≤ full.lesson.entries.length) := by
  refine ⟨reset_tables_sized, ?_⟩; decide +kernel

/-! Utterances -/

/-- Without an attempt; a position 0, inside and beyond the list; an EXTRA verdict; overrides absent and present; identities 1 and
65535; a state in which a SAY finds an attempt and one in which it finds none. -/
theorem witness_ResponsePutReplacesTheRow_parts :
    (let e := cat .deferred
     (Expansion.mk none [3] 1 none).entry = none ∧ (Expansion.mk (some e) [3] 1 none).entry = some e
      ∧ (0 = 0 ∨ e.letters.length < 0) ∧ e.letters.length < 4 ∧ e.letters[3 - 1]? = some 20 ∧ 1 ≤ 3
      ∧ [3, 1, 20, 1][4 - 1]? = some 1 ∧ e.overrides = none
      ∧ { e with overrides := some [none, some 7, none] }.overrides = some [none, some 7, none]
      ∧ [none, some 7, (none : Option Nat)].length = e.letters.length ∧ (none : Option Verdict) ≠ some .extra)
    ∧ (1 ≤ 1 ∧ 65535 ≤ 65535)
    ∧ (st (spelling .listening .deferred [])).vks.attempt.state = .listening ∧ State.reset.vks.attempt.state = .idle := by decide

theorem witness_SayJoinsTheMainQueue :
    (let s := st (fun v => onMain (chime .say 1) (ready v))
     Awake s ∧ s.vks.sched.queue.length < 16 ∧ s.vks.reader.mainVoice.state ≠ .idle
      ∧ expandAll s.vks (sayExpansion s.vks) ([(2, 2)].map partOf) ≠ [])
    ∧ (let s := st ready
       s.vks.reader.mainVoice.state = .idle ∧ s.vks.sched.queue = [] ∧ s.vks.reader.store = .usable
        ∧ expandAll s.vks (sayExpansion s.vks) ([(4, 0)].map partOf) = [])
    ∧ (16 ≤ (st (waiting (List.replicate 16 (chime .say 1)))).vks.sched.queue.length)
    ∧ (let l := List.replicate 18 (9, 65535)
       l.length ≤ 18 ∧ ∀ p ∈ l, 1 ≤ p.1 ∧ p.1 ≤ 9 ∧ p.2 < 65536 ∧ (p.1 = 1 → p.2 < 2048) ∧ (p.1 = 2 → p.2 ≤ 2)) := by
  refine ⟨⟨rfl, ?_⟩, ?_⟩ <;> decide +kernel

/-- A full queue of one source. -/
def full (source : Source) : List Utterance := List.replicate 16 (chime source 2)

/-- An echo line with an echo of one item. -/
def lined (item : Item) (v : Vks) : Vks :=
  { v with sched := { v.sched with echoLine := some { chime .echo 6 with items := [item] } } }

/-- A free main voice behind waiting SAY utterances; a busy one with room, and with a full queue of SAY and of engine utterances; an
echo for a free voice of an open store and of a claimed one, for one in WAITING_AMP, and for one that plays below its floor of 2400
and at it; a waiting echo that takes over at the floor, at the end, and one that is not admitted. -/
theorem witness_SayJoinsTheMainQueue_places :
    (let v := (st (fun v => waiting [chime .say 2] (ready v))).vks
     v.reader.mainVoice.state = .idle ∧ v.reader.store = .usable ∧ (∀ y ∈ v.sched.queue, y.source = .say))
    ∧ (let v := (st (fun v => waiting [chime .prompt 3, chime .say 2] (onMain (chime .say 1) (ready v)))).vks
       v.sched.queue = [chime .prompt 3] ++ [chime .say 2] ∧ v.reader.mainVoice.state ≠ .idle ∧ v.sched.queue.length < 16
        ∧ (∀ y ∈ [chime .say 2], y.source = .say) ∧ (∀ y, [chime .prompt 3].getLast? = some y → y.source ≠ .say))
    ∧ (let v := (st (fun v => waiting (full .say) (onMain (chime .say 1) (ready v)))).vks
       v.sched.queue = [] ++ List.replicate 15 (chime .say 2) ++ [chime .say 2] ∧ 16 ≤ v.sched.queue.length
        ∧ v.notices.queue.length < 16 ∧ ∃ y ∈ v.sched.queue, y.source = .say)
    ∧ (let v := (st (fun v => waiting (full .hint) (ready v))).vks
       (∀ y ∈ v.sched.queue, y.source ≠ .say) ∧ 16 ≤ v.sched.queue.length ∧ 1 ≤ v.sched.nextId ∧ v.sched.nextId ≤ 65535)
    ∧ (expandAll State.reset.vks ⟨none, [], 0, none⟩ [.word] = [] ∧ expandAll State.reset.vks ⟨none, [], 0, none⟩ [.tone .buzz] ≠ [])
    ∧ ((st ready).vks.reader.echoVoice.state = .idle ∧ (st (store .claimed .idle)).vks.reader.echoVoice.state = .idle
      ∧ (st (store .claimed .idle)).vks.reader.store ≠ .usable ∧ ¬ ∃ k : Tone, [Item.seg 7] = [.tone k])
    ∧ (let v := (st (fun v => setVoice .echo { (echoing 0 [] v).reader.echoVoice with state := .waitingAmp } (ready v))).vks
       v.reader.echoVoice.state = .waitingAmp)
    ∧ (let s := fun age => st (fun v => lined (.tone .click) (echoing age [⟨256, none, none⟩] v))
       (s 2400).vks.params.echoCutFloor * 16 ≤ 2400 ∧ 2399 < (s 2399).vks.params.echoCutFloor * 16
        ∧ (s 2399).vks.reader.echoVoice.utterance = some { chime .echo 4 with playItem := 1, playSamples := 2399 }
        ∧ (s 2399).vks.sched.echoLine = some { chime .echo 6 with items := [.tone .click] }
        ∧ (s 2399).vks.power.amp = .on ∧ (s 2399).vks.reader.echoVoice.state = .playing
        ∧ (s 2399).vks.reader.echoVoice.leadIn = false
        ∧ ((s 2399).vks.reader.echoVoice.ring.head?).map RingSample.begins = some none
        ∧ 2399 + 1 = (s 2399).vks.params.echoCutFloor * 16 ∧ (s 2399).vks.reader.echoVoice.readItem ≠ 0)
    ∧ (∀ y ∈ (st (echoing 1 [])).vks.sched.echoLine.toList ++ (st (echoing 1 [])).vks.reader.echoVoice.utterance.toList,
        y.id ≠ (st (echoing 1 [])).vks.sched.nextId)
    ∧ (let s := st (fun v => store .claimed .idle (lined (.seg 7) (echoing 2399 [⟨256, none, none⟩] v)))
       s.vks.reader.store = .claimed ∧ s.vks.sched.echoLine = some { chime .echo 6 with items := [.seg 7] })
    ∧ Awake (st (echoing 1 [])) := by
  refine ⟨?_, ⟨?_, ?_, ?_, ?_, ?_⟩, ?_, ?_, ?_, ⟨?_, ?_, ?_, by simp⟩, ?_, ?_, ?_, ?_, rfl⟩ <;> decide +kernel

theorem witness_SilenceEndsWhatItsScopeNames :
    (let s := st (fun v => waiting [chime .say 2] (onMain (chime .say 1) (ready v)))
     Awake s ∧ s.vks.attempt.ctx.outstanding = []
      ∧ s.vks.notices.queue.length + ((s.vks.reader.mainVoice.utterance.toList ++ s.vks.sched.queue).filter
          (fun u => u.source = .say)).length ≤ 16)
    ∧ (let s := st prompting
       let u : Utterance := { chime .prompt 3 with playItem := 1 }
       Awake s ∧ s.vks.attempt.state = .prompting ∧ s.vks.attempt.ctx.awaited = some (.prompt, u.id)
        ∧ s.vks.attempt.ctx.outstanding = [u.id] ∧ s.vks.reader.mainVoice.utterance = some u ∧ u.source = .prompt
        ∧ s.vks.reader.mainVoice.state ≠ .idle ∧ u.source ≠ .say)
    ∧ (2 < (3#8).toNat ∧ 2 < (255#8).toNat) ∧ [0#8].length ≠ 2 ∧ [0#8, 0#8, 0#8].length ≠ 2 := by
  refine ⟨⟨rfl, ?_⟩, ⟨rfl, ?_⟩, ?_⟩ <;> decide

theorem witness_QueueGetReturnsVoicesAndQueue : Awake State.reset ∧ 15 ≤ 15 ∧ 15 < 16 ∧ 255 < 256 ∧ [0#8, 0#8].length ≠ 1
    ∧ ([] : List Byte).length ≠ 1 := by
  refine ⟨rfl, ?_⟩; decide

/-! The store -/

theorem witness_StoreClaimAndReleaseByStoreState :
    (let s := st ready
     Awake s ∧ s.vks.reader.store = .usable ∧ s.vks.reader.engine = .idle ∧ s.vks.attempt.ctx.outstanding = []
      ∧ s.vks.sched.echoLine = none)
    ∧ (st (store .unusable .idle)).vks.reader.store = .unusable
    ∧ (let s := st (store .usable (.entryRead .main 7 true)); s.vks.reader.store = .usable ∧ s.vks.reader.engine ≠ .idle)
    ∧ State.reset.vks.reader.store = .checking
    ∧ (st (store .claimPending .header)).vks.reader.store = .claimPending
    ∧ ((st (store .claimed .idle)).vks.reader.store = .claimed ∧ ∀ op, (st (store .claimed .idle)).vks.reader.engine ≠ .link op)
    ∧ (∃ op, (st (store .claimed (.link (.erase 0)))).vks.reader.engine = .link op) := by
  refine ⟨⟨rfl, ?_⟩, ?_, ?_, ?_, ?_, ⟨?_, fun op => by simp [st, store]⟩, ⟨_, rfl⟩⟩ <;> decide

/-- Each argument at the ends of its range: a page's last byte, a whole 32 bytes, the last sector, the last 48 bytes. -/
theorem witness_LinkOperationsNeedAClaim :
    Awake (st (store .claimed .idle)) ∧ (st (store .claimed .idle)).vks.reader.store = .claimed
    ∧ State.reset.vks.reader.store ≠ .claimed
    ∧ (let a := 0xFEFFFF; let d := [0#8]; a < 0x1000000 ∧ 1 ≤ d.length ∧ d.length ≤ 32 ∧ a ≤ 0xFEFFFF ∧ a % 256 + d.length ≤ 256)
    ∧ (let a := 0xFEFFE0; let d := List.replicate 32 0#8; d.length ≤ 32 ∧ a ≤ 0xFEFFFF ∧ a % 256 + d.length ≤ 256)
    ∧ (32 < (List.replicate 33 0#8).length ∧ (List.replicate 54 0#8).length ≤ 54)
    ∧ (0xFEFFFF < 0xFF0000 ∧ 0xFF0000 < 0x1000000 ∧ 256 < 0xFF % 256 + [0#8, 0#8].length)
    ∧ (0xFEF000 ≤ 0xFEFFFF ∧ 0xFEF000 % 4096 = 0 ∧ 0xFEFFFF % 4096 ≠ 0)
    ∧ (1 ≤ 48 ∧ 0xFEFFD0 + 48 ≤ 0xFF0000 ∧ 48 < 49 ∧ 49 < 256 ∧ 0xFF0000 < 0xFEFFD1 + 48) := by
  refine ⟨rfl, ?_⟩; decide

theorem witness_FetchAndFaultGetReturnWhatIsHeld :
    Awake State.reset ∧ (∀ a n, State.reset.vks.reader.engine ≠ .link (.read a n)) ∧ State.reset.vks.reader.holding = none
    ∧ (∃ a n, (st (store .claimed (.link (.read 0 48)))).vks.reader.engine = .link (.read a n))
    ∧ (∃ h, (st (fun v => { v with reader := { v.reader with holding := some ⟨0, [1#8]⟩ } })).vks.reader.holding = some h) :=
  ⟨rfl, (fun _ _ h => nomatch h), rfl, ⟨_, _, rfl⟩, ⟨_, rfl⟩⟩

/-- Operations that end at the last byte of the flash, and ones that pass it. -/
theorem witness_LinkOperationEnds :
    (let s := st (store .claimed (.link (.write 0xFEFFFF [0x55#8])))
     s.vks.reader.store = .claimed ∧ s.flash.wf = true ∧ s.vks.notices.queue.length < 16
      ∧ s.vks.reader.engine = .link (.write 0xFEFFFF [0x55#8]) ∧ 0xFEFFFF + [0x55#8].length ≤ 0xFF0000
      ∧ (∀ i, i < [0x55#8].length → s.flash.read (0xFEFFFF + i) &&& [0x55#8].getD i 0#8 = [0x55#8].getD i 0#8))
    ∧ (st (store .claimed (.link (.erase 0xFEF000)))).vks.reader.engine = .link (.erase 0xFEF000) ∧ 0xFEF000 + 4096 ≤ 0xFF0000
    ∧ (st (store .claimed (.link (.read 0xFEFFD0 48)))).vks.reader.engine = .link (.read 0xFEFFD0 48)
    ∧ 0xFEFFD0 + 48 ≤ 0xFF0000
    ∧ 0xFF0000 < 0xFF0000 + [0#8].length ∧ 0xFF0000 < 0xFF0000 + 4096 ∧ 0xFF0000 < 0xFEFFD1 + 48 := by decide

/-- A flash that holds the header of 06 section 6.1 (300 segments, 4 units, check 0x00DA) or one that differs from it. -/
def headerState (bytes : List Byte) : State := { State.reset with flash := Flash.erased.program 0 bytes }

/-- The header of the worked example. -/
def header : List Byte :=
  [0x53#8, 0x56#8, 0x2C#8, 0x01#8, 0x04#8, 0#8, 0#8, 0#8, 0#8, 0#8, 0#8, 0#8, 0#8, 0#8, 0xDA#8, 0#8]

/-- The header's byte `i` as a number. -/
def headerByte (s : State) (i : Nat) : Nat := (s.flash.read i).toNat

/-- Its check. -/
def headerSum (s : State) : Nat := (List.range 14).foldl (fun n i => n + headerByte s i) 0 % 65536

/-- 06 section 6.1: the store of the worked example is good, and 300 and 4 come into force. -/
theorem test_header_check : (after (exec (.headerCheckEnd true [] []) (headerState header))).map
    (fun v => (v.reader.store, v.reader.headerOutcome, v.reader.segmentCount, v.reader.storeSize))
      = some (.usable, .good, 300, 4) := by decide +kernel

/-- The reset state, the worked example's header, and headers that fail each step: a wrong check (erased flash), a wrong mark,
counts 0 and 2049, size 0; a pending claim; an interrupted write and erase, inside the flash and past its end. -/
theorem witness_HeaderCheckDecidesTheStore :
    (State.reset.vks.reader.engine = .header ∧ State.reset.vks.reader.interrupted = none
      ∧ headerSum State.reset ≠ headerByte State.reset 14 + 256 * headerByte State.reset 15)
    ∧ (let s := headerState header
       headerSum s = headerByte s 14 + 256 * headerByte s 15 ∧ headerByte s 0 + 256 * headerByte s 1 = 0x5653
        ∧ headerByte s 2 + 256 * headerByte s 3 = 300 ∧ headerByte s 4 = 4)
    ∧ (let s := headerState (List.replicate 16 0#8)
       headerSum s = headerByte s 14 + 256 * headerByte s 15 ∧ headerByte s 0 + 256 * headerByte s 1 ≠ 0x5653)
    ∧ (let s := headerState ([0x53#8, 0x56#8] ++ List.replicate 12 0#8 ++ [0xA9#8, 0#8])
       headerSum s = headerByte s 14 + 256 * headerByte s 15 ∧ headerByte s 2 + 256 * headerByte s 3 < 1)
    ∧ (let s := headerState ([0x53#8, 0x56#8, 1#8, 8#8] ++ List.replicate 10 0#8 ++ [0xB2#8, 0#8])
       headerSum s = headerByte s 14 + 256 * headerByte s 15 ∧ 2048 < headerByte s 2 + 256 * headerByte s 3)
    ∧ (let s := headerState ([0x53#8, 0x56#8, 0#8, 8#8] ++ List.replicate 10 0#8 ++ [0xB1#8, 0#8])
       headerSum s = headerByte s 14 + 256 * headerByte s 15 ∧ headerByte s 2 + 256 * headerByte s 3 ≤ 2048 ∧ headerByte s 4 = 0) := by
  decide +kernel

/-- The reset part with an operation that a reset cut off. -/
def interruptedBy (op : LinkOp) : State := st (fun v => { v with reader := { v.reader with interrupted := some op } })

theorem witness_HeaderCheckDecidesTheStore_claim :
    (let s := st (store .claimPending .header)
     s.vks.reader.engine = .header ∧ s.vks.reader.store = .claimPending ∧ s.vks.attempt.ctx.outstanding = []
      ∧ s.vks.notices.queue.length + 2 < 16 ∧ s.vks.reader.interrupted = none)
    ∧ ((interruptedBy (.write 0xFEFFFF [0#8])).vks.reader.interrupted = some (.write 0xFEFFFF [0#8])
      ∧ (interruptedBy (.erase 0xFEF000)).vks.reader.interrupted = some (.erase 0xFEF000)
      ∧ State.reset.flash.wf = true ∧ 0xFEFFFF + [0#8].length ≤ 0xFF0000 ∧ 0xFEF000 + 4096 ≤ 0xFF0000)
    ∧ ((interruptedBy (.write 0xFF0000 [0#8])).vks.reader.engine = .header ∧ 0xFF0000 < 0xFF0000 + [0#8].length
      ∧ 0xFF0000 < 0xFEF001 + 4096) := by decide

/-- The directory entry of segment 7 of 06 section 6.1: start 4096, 1000 samples, rate 0, level 100, at address 72. -/
def entryState : State :=
  { st (fun v => store .usable (.entryRead .main 7 true) (onMain (chime .say 1) (ready v))) with
    flash := Flash.erased.program 72 [0x00#8, 0x10#8, 0x00#8, 0xE8#8, 0x03#8, 0#8, 100#8, 0#8] }

/-- A readable entry, and one with no samples, for a voice that reads its first item into a ring with room. -/
theorem witness_DirectoryReadEndTakesTheEntry :
    (let s := entryState
     s.vks.reader.engine = .entryRead .main 7 true ∧ s.vks.reader.store = .usable ∧ (s.vks.voice .main).state = .playing
      ∧ 16 + 8 * 7 + 8 ≤ 0xFF0000 ∧ headerByte s 75 + 256 * headerByte s 76 = 1000
      ∧ 4096 + (1000 + 255) / 256 * 258 ≤ s.vks.reader.storeSize * 65536 ∧ headerByte s 77 = 0)
    ∧ (let s := { entryState with flash := entryState.flash.program 75 [0#8, 0#8] }
       headerByte s 75 + 256 * headerByte s 76 = 0 ∧ s.vks.notices.queue.length < 16 ∧ (s.vks.voice .main).readItem ≠ 0
        ∧ 0 < (3072 - s.vks.mixer.sizeInForce) / 2 - (s.vks.voice .main).ring.length)
    ∧ 0xFF0000 < 16 + 8 * 2088958 + 8 := by decide +kernel

/-- 06 section 6.1: segment 7's entry goes into the voice. -/
theorem test_directory_entry : (after (exec (.directoryReadEnd []) entryState)).map
    (fun v => (v.reader.mainVoice.dir, v.reader.mainVoice.samplesLeft)) = some (some ⟨4096, 1000, 0, 100⟩, 1000) := by
  decide +kernel

/-- A voice that waits for a block of an erased flash (its bytes 0xFF, its check 0xFFFF, which is not 256 × 255 = 0xFF00) or of
one whose check bytes are programmed. -/
def blockState (full : Bool) : State :=
  { st (fun v => setVoice .main { (onMain (chime .say 1) (ready v)).reader.mainVoice with dir := some ⟨4096, 1000, 0, 100⟩ }
      { (store .usable (.blockRead .main 7 0 4096 256 0 true) (ready v)) with
        reader := { (store .usable (.blockRead .main 7 0 4096 256 0 true) (ready v)).reader with
          fault := ⟨full, 0, 0, 0, 255⟩ } }) with
    flash := Flash.erased.program 4352 [0x00#8] }

/-- A check that passes, one that a misreading fails once, one that fails twice, with the record empty and full. -/
theorem witness_BlockReadEndFeedsTheRing :
    (let s := blockState false
     let passes := fun (b : List Byte) => byteSum (b.take 256) = fieldAt b 256 2
     s.vks.reader.engine = .blockRead .main 7 0 4096 256 0 true ∧ s.vks.reader.store = .usable
      ∧ (s.vks.voice .main).state = .playing ∧ (s.vks.voice .main).dir = some ⟨4096, 1000, 0, 100⟩
      ∧ (s.vks.voice .main).utterance = some { chime .say 1 with playItem := 1 } ∧ 256 ≤ 256 ∧ 4096 + 258 ≤ 0xFF0000
      ∧ passes (misread (s.flash.readBytes 4096 258) []) ∧ ¬ passes (misread (s.flash.readBytes 4096 258) [(0, 9#8)])
      ∧ s.vks.reader.fault.full = false ∧ s.vks.notices.queue.length < 16)
    ∧ ((blockState true).vks.reader.fault.full = true ∧ (blockState true).vks.reader.fault.more ≤ 255)
    ∧ 0xFF0000 < 0xFEFEFF + 258 := by decide +kernel

/-! Keys -/

/-- All positions up with count 7, so that DEBOUNCE 8 takes a press at this scan; the matrix with one position closed. -/
theorem witness_KeyScanDebouncesAndReports :
    (let s := st (keysUp 7)
     Awake s ∧ TablesSized s.vks ∧ s.vks.params.debounce ≤ (s.vks.keyAt 79).count + 1
      ∧ (∀ q, q < 80 → q ≠ 79 → (BitVec.ofNat 80 (2 ^ 79)).getLsbD q = (s.vks.keyAt q).standing.isSome)
      ∧ (BitVec.ofNat 80 (2 ^ 79)).getLsbD 79 = true ∧ (s.vks.keyAt 79).standing = none ∧ s.vks.keys.ghostBlock = false
      ∧ s.vks.keys.reports.length < 16 ∧ s.vks.keys.held.length < 4 ∧ (∀ h ∈ s.vks.keys.held, h.position ≠ 79)
      ∧ (s.vks.keymapAt 79).cls = .pass
      ∧ (∀ r, r < 8 → ∀ c, c < 10 → (s.vks.keyAt (r * 10 + c)).standing = none)) := by
  refine ⟨rfl, by constructor <;> decide +kernel, ?_⟩; decide +kernel

/-- Positions 1, 10 and 11 down and 0 pressed: the fourth corner of a rectangle. -/
def rectangle (v : Vks) : Vks :=
  let up := List.replicate 80 (KeyPosition.mk none 7)
  let down : KeyPosition := ⟨some .tracked, 0⟩
  let held : HeldKey := ⟨11, ⟨.pass, 0, 11#8⟩, 0#16, .passed, true⟩
  { v with keys := { v.keys with positions := ((up.set 1 down).set 10 down).set 11 down, held := [held] } }

theorem witness_KeyScanDebouncesAndReports_corner :
    (let s := st rectangle
     (s.vks.keyAt 1).standing = some .tracked ∧ (s.vks.keyAt 10).standing = some .tracked
      ∧ (s.vks.keyAt 11).standing = some .tracked ∧ (s.vks.keyAt 0).standing = none ∧ s.vks.params.debounce ≤ (s.vks.keyAt 0).count + 1
      ∧ (∀ q, q < 80 → q ≠ 0 → (BitVec.ofNat 80 (2 ^ 0 + 2 ^ 1 + 2 ^ 10 + 2 ^ 11)).getLsbD q = (s.vks.keyAt q).standing.isSome)
      ∧ s.vks.keys.ghostBlock = false ∧ s.vks.keys.reports.length < 16)
    ∧ (let s := st (fun v => { rectangle v with params := { v.params with debounce := 1 } })
       s.vks.params.debounce ≤ (s.vks.keyAt 11).count + 1 ∧ (BitVec.ofNat 80 (2 ^ 1 + 2 ^ 10)).getLsbD 11 = false
        ∧ (∀ q, q < 80 → q ≠ 11 → (BitVec.ofNat 80 (2 ^ 1 + 2 ^ 10)).getLsbD q = (s.vks.keyAt q).standing.isSome)
        ∧ s.vks.keys.held.find? (fun k => k.position = 11) = some ⟨11, ⟨.pass, 0, 11#8⟩, 0#16, .passed, true⟩) := by
  decide +kernel

/-- One closed position beside those that are down, in the state with positions 1, 10 and 11 down or with all up. -/
def pressing (ps : List Nat) : Matrix := ps.foldl (fun m p => m ||| BitVec.ofNat 80 (2 ^ p)) 0#80

/-- A part whose positions 11 and 12 have the standings given and the others are up, every count 7, so that DEBOUNCE 8 takes a
change at this scan; position 11 is held with the reported mark given. -/
def twoDown (a b : Option Standing) (reported : Bool) (v : Vks) : Vks :=
  let held : HeldKey := ⟨11, ⟨.pass, 0, 11#8⟩, 0#16, .passed, reported⟩
  { v with keys := { v.keys with
      positions := ((List.replicate 80 (KeyPosition.mk none 7)).set 11 ⟨a, 7⟩).set 12 ⟨b, 7⟩
      held := if a = some .tracked then [held] else [] } }

/-- The keymap with position 50 a LETTER of code 3, in a LISTENING attempt. -/
def letterKey (v : Vks) : Vks :=
  let v1 := keysUp 7 (spelling .listening .deferred [] v)
  { v1 with keys := { v1.keys with keymap := v1.keys.keymap.set 50 ⟨.letter, 3, 1#8⟩ } }

/-- A lone press handed to the Attempt Controller, one at a full table, one of class NONE, one at 16 reports, and one in an episode;
lone releases of each standing; a release with a press, and two presses of one scan that do and do not complete a rectangle. -/
theorem witness_KeyScanDebouncesAndReports_changes :
    (let s := st letterKey
     Awake s ∧ s.vks.params.debounce ≤ (s.vks.keyAt 50).count + 1 ∧ (pressing [50]).getLsbD 50 = true
      ∧ (∀ q, q < 80 → q ≠ 50 → (pressing [50]).getLsbD q = (s.vks.keyAt q).standing.isSome) ∧ (s.vks.keyAt 50).standing = none
      ∧ s.vks.keys.ghostBlock = false ∧ (∀ q, q < 80 → (s.vks.keyAt q).standing = none) ∧ s.vks.keys.held.length < 4
      ∧ (∀ h ∈ s.vks.keys.held, h.position ≠ 50) ∧ (s.vks.keymapAt 50).cls = .letter ∧ s.vks.params.routeSpell = true
      ∧ s.vks.attempt.state ≠ .idle ∧ s.vks.keys.reports.length < 16)
    ∧ (let s := st (fun v => { keysUp 7 v with keys := { (keysUp 7 v).keys with
         held := [0, 1, 2, 3].map (fun p => ⟨p, ⟨.pass, 0, 0#8⟩, 0#16, .passed, true⟩)
         reports := List.replicate 16 ⟨.press, 0, ⟨.pass, 0, 0#8⟩, .passed, 0#16⟩
         keymap := v.keys.keymap.set 50 ⟨.none, 0, 0#8⟩ } })
       4 ≤ s.vks.keys.held.length ∧ (s.vks.keymapAt 50).cls = .none ∧ 16 ≤ s.vks.keys.reports.length)
    ∧ (setGhostBlock true (st (keysUp 7)).vks).keys.ghostBlock = true
    ∧ (∀ k ∈ [Standing.untracked, .blocked, .latched, .suspect, .tracked],
        let s := st (twoDown (some k) none false)
        (s.vks.keyAt 11).standing = some k ∧ s.vks.params.debounce ≤ (s.vks.keyAt 11).count + 1
          ∧ (pressing []).getLsbD 11 = false
          ∧ (∀ q, q < 80 → q ≠ 11 → (pressing []).getLsbD q = (s.vks.keyAt q).standing.isSome))
    ∧ ((st (twoDown (some .suspect) (some .suspect) false)).vks.keyAt 12).standing = some .suspect
    ∧ (let s := st (twoDown (some .tracked) none true)
       let h : HeldKey := ⟨11, ⟨.pass, 0, 11#8⟩, 0#16, .passed, true⟩
       TablesSized s.vks ∧ s.vks.keys.held.find? (fun k => k.position = 11) = some h ∧ h.reported = true
        ∧ s.vks.params.debounce ≤ (s.vks.keyAt 11).count + 1 ∧ s.vks.params.debounce ≤ (s.vks.keyAt 50).count + 1
        ∧ (∀ x, x < 80 → x ≠ 11 → x ≠ 50 → (pressing [50]).getLsbD x = (s.vks.keyAt x).standing.isSome)
        ∧ (pressing [50]).getLsbD 11 = false ∧ (pressing [50]).getLsbD 50 = true ∧ (s.vks.keyAt 50).standing = none
        ∧ s.vks.keys.ghostBlock = false ∧ s.vks.keys.held.length ≤ 4 ∧ s.vks.keys.reports.length < 15
        ∧ (∀ k ∈ s.vks.keys.held, k.position ≠ 50) ∧ (s.vks.keymapAt 50).cls = .pass
        ∧ (∀ q, q < 80 → q ≠ 11 → (s.vks.keyAt q).standing = none))
    ∧ (let s := st (twoDown (some .tracked) (some .untracked) true)
       let m := pressing [1, 2, 11, 12]
       (∀ x, x < 80 → x ≠ 1 → x ≠ 2 → m.getLsbD x = (s.vks.keyAt x).standing.isSome) ∧ m.getLsbD 1 = true ∧ m.getLsbD 2 = true
        ∧ (s.vks.keyAt 1).standing = none ∧ (s.vks.keyAt 2).standing = none ∧ s.vks.keys.held.length < 3
        ∧ s.vks.keys.reports.length < 15 ∧ (∀ k ∈ s.vks.keys.held, k.position ≠ 1 ∧ k.position ≠ 2)
        ∧ (s.vks.keyAt 11).standing = some .tracked ∧ (s.vks.keyAt 12).standing = some .untracked
        ∧ (after (exec (.keyScan m) s)).map (fun v => v.keys.reports.map (fun r => (r.event, r.position)))
            = some [(.press, 1), (.ghost, 2)]) := by
  refine ⟨⟨rfl, ?_⟩, ?_, ?_, ?_, ?_, ⟨by constructor <;> decide +kernel, ?_⟩, ?_⟩ <;> decide +kernel

/-! Mixing -/

/-- The amplifier ON and the buffer PLAYING, empty or at its mark, the main voice with its last sample. -/
def sounding (samples : List Int) (ring : List RingSample) (v : Vks) : Vks :=
  let r := (onMain (chime .say 1) (ready v)).reader
  { ready v with
    mixer := { v.mixer with samples := samples, playing := true }
    reader := { r with mainVoice := { r.mainVoice with ring := ring, readItem := if ring = [] then 1 else 0 } } }

theorem witness_OutputInstantMixesTheSum :
    ¬ Awake (st asleep) ∧ (Awake State.reset ∧ State.reset.vks.power.amp ≠ .on)
    ∧ (let s := st (sounding [] [])
       Awake s ∧ s.vks.power.amp = .on ∧ s.vks.mixer.playing = true ∧ s.vks.mixer.samples = []
        ∧ s.vks.reader.mainVoice.state = .playing ∧ s.vks.reader.mainVoice.leadIn = false
        ∧ s.vks.reader.mainVoice.utterance = some { chime .say 1 with playItem := 1 } ∧ s.vks.reader.mainVoice.ring = []
        ∧ s.vks.reader.mainVoice.readItem ≠ 0)
    ∧ (let s := st (sounding (List.replicate 512 1) [⟨256, none, none⟩])
       Awake s ∧ s.vks.mixer.samples ≠ [] ∧ s.vks.mixer.lowArmed = true ∧ s.vks.mixer.endMark = false
        ∧ s.vks.mixer.samples.length ≤ s.vks.params.playoutMark ∧ s.vks.notices.queue.length + 2 < 16
        ∧ s.vks.reader.mainVoice.ring.length = 1 ∧ s.vks.reader.mainVoice.readItem = 0)
    ∧ (let s := st (fun v => setVoice .echo { (echoing 79 [⟨256, none, none⟩] v).reader.echoVoice with readItem := 0 }
         (echoing 79 [⟨256, none, none⟩] v))
       Awake s ∧ s.vks.power.amp = .on ∧ s.vks.reader.echoVoice.state = .playing ∧ s.vks.reader.echoVoice.leadIn = false
        ∧ s.vks.reader.echoVoice.ring.length = 1 ∧ s.vks.reader.echoVoice.readItem = 0
        ∧ s.vks.reader.mainVoice.ring.length ≠ 1 ∧ s.vks.attempt.ctx.awaited = none ∧ s.vks.sched.echoLine = none)
    ∧ (let v := (st (echoing 79 [])).vks
       let u := { chime .echo 4 with playItem := 1, playSamples := 79 }
       (v.voice .echo).utterance = some u ∧ (v.voice .echo).ring = [] ∧ (v.voice .echo).readItem ≠ 0 ∧ u.starved = false
        ∧ { u with starved := true }.starved = true)
    ∧ State.reset.vks.mixer.i2s.driven = false := by
  refine ⟨by simp [Awake, st, asleep], ⟨rfl, ?_⟩, ⟨rfl, ?_⟩, ⟨rfl, ?_⟩, ⟨rfl, ?_⟩, ?_⟩ <;> decide +kernel

/-- The ends of every sample and gain, and both ties. -/
theorem witness_MixIsRoundedOnceAndLimited :
    |(-32768 : Int)| ≤ 32768 ∧ (0 : Int) ≤ 16384 ∧ (16384 : Int) ≤ 16384
    ∧ |(-32768 : Int) * 16384 + -32768 * 16384 + -32768 * 16384| = 1610612736
    ∧ |(8192 : Int) - 16384 * 1| = 8192 ∧ |(8192 : Int)| < |16384 * 1| ∧ |(-8192 : Int) - 16384 * (-1)| = 8192
    ∧ (32767 : Int) < 32768 ∧ (-32769 : Int) < -32768 := by decide

/-- The part with an envelope state, a host gain and a hold count, its main voice PLAYING or not. -/
def enveloped (e : Envelope) (gain hold : Nat) (active : Bool) (v : Vks) : Vks :=
  let v1 := if active then onMain (chime .say 1) (ready v) else ready v
  { v1 with mixer := { v1.mixer with envelope := e, hostGain := gain, holdCount := hold } }

/-- L_e 4096 and L_h 16384: falls from OPEN and to the floor, stays DUCKED, enters HOLD, counts, rises, and stays OPEN. -/
theorem witness_EnvelopeFollowsTheVoices :
    Awake State.reset
    ∧ ((st (enveloped .opened 16384 0 true)).vks.reader.mainVoice.state = .playing
      ∧ (st (enveloped .opened 16384 0 true)).vks.mixer.envelope ≠ .ducked)
    ∧ ((st (enveloped .ducked 4096 0 true)).vks.mixer.envelope = .ducked
      ∧ max 4096 (min 16384 (st (enveloped .ducked 4096 0 true)).vks.mixer.hostGain) = 4096)
    ∧ (let s := st (enveloped .ducked 4096 0 false)
       ¬ (s.vks.reader.mainVoice.state = .playing ∨ s.vks.reader.echoVoice.state = .playing) ∧ 0 < s.vks.params.duckHold)
    ∧ (0 < (st (enveloped .hold 4096 1 false)).vks.mixer.holdCount)
    ∧ (st (enveloped .hold 4096 0 false)).vks.mixer.holdCount = 0
    ∧ (st (enveloped .rising 4096 0 false)).vks.mixer.envelope = .rising
    ∧ ((st (enveloped .opened 16384 0 false)).vks.mixer.envelope = .opened
      ∧ (st (enveloped .opened 16384 0 false)).vks.mixer.hostGain = (st (enveloped .opened 16384 0 false)).vks.params.hostLevel) := by
  refine ⟨rfl, ?_⟩; decide

/-- Window counts 255 and 256; a hold that has run out and one that has not; the standby two short of its limit, and one short
with nothing playing, a zero sample, a loud one, and a voice PLAYING. -/
theorem witness_SampleClockRowsActWhenDue :
    (let s := st (fun v => { v with mixer := { v.mixer with windowCount := 256 } }); 256 ≤ s.vks.mixer.windowCount)
    ∧ State.reset.vks.mixer.windowCount < 256
    ∧ ((st (enveloped .hold 4096 0 false)).vks.mixer.envelope = .hold ∧ (st (enveloped .hold 4096 0 false)).vks.mixer.holdCount = 0)
    ∧ State.reset.vks.mixer.envelope ≠ .hold
    ∧ (let s := st (fun v => { ready v with power := { (ready v).power with standby := 80000 } })
       s.vks.power.amp = .on ∧ s.vks.params.ampStandby ≠ 0 ∧ s.vks.params.ampStandby * 16000 ≤ s.vks.power.standby
        ∧ s.vks.sched.queue = [] ∧ s.vks.sched.echoLine = none)
    ∧ State.reset.vks.power.amp ≠ .on
    ∧ (let s := st (fun v => { ready v with power := { (ready v).power with standby := 79999 } })
       Awake s ∧ s.vks.power.amp = .on ∧ s.vks.params.ampStandby * 16000 ≤ s.vks.power.standby + 1
        ∧ s.vks.reader.mainVoice.state ≠ .playing ∧ s.vks.reader.echoVoice.state ≠ .playing ∧ s.vks.mixer.playing = false)
    ∧ (Awake (st ready) ∧ (st ready).vks.power.standby + 1 < (st ready).vks.params.ampStandby * 16000)
    ∧ (st (sounding [] [])).vks.reader.mainVoice.state = .playing
    ∧ (let s := fun x : Int => st (fun v => { ready v with
         power := { (ready v).power with standby := 79999 }, mixer := { v.mixer with playing := true, samples := [x] } })
       (s 0).vks.reader.mainVoice.state ≠ .playing ∧ (s 0).vks.mixer.samples = 0 :: []
        ∧ (after (exec .outputInstant (s 0))).map (fun v => (v.mixer.output, v.power.amp)) = some (0, .off)
        ∧ (after (exec .outputInstant (s 30000))).map (fun v => (v.mixer.output, v.power.amp)) = some (30000, .on)
        ∧ 8192 ≤ |(30000 : Int) * 16384|) := by
  refine ⟨?_, ?_, ?_, ?_, ?_, ?_, ⟨rfl, ?_⟩, ⟨rfl, ?_⟩, ?_⟩ <;> decide +kernel

/-! Timers, lamps and power -/

/-- A LISTENING attempt whose inactivity timer is due, nudged or not. -/
def silent (nudged : Bool) (v : Vks) : Vks :=
  let v1 := spelling .listening .deferred [] v
  { v1 with attempt := { v1.attempt with inactivity := some 0, ctx := { v1.attempt.ctx with nudged := nudged } } }

/-- A GAP whose timer is due. -/
def gapDue (entries : List LessonEntry) (v : Vks) : Vks :=
  let v1 := spelling .gap .deferred [] v
  { v1 with lesson := { v1.lesson with gapTimer := some 0, entries := entries, auto := true } }

theorem witness_AttemptTimersActWhenDue :
    (let s := st (silent false)
     s.vks.attempt.state = .listening ∧ s.vks.attempt.ctx.outstanding = [] ∧ s.vks.params.inactivity ≠ 0
      ∧ s.vks.attempt.inactivity = some 0 ∧ s.vks.attempt.ctx.nudged = false ∧ s.vks.sched.queue.length < 16
      ∧ expandAll s.vks ⟨s.vks.attemptEntry, [], hintPosition [] s.vks.target, none⟩ (s.vks.row 14) ≠ [])
    ∧ ((st (silent true)).vks.attempt.ctx.nudged = true ∧ (st (silent true)).vks.lesson.auto = false)
    ∧ State.reset.vks.attempt.inactivity ≠ some 0
    ∧ (let s := st (gapDue [⟨3, 1⟩, ⟨20, 2⟩])
       s.vks.attempt.state = .gap ∧ s.vks.lesson.gapTimer = some 0 ∧ s.vks.lesson.entries = [⟨3, 1⟩] ++ ⟨20, 2⟩ :: []
        ∧ (∀ b ∈ [LessonEntry.mk 3 1], s.vks.entry b.word = none) ∧ s.vks.entry 20 = some (cat .deferred))
    ∧ (let s := st (gapDue [⟨3, 1⟩])
       (∀ b ∈ s.vks.lesson.entries, s.vks.entry b.word = none) ∧ s.vks.notices.queue.length < 16)
    ∧ State.reset.vks.attempt.state ≠ .gap := by decide +kernel

/-- Lamp timers due and not; a blink phase due and not; the ATTN gap due with a notice kind 1 that the default mask admits; lamps
that are plain, inverted and blinking, of a part that is awake and of one asleep. -/
theorem witness_LampAndAttnTimersActWhenDue :
    (let s := st (fun v => { v with notices := { v.notices with correct := some 0, wrong := some 0, attnGap := some 0
                                                                blink := [some ⟨true, 0⟩, some ⟨false, 1⟩, none]
                                                                queue := [.attemptOpened 0 0 0 0 0 0] } })
     s.vks.notices.correct = some 0 ∧ s.vks.notices.wrong = some 0
      ∧ s.vks.notices.blink.getD (0 : Fin 3).val none = some ⟨true, 0⟩
      ∧ s.vks.notices.blink.getD (1 : Fin 3).val none = some ⟨false, 1⟩ ∧ s.vks.notices.blink.getD (2 : Fin 3).val none = none
      ∧ s.vks.notices.attnGap = some 0
      ∧ (∃ n ∈ s.vks.notices.queue, s.vks.params.attnMask.getLsbD (n.kind - 1) = true) ∧ s.vks.port.txn = none)
    ∧ State.reset.vks.notices.correct ≠ some 0 ∧ State.reset.vks.notices.wrong ≠ some 0
    ∧ State.reset.vks.notices.attnGap ≠ some 0
    ∧ (let s := st (fun v => { v with params := { v.params with
         lamps := [⟨.on, false, false⟩, ⟨.listening, true, false⟩, ⟨.on, false, true⟩] } })
       s.vks.power.asleep = false ∧ (st asleep).vks.power.asleep = true
        ∧ s.vks.params.lamps[0]? = some ⟨.on, false, false⟩ ∧ s.vks.params.lamps[1]? = some ⟨.listening, true, false⟩
        ∧ s.vks.params.lamps[2]? = some ⟨.on, false, true⟩ ∧ s.vks.attempt.state ≠ .listening) := by decide

/-- A warm-up that is due with the buffer at its mark, a due sleep timer, and a press at an up position in SLEEP. -/
theorem witness_PowerRowsActWhenDue :
    (let s := st (fun v => { ready v with
        power := { v.power with amp := .warming, warmup := some 0 }, mixer := { v.mixer with samples := List.replicate 512 1 } })
     s.vks.power.amp = .warming ∧ s.vks.power.warmup = some 0 ∧ 1 ≤ s.vks.mixer.samples.length
      ∧ s.vks.params.playoutMark ≤ s.vks.mixer.samples.length ∧ s.vks.sched.echoLine = none)
    ∧ State.reset.vks.power.amp ≠ .warming
    ∧ (let s := st (fun v => { ready v with
        power := { v.power with sleepTimer := some 0 }, params := { v.params with sleepAfter := 1 } })
       s.vks.power.sleepTimer = some 0 ∧ Awake s ∧ s.vks.params.sleepAfter ≠ 0 ∧ s.vks.attempt.state = .idle
        ∧ s.vks.reader.mainVoice.state = .idle ∧ s.vks.reader.echoVoice.state = .idle ∧ s.vks.sched.queue = []
        ∧ s.vks.sched.echoLine = none ∧ s.vks.reader.engine = .idle ∧ s.vks.mixer.playing = false ∧ s.vks.port.txn = none)
    ∧ State.reset.vks.power.sleepTimer ≠ some 0
    ∧ (let s := st (fun v => keysUp 0 (asleep v))
       ¬ Awake s ∧ (∃ p, p < 80 ∧ (BitVec.ofNat 80 (2 ^ 79)).getLsbD p = true ∧ (s.vks.keyAt p).standing = none)
        ∧ s.vks.notices.queue.length < 16
        ∧ (∀ p, p < 80 → (0#80).getLsbD p = true → (s.vks.keyAt p).standing ≠ none)) := by
  refine ⟨?_, ?_, ⟨?_, rfl, ?_⟩, ?_, ⟨by simp [Awake, st, keysUp, asleep], ⟨79, ?_⟩, ?_, ?_⟩⟩ <;> decide +kernel

/-! The effects of a SET, the ends of a try and of an attempt, and the reads -/

/-- An echo waits while one plays at an age of 2400, the floor of 150 ms and one below that of 151 ms; a PLAYING and a STOPPED
buffer of 600 at a mark of 600 and of 601, with the amplifier in each state. -/
theorem witness_SetStoresTheValueUsed_effects :
    (let v := (st (fun v => lined (.tone .click) (echoing 2400 [] v))).vks
     v.reader.echoVoice.utterance = some { chime .echo 4 with playItem := 1, playSamples := 2400 }
      ∧ v.sched.echoLine = some { chime .echo 6 with items := [.tone .click] } ∧ v.reader.echoVoice.state = .playing
      ∧ paramUsed v 10 150 * 16 ≤ 2400 ∧ 2400 < paramUsed v 10 151 * 16 ∧ v.reader.store = .usable)
    ∧ (let v := (st (fun v => buffered 600 true .on (ready v))).vks
       v.mixer.playing = true ∧ v.params.playoutMark < paramUsed v 9 601 ∧ v.mixer.samples.length < paramUsed v 9 601
        ∧ ¬ v.mixer.samples.length < paramUsed v 9 600 ∧ v.mixer.lowArmed = true ∧ v.mixer.endMark = false
        ∧ v.notices.queue.length < 16)
    ∧ (∀ amp ∈ [AmpState.on, .warming, .off],
       let v := (st (fun v => buffered 600 false amp (ready v))).vks
       v.mixer.playing = false ∧ v.power.amp = amp ∧ 1 ≤ v.mixer.samples.length ∧ paramUsed v 9 600 ≤ v.mixer.samples.length
        ∧ ¬ paramUsed v 9 601 ≤ v.mixer.samples.length ∧ v.params.ampWarmup ≠ 0)
    ∧ Awake (st (echoing 1 [])) ∧ TablesSized (st (echoing 1 [])).vks := by
  refine ⟨?_, ?_, ?_, rfl, by constructor <;> decide +kernel⟩ <;> decide +kernel

/-- The amplifier OFF with its warm-up of 20, so that no start can read. -/
def unheard (v : Vks) : Vks := { v with power := { v.power with amp := .off } }

/-- What `ClosesAttempt` and `FailsTry` ask of a part: a row that speaks and a queue with room, a silent row, a queue of engine
utterances, and quiet notices; and of a lesson: auto mode off, on with a gap, and on with a gap of 0. -/
theorem witness_ClosesAttempt :
    (let v := unheard (mistaken 0 [3, 1])
     (∀ row ∈ [0, 1, 2, 3, 4, 5, 6, 7, 8, 9, 10, 11, 13],
        expandAll v ⟨v.entry 20, [3, 1], 0, some .exact⟩ (v.row row) ≠ []) ∧ ¬ TurnsAway v
      ∧ v.power.amp ≠ .on ∧ v.params.ampWarmup ≠ 0 ∧ v.sched.queue.length < 16 ∧ v.notices.queue.length < 15)
    ∧ expandAll (mistaken 0 [3, 1]) ⟨some (cat .deferred), [3, 1], 0, none⟩ [] = []
    ∧ TurnsAway (st (fun v => waiting (full .hint) (ready v))).vks
    ∧ (let v := (st (gapDue [⟨3, 1⟩, ⟨20, 2⟩])).vks
       v.lesson.auto = true ∧ v.params.interWordGap ≠ 0 ∧ v.lesson.entries = [⟨3, 1⟩] ++ ⟨20, 2⟩ :: []
        ∧ (∀ b ∈ [LessonEntry.mk 3 1], v.entry b.word = none) ∧ v.entry 20 = some (cat .deferred))
    ∧ (∀ b ∈ (st (gapDue [⟨3, 1⟩])).vks.lesson.entries, (st (gapDue [⟨3, 1⟩])).vks.entry b.word = none)
    ∧ (let v := (st (fun v => { v with params := { v.params with interWordGap := 0 } })).vks
       v.params.interWordGap = 0 ∧ v.lesson.auto = false)
    ∧ TablesSized (unheard (mistaken 0 [3, 1])) ∧ 20 < 512 := by
  refine ⟨?_, ?_, ?_, ?_, ?_, ?_, by constructor <;> decide +kernel, by decide⟩ <;> first | decide +kernel | (simp only [TurnsAway]; decide +kernel)

/-- The last letter typed and entered by a hint, and the third mistake of a limit of 3. -/
theorem witness_LettersInImmediateMode_closes :
    (let v := mistaken 0 [3, 1]
     v.attempt.ctx.buffer.length + 1 = (cat .deferred).letters.length ∧ letterAt (cat .deferred).letters 3 = some 20)
    ∧ (mistaken 2 [3]).attempt.ctx.settings.mistakeLimit ≤ (mistaken 2 [3]).attempt.ctx.mistakes + 1
    ∧ (let v := setContext { (mistaken 0 [3, 1]).attempt.ctx with
         hintPosition := 3, hintStage := 2, settings := { (cat .immediate).settings with hintLimit := 3 } } (mistaken 0 [3, 1])
       v.attempt.ctx.hintStage < v.attempt.ctx.settings.hintLimit ∧ 2 ≤ v.attempt.ctx.hintStage
        ∧ v.attempt.ctx.hintPosition = v.attempt.ctx.buffer.length + 1
        ∧ v.attempt.ctx.buffer = (cat .deferred).letters.take v.attempt.ctx.buffer.length) := by decide +kernel

/-- Against CAT with 2 tries: CAT is EXACT; CAR fails try 1 and closes at try 2. -/
theorem witness_KeysInDeferredMode_submit :
    grade [3, 1, 20] (cat .deferred).letters = (.exact, 0) ∧ grade [3, 1, 18] (cat .deferred).letters = (.substitution, 3)
    ∧ (let c := (st (spelling .listening .deferred [3, 1, 18])).vks.attempt.ctx
       c.tryNumber < c.settings.tries ∧ { c with tryNumber := 2 }.settings.tries ≤ { c with tryNumber := 2 }.tryNumber) := by
  decide +kernel

/-- A response that plays and is awaited; SAY utterances on the main voice with none and with an engine utterance left waiting,
with the store open and in CLAIM_PENDING, and a tag that is not theirs. -/
theorem witness_SilenceEndsWhatItsScopeNames_response :
    (∀ k ∈ [AwaitKind.tryResponse, .closing],
       let s := st (fun v => onMain (chime .response 3) (setContext { (spelling .responding .deferred [3] v).attempt.ctx with
         awaited := some (k, 3), outstanding := [3] } (spelling .responding .deferred [3] v)))
       s.vks.attempt.ctx.awaited = some (k, 3) ∧ s.vks.attempt.ctx.outstanding = [3]
        ∧ s.vks.reader.mainVoice.utterance = some { chime .response 3 with playItem := 1 } ∧ Awake s)
    ∧ (let s := st (fun v => waiting [chime .say 2] (onMain (chime .say 1) (ready v)))
       s.vks.reader.mainVoice.utterance = some { chime .say 1 with playItem := 1 } ∧ (chime .say 1).tag = 7#8 ∧ 7#8 ≠ 8#8
        ∧ s.vks.sched.queue.filter (fun y => !decide (y.source = .say)) = [] ∧ s.vks.reader.store = .usable
        ∧ s.vks.reader.mainVoice.state ≠ .idle)
    ∧ (let q := (st (fun v => waiting [chime .say 2, chime .hint 3] (onMain (chime .say 1) (ready v)))).vks.sched.queue
       q.filter (fun y => !decide (y.source = .say)) = [chime .hint 3])
    ∧ (let r := (st (fun v => store .claimPending .idle (onMain (chime .say 1) (ready v)))).vks.reader
       r.store ≠ .usable ∧ r.store ≠ .unusable)
    ∧ (1 ∉ (st prompting).vks.attempt.ctx.outstanding ∧ 3 ∈ (st prompting).vks.attempt.ctx.outstanding
      ∧ (chime .prompt 3).source ≠ .say) := by
  simp only [Awake]; decide +kernel

/-- SAY of segment 7 on a free voice of an open store, with the engine and the echo voice IDLE. -/
theorem witness_SayJoinsTheMainQueue_read :
    (let v := (st ready).vks
     expandAll v (sayExpansion v) ([(1, 7)].map partOf) = [.seg 7] ∧ v.reader.mainVoice.state = .idle ∧ v.sched.queue = []
      ∧ v.reader.store = .usable ∧ 7 < v.reader.segmentCount ∧ v.power.amp = .on ∧ v.reader.engine = .idle
      ∧ v.reader.echoVoice.state = .idle ∧ v.sched.echoLine = none) := by decide +kernel

/-- A voice that plays segments 7 and 8 and stands at the entry of the first, and a step that reads it for the voice. -/
def reading (phase : ReadPhase) (left : Nat) (v : Vks) : Vks :=
  setVoice .main { (onMain { chime .say 1 with items := [.seg 7, .seg 8] } (ready v)).reader.mainVoice with
    phase := phase, samplesLeft := left, dir := some ⟨4096, 1000, 0, 100⟩ } (ready v)

theorem test_arbiter_starts_a_read :
    (after (exec .idleSlot (st (reading .needEntry 0)))).map (fun v => v.reader.engine) = some (.entryRead .main 7 true)
    ∧ (after (exec .idleSlot (st (reading .blocks 1000)))).map (fun v => v.reader.engine)
      = some (.blockRead .main 7 0 4096 256 0 true) := by decide +kernel

/-- Block 0 of 1000 samples, and a last block with segment 8 to follow and with nothing to follow. -/
theorem witness_BlockReadEndFeedsTheRing_next :
    (let v := (st (reading .blocks 1000)).vks
     (v.voice .main).phase = .blocks ∧ 256 < (v.voice .main).samplesLeft ∧ (v.voice .main).dir = some ⟨4096, 1000, 0, 100⟩)
    ∧ (let v := (st (reading .blocks 232)).vks
       (v.voice .main).samplesLeft ≤ 232 ∧ 1 ≤ (v.voice .main).readItem ∧ [Item.seg 7, .seg 8][(v.voice .main).readItem]? = some (.seg 8)
        ∧ 8 < v.reader.segmentCount)
    ∧ ((blockState false).vks.reader.mainVoice.readItem = (chime .say 1).items.length
      ∧ (blockState false).vks.reader.mainVoice.samplesLeft ≤ 256) := by decide +kernel

/-- The awaited prompt and the awaited closing response draw their last sample; an echo does beside a silent main voice. -/
theorem witness_OutputInstantMixesTheSum_ends :
    (∀ k ∈ [AwaitKind.prompt, .closing],
       let s := st (fun v => setVoice .main
         { (onMain (chime .prompt 3) (ready v)).reader.mainVoice with ring := [⟨256, none, none⟩], readItem := 0 }
         (setContext { (spelling .prompting .deferred [] v).attempt.ctx with awaited := some (k, 3), outstanding := [3] }
           (spelling .prompting .deferred [] v)))
       s.vks.power.amp = .on ∧ s.vks.reader.mainVoice.state = .playing ∧ s.vks.reader.mainVoice.leadIn = false
        ∧ s.vks.reader.mainVoice.utterance = some { chime .prompt 3 with playItem := 1 }
        ∧ s.vks.reader.mainVoice.ring.length = 1 ∧ s.vks.reader.mainVoice.readItem = 0
        ∧ s.vks.attempt.ctx.outstanding = [3] ∧ s.vks.attempt.ctx.awaited = some (k, 3))
    ∧ (st (echoing 79 [])).vks.reader.mainVoice.drained = false := by decide +kernel

/-- The main voice's SAY draws its last sample while the echo voice first starves: VOICE_STARVED stands ahead of UTTERANCE_DONE,
which is the model's choice (log 41). -/
theorem test_starving_precedes_an_end :
    (after (exec .outputInstant (st (fun v => setVoice .main (sounding [] [⟨256, none, none⟩] v).reader.mainVoice
        (echoing 79 [] v))))).map (fun v => v.notices.queue)
      = some [.voiceStarved 1 4, .utteranceDone 7#8 1 1 0] := by decide +kernel

/-- A nudged attempt of a lesson in auto mode whose inactivity timer is due. -/
theorem witness_AttemptTimersActWhenDue_auto :
    (let v := (st (fun v => { silent true v with lesson := { v.lesson with auto := true } })).vks
     v.attempt.state = .listening ∧ v.attempt.ctx.outstanding = [] ∧ v.params.inactivity ≠ 0 ∧ v.attempt.inactivity = some 0
      ∧ v.attempt.ctx.nudged = true ∧ v.lesson.auto = true) := by decide +kernel

/-- A SET of a lamp to mode 8; no transaction, ATTN low and no gap, with and without a record; a scan whose report raises ATTN. -/
theorem witness_LampAndAttnTimersActWhenDue_set :
    (0 < 3 ∧ 2 < 3 ∧ 8 < 2 ^ 32 ∧ 8 % 16 ≤ 8)
    ∧ (let v := (st (keysUp 7)).vks
       v.port.txn = none ∧ v.notices.attn = false ∧ v.notices.attnGap = none ∧ v.keys.reports = [] ∧ v.notices.queue = []
        ∧ v.params.attnMask.getLsbD 16 = true ∧ v.params.lamps.length = 3)
    ∧ (after (exec (.keyScan (BitVec.ofNat 80 (2 ^ 79))) (st (keysUp 7)))).map
        (fun v => (v.keys.reports.length, v.notices.attn)) = some (1, true)
    ∧ (st inTransaction).vks.port.txn ≠ none := by decide +kernel

/-- The fall of ATTN at a transaction's begin starts the gap from ATTN_GAP (R181), and none where that is 0. -/
theorem witness_TransactionBeginComposesTheSlot_attn :
    (let s := fun gap => st (fun v => { v with
       notices := { v.notices with attn := true, queue := [.wake 1] }, params := { v.params with attnGap := gap } })
     (s 5).vks.notices.attn = true ∧ Awake (s 5) ∧ (s 5).vks.port.txn = none
      ∧ (after (exec .transactionBegin (s 5))).map (fun v => (v.notices.attn, v.notices.attnGap)) = some (false, some 5)
      ∧ (after (exec .transactionBegin (s 0))).map (fun v => (v.notices.attn, v.notices.attnGap)) = some (false, none)) := by
  simp only [Awake]; decide +kernel

/-! The invariants: a step that answers a next state, from states that meet each invariant; and a sleeping one. -/

theorem reset_queues_fit :
    NoticesFit State.reset.vks ∧ KeysFit State.reset.vks ∧ QueueFits State.reset.vks ∧ OutputFits State.reset.vks :=
  ⟨Nat.zero_le _, ⟨Nat.zero_le _, Nat.zero_le _⟩, Nat.zero_le _, ⟨by decide, by decide⟩⟩

theorem witness_EveryStepKeepsFlashPoolAndTables :
    (∃ t, step { State.reset with pending := [.keyScan 0#80] } = .next t) ∧ State.reset.flash.wf = true
    ∧ TablesSized State.reset.vks := ⟨⟨_, rfl⟩, rfl, reset_tables_sized⟩

theorem witness_EveryStepKeepsTheCapacities :
    (∃ t, step { State.reset with pending := [.say 1#8 [7#8, 1#8, 2#8, 2#8, 0#8]] } = .next t)
    ∧ NoticesFit State.reset.vks ∧ QueueFits State.reset.vks :=
  ⟨⟨_, rfl⟩, reset_queues_fit.1, reset_queues_fit.2.2.1⟩

theorem witness_EveryStepKeepsSleepQuiet :
    (∃ t, step { st asleep with pending := [.outputInstant] } = .next t) ∧ (st asleep).vks.power.asleep = true
    ∧ SleepIsQuiet (st asleep).vks := ⟨⟨_, rfl⟩, rfl, fun _ => by decide +kernel⟩

/-! ### A few single steps with results from the spec -/

/-- 05 section 5.9, ATTEMPT OPEN 20: the prompt P3 stands ahead of S2, S1 plays on, and the attempt awaits 3. -/
theorem test_worked_session_open :
    (after (exec (.attemptOpen 1#8 [20#8, 0#8]) (st (fun v =>
        let v1 := waiting [chime .say 2] (onMain (chime .say 1) (ready v))
        { v1 with sched := { v1.sched with nextId := 3 } })))).map
      (fun v => (v.sched.queue.map Utterance.id, v.reader.mainVoice.utterance.map Utterance.id, v.attempt.state,
        v.attempt.ctx.awaited)) = some ([3, 2], some 1, .prompting, some (.prompt, 3)) := by decide +kernel

/-- 05 section 5.9, the first SUBMIT: CAR against CAT is SUBSTITUTION at 3 on try 1 of 2, and R7 stands ahead of S2. -/
theorem test_worked_session_submit :
    (let v0 := (st (spelling .listening .deferred [3, 1, 18])).vks
     let v1 := waiting [chime .say 2] (onMain (chime .say 1) v0)
     let r := handlePress .submit 0 { v1 with sched := { v1.sched with nextId := 7 } }
     (r.2, r.1.attempt.state, r.1.sched.queue.map Utterance.id, r.1.attempt.ctx.outstanding, r.1.notices.queue))
      = (.accepted, .responding, [7, 2], [7], [.tryFailed 20 2 1 3]) := by decide +kernel

/-- 04 R82 and R87: position 79 pressed with its power-on entry is reported PRESS with pass code 79 and disposition PASSED. -/
theorem test_key_scan_press :
    (after (exec (.keyScan (BitVec.ofNat 80 (2 ^ 79))) (st (keysUp 7)))).map (fun v => v.keys.reports)
      = some [⟨.press, 79, ⟨.pass, 0, 79#8⟩, .passed, 1#16⟩] := by decide +kernel

/-- 05 R105: an engine utterance that can be started at once drops no SAY of a full queue. -/
theorem test_engine_starts_before_a_full_queue :
    (let r := placeEngine (chime .prompt 9) (st (fun v => waiting (List.replicate 16 (chime .say 2)) (ready v))).vks
     (r.2, r.1.sched.queue.length, r.1.reader.mainVoice.utterance.map Utterance.id)) = (false, 16, some 9) := by decide +kernel

/-- 10 R187, R188: with the count over a limit that a SET lowered, a voice that plays keeps the amplifier ON. -/
theorem test_standby_row_waits_for_silence :
    (after (exec .ampStandbyExpiry (st (fun v => onMain (chime .say 1)
        { ready v with power := { (ready v).power with standby := 50000 }, params := { v.params with ampStandby := 3 } })))).map
      (fun v => (v.power.amp, v.power.standby)) = some (.on, 50000) := by decide +kernel

/-- 06 R139: programming 0x55 over 0x0F leaves 0x05 and fails its verify. -/
theorem test_store_write_end :
    (match exec (.storeWriteEnd true [] []) { st (store .claimed (.link (.write 0 [0x55#8]))) with
        flash := Flash.erased.program 0 [0x0F#8] } with
      | .next t => some (t.flash.read 0, t.vks.notices.queue)
      | _ => none) = some (0x05#8, [.storeDone 1 1 0 2]) := by decide +kernel

/-- 07 section 7.3, worked cases: the combined gain (level × 128 × channel level / 16384). -/
theorem test_combined_gain :
    combinedGain 128 16384 = 16384 ∧ combinedGain 128 12288 = 12288 ∧ combinedGain 100 10000 = 7813
      ∧ combinedGain 96 12288 = 9216 ∧ combinedGain 100 16384 = 12800 ∧ combinedGain 0 16384 = 0
      ∧ combinedGain 100 12288 = 9600 := by decide

/-- 08 section 8.1: the upstream slot of the reset state is RESET_SEEN, STORE not linked, reply NONE (2), with its check. -/
theorem test_transaction_begin :
    (after (exec .transactionBegin State.reset)).map (fun v => v.port.upstream)
      = some ([0#8, 0#8, 0#8, 0#8, 0#8, 0x20#8, 0#8, 0#8, 2#8] ++ List.replicate 53 0#8 ++ [0x22#8, 0#8]) := by decide +kernel

/-- 08 R164: a transaction of 66 bytes that the reset state begins sends the slot and then two bytes of 0; byte 5 is 0x20. -/
theorem test_sends_zeros_beyond_the_slot :
    (after (exec .transactionBegin State.reset)).map
        (fun v => ((sentUpstream 66 v).map (List.drop 62), (lnkOut 6 v).map (List.drop 40)))
      = some (some [0x22#8, 0#8, 0#8, 0#8], some [false, false, true, false, false, false, false, false]) := by decide +kernel

/-- 10 R189: SLEEP is BUSY with the fourth obstacle while the header check runs. -/
theorem test_sleep_busy :
    (after (exec (.sleep 5#8 []) State.reset)).map (fun v => (v.port.reply.result, v.port.reply.data))
      = some (.busy, [4#8, 0#8, 0#8, 0#8]) := by decide +kernel

end Sys2Proof.Tests
end

section
/-! SUPPORT. QUEUE GET (R116): what its answer says byte by byte, and how it is refused. -/

namespace Sys2Proof.QueueGet

open Sys2Proof.Machine

theorem leBytes_one (x : Nat) : leBytes 1 x = [BitVec.ofNat 8 x] := rfl

theorem byteAt_leBytes_one (x : Nat) (h : x < 256) : byteAt (leBytes 1 x) 0 = x := by
  rw [leBytes_one, byteAt_cons_zero, BitVec.toNat_ofNat, Nat.mod_eq_of_lt h]

/-- R165: QUEUE GET in a part that is awake does what its owner's handling does, whose answer becomes the reply. -/
theorem exec_queueGet_awake (s : State) (tag : Byte) (arg : List Byte) (hs : Awake s) (ha : arg.length ≤ 58) :
    exec (.queueGet tag arg) s
      = .next (withPart s (setReply 0x3A#8 tag (handleQueueGet arg s.vks).2 (handleQueueGet arg s.vks).1)) :=
  congrArg (fun v => Host.Outcome.next (withPart s v)) (takeControl_awake 0x3A#8 tag arg handleQueueGet s.vks hs ha)

/-! ### The refusals -/

/-- R171: a refusal of QUEUE GET leaves the part as it was and puts its cause into the reply. -/
theorem exec_queueGet_of_firstCause (s : State) (tag : Byte) (arg : List Byte) (cause : Nat) (hs : Awake s)
    (ha : arg.length ≤ 58)
    (hc : firstCause [(decide (arg.length ≠ 1), 1), (decide (15 < byteAt arg 0), 14)] = some cause) :
    exec (.queueGet tag arg) s
      = .next (withPart s (replying 0x3A#8 tag .badArgs [BitVec.ofNat 8 cause, 0#8, 0#8, 0#8] [] s.vks)) := by
  have hrefused : handleQueueGet arg s.vks = (s.vks, answerBadArgs cause) := checked_fail _ _ _ _ hc
  rw [exec_queueGet_awake s tag arg hs ha, hrefused]
  rfl

/-! ### The answer -/

/-- Both checks of QUEUE GET pass on one byte that is a place of the queue. -/
theorem handleQueueGet_start (start : Nat) (v : Vks) (h : start ≤ 15) :
    handleQueueGet (leBytes 1 start) v
      = (let found := window v.sched.queue start 5
         (v, answerOk [BitVec.ofNat 8 v.sched.queue.length, flagByte v.sched.echoLine.isSome, BitVec.ofNat 8 found.length]
           (voiceBytes v.reader.mainVoice ++ voiceBytes v.reader.echoVoice ++ [flagByte v.sched.echoLine.isSome]
             ++ leBytes 2 (v.sched.echoLine.elim 0 Utterance.id)
             ++ [BitVec.ofNat 8 (bitsValue [!v.storeOpen, echoHeld v])]
             ++ [BitVec.ofNat 8 v.sched.queue.length, BitVec.ofNat 8 start, BitVec.ofNat 8 found.length]
             ++ found.flatMap queueEntryBytes))) := by
  have hbyte : byteAt (leBytes 1 start) 0 = start := byteAt_leBytes_one start (by omega)
  have hpass : ∀ c ∈ [(decide ((leBytes 1 start).length ≠ 1), 1), (decide (15 < byteAt (leBytes 1 start) 0), 14)],
      c.1 = false := by simp [hbyte, h]
  rw [handleQueueGet, checked_pass _ _ _ hpass, hbyte]
  cases v.sched.echoLine <;> simp [leBytes_one]

/-- R116, R179: bit 0 TRUNCATED, bit 1 STARVED, bit 2 FAULTED. -/
theorem flags_eq (u : Utterance) : u.flags
    = (if u.truncated then 1 else 0) + (if u.starved then 2 else 0) + (if u.faulted then 4 else 0) := by
  simp only [Utterance.flags, bitsValue]
  split_ifs <;> rfl

theorem voiceBytes_of_none (w : Voice) (h : w.utterance = none) :
    voiceBytes w = BitVec.ofNat 8 w.state.code :: List.replicate 7 0#8 := by
  simp only [voiceBytes, h]
  rfl

theorem voiceBytes_of_some (w : Voice) (u : Utterance) (h : w.utterance = some u) :
    voiceBytes w = BitVec.ofNat 8 w.state.code :: (leBytes 2 u.id ++ [BitVec.ofNat 8 u.source.code, u.tag,
      BitVec.ofNat 8 u.playItem, BitVec.ofNat 8 u.items.length, BitVec.ofNat 8 u.flags]) := by
  simp [voiceBytes, h, leBytes_one]

theorem queueEntryBytes_eq : queueEntryBytes
    = fun u => leBytes 2 u.id ++ [BitVec.ofNat 8 u.source.code, u.tag, BitVec.ofNat 8 u.items.length] := by
  funext u
  simp [queueEntryBytes, leBytes_one]

/-- R107: the queues admit no start in CHECKING, CLAIM_PENDING and CLAIMED. -/
theorem not_storeOpen_eq (v : Vks) :
    (!v.storeOpen) = decide (v.reader.store ≠ .usable ∧ v.reader.store ≠ .unusable) := by
  simp [Vks.storeOpen]

theorem echoHeld_of_none (v : Vks) (h : v.sched.echoLine = none) : echoHeld v = false := by simp [echoHeld, h]

/-- R108: the store condition never holds an echo whose item is a TONE. -/
theorem echoHeld_of_tone (v : Vks) (u : Utterance) (k : Tone) (h : v.sched.echoLine = some u) (hu : u.items = [.tone k]) :
    echoHeld v = false := by simp [echoHeld, admitsEcho, h, hu]

/-- R108: the store condition holds any other waiting echo where it holds the main queue. -/
theorem echoHeld_of_not_tone (v : Vks) (u : Utterance) (h : v.sched.echoLine = some u) (hu : ∀ k, u.items ≠ [.tone k]) :
    echoHeld v = !v.storeOpen := by
  have hadmits : admitsEcho v u = v.storeOpen := by
    unfold admitsEcho
    split
    · next k hk => exact absurd hk (hu k)
    · exact Bool.or_false _
  simp [echoHeld, h, hadmits]

/-- R169: the fourth data byte of an answer that gives three is 0. -/
theorem setReply_answerOk_three (code tag a b c : Byte) (bulk : List Byte) (v : Vks) :
    setReply code tag (answerOk [a, b, c] bulk) v = replying code tag .ok [a, b, c, 0#8] bulk v := rfl

/-- Settles O41: both refusals are the first failing check; a start the checks let pass is answered field by field. -/
theorem queueGetReturnsVoicesAndQueue : Obligations.QueueGetReturnsVoicesAndQueue := by
  unfold Obligations.QueueGetReturnsVoicesAndQueue
  refine ⟨?answer, fun s tag hs => ⟨?badLength, ?badStart⟩⟩
  case badLength =>
    intro arg hlength hfits
    exact exec_queueGet_of_firstCause s tag arg 1 hs hfits (by simp [firstCause, hlength])
  case badStart =>
    intro start hlow hhigh
    exact exec_queueGet_of_firstCause s tag _ 14 hs (by simp)
      (by simp [firstCause, byteAt_leBytes_one start hhigh, hlow])
  case answer =>
    intro s tag start hs hstart found voice held
    have hvoice (w : Voice) : voiceBytes w = voice w := by
      cases hw : w.utterance with
      | none => simp [voice, hw, voiceBytes_of_none w hw]
      | some u => simp [voice, hw, voiceBytes_of_some w u hw, flags_eq]
    have hheld : (!s.vks.storeOpen) = held := not_storeOpen_eq s.vks
    rw [exec_queueGet_awake s tag _ hs (by simp), handleQueueGet_start start s.vks hstart]
    simp only [setReply_answerOk_three, hvoice, hheld, queueEntryBytes_eq, flagByte, window, bitsValue]
    cases hecho : s.vks.sched.echoLine with
    | none => simp [echoHeld_of_none _ hecho, found]
    | some u =>
      by_cases htone : ∃ k, u.items = [.tone k]
      · obtain ⟨k, hk⟩ := htone
        simp [echoHeld_of_tone _ u k hecho hk, hk, found]
      · have hk : ∀ k, u.items ≠ [.tone k] := not_exists.mp htone
        simp [echoHeld_of_not_tone _ u hecho hk, hheld, found]

end Sys2Proof.QueueGet
end

section
/-! SUPPORT. The reads of the link that change nothing: IDENTIFY (R174) and GET (R173), and what a power-on reset leaves to be
read by GET. -/

namespace Sys2Proof.LinkReads

open Sys2Proof.Machine

/-! ### A request that leaves the part as it was -/

/-- R165, R169: in a part that is awake, a handler that changes nothing and answers OK with four data bytes changes the reply
alone. -/
theorem takeControl_of_read (code tag : Byte) (arg data bulk : List Byte) (hd : Handler) (v : Vks)
    (hawake : v.power.asleep = false) (hfits : arg.length ≤ 58) (hread : hd arg v = (v, answerOk data bulk))
    (hdata : data.length = 4) : takeControl code tag arg hd v = replying code tag .ok data bulk v := by
  rw [takeControl_awake code tag arg hd v hawake hfits, hread]
  exact setReply_eq code tag _ v hdata

/-- R171: in a part that is awake, a handler that refuses with BAD_ARGS changes the reply alone, which carries its cause. -/
theorem takeControl_of_badArgs (code tag : Byte) (arg : List Byte) (cause : Nat) (hd : Handler) (v : Vks)
    (hawake : v.power.asleep = false) (hfits : arg.length ≤ 58) (hrefused : hd arg v = (v, answerBadArgs cause)) :
    takeControl code tag arg hd v = replying code tag .badArgs [BitVec.ofNat 8 cause, 0#8, 0#8, 0#8] [] v := by
  rw [takeControl_awake code tag arg hd v hawake hfits, hrefused]
  rfl

/-! ### IDENTIFY (R174) -/

theorem exec_identify (s : State) (tag : Byte) (arg : List Byte) :
    exec (.identify tag arg) s = .next (withPart s (takeControl 0x01#8 tag arg handleIdentify s.vks)) := rfl

/-- R174: the part code 0x1420, revision 1 and a 0 in the data, the capacities in the bulk, least significant bytes first. -/
theorem handleIdentify_nil (v : Vks) : handleIdentify [] v
    = (v, answerOk [0x20#8, 0x14#8, 1#8, 0#8] [0x20#8, 0x14#8, 1#8, 0x00#8, 0x02#8, 0x00#8, 0x18#8, 0x00#8, 0x08#8,
        16#8, 1#8, 16#8, 16#8, 32#8, 32#8, 0x00#8, 0x0C#8]) :=
  withoutArgument_nil _ v

/-- R171: any argument of IDENTIFY has a wrong length. -/
theorem handleIdentify_of_ne_nil (arg : List Byte) (v : Vks) (h : arg ≠ []) :
    handleIdentify arg v = (v, answerBadArgs 1) := by
  obtain ⟨b, bs, rfl⟩ := List.exists_cons_of_ne_nil h
  exact withoutArgument_cons _ b bs v

/-- Settles O8: without an argument IDENTIFY reads the capacities, with one it refuses; both leave the part as it was. -/
theorem identifyReturnsTheCapacities : Obligations.IdentifyReturnsTheCapacities := by
  unfold Obligations.IdentifyReturnsTheCapacities
  refine fun s tag hs => ⟨?read, ?badLength⟩
  case read =>
    rw [exec_identify, takeControl_of_read 0x01#8 tag [] _ _ _ s.vks hs (by simp) (handleIdentify_nil s.vks) rfl]
  case badLength =>
    intro arg hne hfits
    rw [exec_identify, takeControl_of_badArgs 0x01#8 tag arg 1 _ s.vks hs hfits (handleIdentify_of_ne_nil arg s.vks hne)]

/-! ### GET (R173) -/

theorem exec_get (s : State) (tag : Byte) (arg : List Byte) :
    exec (.get tag arg) s = .next (withPart s (takeControl 0x06#8 tag arg handleGet s.vks)) := rfl

theorem badParamId_eq_false_iff (id : Nat) : badParamId id = false ↔ 1 ≤ id ∧ id ≤ 23 := by
  simp [badParamId]
  omega

/-- R173: the data of GET fills the reply's four bytes, for PLAYOUT_SIZE with two fields of two (R145). -/
theorem paramData_length (v : Vks) (id : Nat) : (paramData v id).length = 4 := by
  unfold paramData
  split <;> simp

/-- The table of section 8.6 lists the ids 1..23 in order, each with what GET answers for it. -/
theorem parameterTable_eq_map (v : Vks) :
    parameterTable v = (List.range' 1 23).map (fun id => (id, paramData v id)) := rfl

theorem mem_parameterTable (v : Vks) (p : Nat × List Byte) (hp : p ∈ parameterTable v) :
    (1 ≤ p.1 ∧ p.1 ≤ 23) ∧ p.2 = paramData v p.1 := by
  rw [parameterTable_eq_map] at hp
  obtain ⟨id, hid, rfl⟩ := List.mem_map.mp hp
  have hrange := List.mem_range'_1.mp hid
  exact ⟨⟨hrange.1, by omega⟩, rfl⟩

/-- Both checks of GET pass on one byte that is an id of the table. -/
theorem handleGet_of_id (id : Nat) (v : Vks) (hid : 1 ≤ id ∧ id ≤ 23) :
    handleGet [BitVec.ofNat 8 id] v = (v, answerOk (paramData v id)) := by
  have hbyte : byteAt [BitVec.ofNat 8 id] 0 = id := QueueGet.byteAt_leBytes_one id (by omega)
  rw [handleGet, hbyte]
  exact checked_pass _ v _ (by simp [(badParamId_eq_false_iff id).mpr hid])

/-- R171: the length of GET's argument is checked ahead of its id. -/
theorem handleGet_of_length_ne_one (arg : List Byte) (v : Vks) (h : arg.length ≠ 1) :
    handleGet arg v = (v, answerBadArgs 1) :=
  checked_fail _ v _ 1 (by simp [firstCause, h])

theorem handleGet_of_badParamId (id : Byte) (v : Vks) (h : badParamId id.toNat = true) :
    handleGet [id] v = (v, answerBadArgs 16) :=
  checked_fail _ v _ 16 (by simp [firstCause, h])

/-- R175: a power-on reset replaces the part, whatever it was, and nothing else. -/
theorem exec_powerOnReset (s : State) :
    exec .powerOnReset s = .next (withPart s (Vks.powerOn (cutOff s.vks.reader))) := rfl

/-- Settles O9: an id of the table passes both checks and is answered with its entry; each refusal is the first failing
check; the table of the power-on part is the table of defaults. -/
theorem getReturnsTheValueInForce : Obligations.GetReturnsTheValueInForce := by
  unfold Obligations.GetReturnsTheValueInForce
  refine ⟨fun s tag hs => ⟨?read, ?badLength, ?badId⟩, ?defaults⟩
  case read =>
    intro p hp
    obtain ⟨hid, hdata⟩ := mem_parameterTable s.vks p hp
    rw [exec_get, hdata, takeControl_of_read 0x06#8 tag _ _ [] _ s.vks hs (by simp) (handleGet_of_id p.1 s.vks hid)
      (paramData_length s.vks p.1)]
  case badLength =>
    intro arg hlength hfits
    rw [exec_get, takeControl_of_badArgs 0x06#8 tag arg 1 _ s.vks hs hfits (handleGet_of_length_ne_one arg s.vks hlength)]
  case badId =>
    intro id hid
    have hbad : badParamId id.toNat = true := by
      rcases hid with rfl | habove
      · rfl
      · simp [badParamId, habove]
    rw [exec_get, takeControl_of_badArgs 0x06#8 tag [id] 16 _ s.vks hs (by simp) (handleGet_of_badParamId id s.vks hbad)]
  case defaults =>
    intro s t hreset
    rw [exec_powerOnReset] at hreset
    cases hreset
    rfl

end Sys2Proof.LinkReads
end

section
/-! SUPPORT. What the starts, readings, timers and the Attempt Controller can do to the part, said once as a chain of plain
moves: a frame or an invariant then needs one look at each move. -/

namespace Sys2Proof.EventMoves

open Sys2Proof.Machine

variable {l k : Nat}

/-- One plain change the shared operations are made of; everything they do to the queues goes through a bounded place. On
level 0 the amplifier is only asked for, the buffer only started where it is ready, the engine begins no read and ATTN stays;
level 1 adds the engine's reads and ATTN, and level 2 leaves amplifier and buffer free. Only with `k` at 1 do the attempt, the
lesson unit, the lamps and the sleep timer move. -/
inductive Move (l k : Nat) : Vks → Vks → Prop
  | notice (n : Notice) (v : Vks) : Move l k (raiseNotice n v) v
  | voices (m e : Voice) (v : Vks) : Move l k { v with reader := { v.reader with mainVoice := m, echoVoice := e } } v
  | forsake (i : VoiceId) (v : Vks) : Move l k { v with reader := { v.reader with engine := v.reader.engine.forsake i } } v
  | engine (g : Engine) (v : Vks) (hl : 1 ≤ l) : Move l k { v with reader := { v.reader with engine := g } } v
  | queue (q : List Utterance) (v : Vks) (h : q.length ≤ 16 ∨ q.length ≤ v.sched.queue.length) : Move l k (setQueue q v) v
  | waiting (u : Option Utterance) (id : Nat) (v : Vks) : Move l k { v with sched := { v.sched with echoLine := u, nextId := id } } v
  | ask (v : Vks) (hoff : v.power.amp = .off) (hlong : v.params.ampWarmup ≠ 0) :
    Move l k { v with power := { v.power with amp := .warming, warmup := some v.params.ampWarmup } } v
  | on (v : Vks) (hoff : v.power.amp = .off) (hshort : v.params.ampWarmup = 0) :
    Move l k { v with power := { v.power with amp := .on, warmup := none, standby := 0 } } v
  | play (v : Vks) (hon : v.power.amp = .on) (hready : playoutReady v = true) :
    Move l k { v with mixer := { v.mixer with playing := true, lowArmed := true } } v
  | playout (playing low : Bool) (v : Vks) (hl : 2 ≤ l) :
    Move l k { v with mixer := { v.mixer with playing := playing, lowArmed := low } } v
  | amp (a : AmpState) (w : Option Nat) (n : Nat) (v : Vks) (hl : 2 ≤ l) :
    Move l k { v with power := { v.power with amp := a, warmup := w, standby := n } } v
  | sleepTimer (z : Option Nat) (v : Vks) (hk : 1 ≤ k) : Move l k { v with power := { v.power with sleepTimer := z } } v
  | attn (attn : Bool) (gap : Option Nat) (v : Vks) (hl : 1 ≤ l) :
    Move l k { v with notices := { v.notices with attn := attn, attnGap := gap } } v
  | lamps (correct wrong : Option Nat) (v : Vks) (hk : 1 ≤ k) :
    Move l k { v with notices := { v.notices with correct := correct, wrong := wrong } } v
  | blink (x y z : Option BlinkPhase) (v : Vks) (hk : 1 ≤ k) : Move l k { v with notices := { v.notices with blink := [x, y, z] } } v
  | attempt (a : AttemptUnit) (v : Vks) (hk : 1 ≤ k) : Move l k { v with attempt := a } v
  | lesson (u : LessonUnit) (v : Vks) (hk : 1 ≤ k) (hrecords : u.records.length = v.lesson.records.length)
      (hlists : ListsFit v → ListsFit { v with lesson := u }) : Move l k { v with lesson := u } v

/-- The part after a chain of moves, and the part before it. -/
inductive Moves (l k : Nat) : Vks → Vks → Prop
  | refl (v : Vks) : Moves l k v v
  | step {a b c : Vks} (h : Move l k a b) (j : Moves l k b c) : Moves l k a c

theorem Move.moves {a b : Vks} (h : Move l k a b) : Moves l k a b := .step h (.refl b)

theorem Moves.trans {a b c : Vks} (h : Moves l k a b) (j : Moves l k b c) : Moves l k a c := by
  induction h with
  | refl => exact j
  | step h _ ih => exact .step h (ih j)

/-- A preorder that every move keeps is kept by every chain. -/
theorem Moves.induct {R : Vks → Vks → Prop} (hrefl : ∀ v, R v v) (htrans : ∀ {a b c}, R a b → R b c → R a c)
    (hmove : ∀ {a b}, Move l k a b → R a b) {a b : Vks} (h : Moves l k a b) : R a b := by
  induction h with
  | refl v => exact hrefl v
  | step h _ ih => exact htrans (hmove h) ih

/-! ### Notices, voices and queues -/

@[simp] theorem raiseNotice_sched (n : Notice) (v : Vks) : (raiseNotice n v).sched = v.sched := by
  unfold raiseNotice
  split <;> rfl

@[simp] theorem raiseNotice_attempt (n : Notice) (v : Vks) : (raiseNotice n v).attempt = v.attempt := by
  unfold raiseNotice
  split <;> rfl

@[simp] theorem raiseNotice_lesson (n : Notice) (v : Vks) : (raiseNotice n v).lesson = v.lesson := by
  unfold raiseNotice
  split <;> rfl

theorem raiseNotice_moves (n : Notice) (v : Vks) : Moves l k (raiseNotice n v) v := (Move.notice n v).moves

theorem setVoice_moves (i : VoiceId) (w : Voice) (v : Vks) : Moves l k (setVoice i w v) v := by
  cases i
  · exact (Move.voices w v.reader.echoVoice v).moves
  · exact (Move.voices v.reader.mainVoice w v).moves

theorem setEngine_moves (g : Engine) (v : Vks) (hl : 1 ≤ l) : Moves l k (setEngine g v) v := (Move.engine g v hl).moves

theorem setQueue_moves_of_le (q : List Utterance) (v : Vks) (h : q.length ≤ v.sched.queue.length) :
    Moves l k (setQueue q v) v := (Move.queue q v (.inr h)).moves

theorem setEchoLine_moves (u : Option Utterance) (v : Vks) : Moves l k (setEchoLine u v) v :=
  (Move.waiting u v.sched.nextId v).moves

theorem idleVoice_moves (i : VoiceId) (v : Vks) : Moves l k (idleVoice i v) v :=
  (Move.forsake i (setVoice i Voice.idle v)).moves.trans (setVoice_moves i Voice.idle v)

theorem replaceSegment_moves (i : VoiceId) (s c : Nat) (v : Vks) : Moves l k (replaceSegment i s c v) v :=
  (raiseNotice_moves _ _).trans (setVoice_moves _ _ _)

theorem readStage_moves (i : VoiceId) (v : Vks) : Moves l k (readStage i v).1 v := by
  unfold readStage
  simp only
  repeat' split
  all_goals first
    | exact Moves.refl v
    | exact setVoice_moves _ _ _
    | exact replaceSegment_moves _ _ _ _

theorem readStages_moves (n : Nat) (i : VoiceId) (v : Vks) : Moves l k (readStages n i v) v := by
  induction n generalizing v with
  | zero => exact Moves.refl v
  | succ n ih =>
    have h := readStage_moves (l := l) (k := k) i v
    unfold readStages
    split <;> rename_i heq <;> rw [heq] at h
    · exact (ih _).trans h
    · exact h

theorem readAhead_moves (i : VoiceId) (v : Vks) : Moves l k (readAhead i v) v := readStages_moves 82 i v

theorem startRead_moves (v : Vks) (hl : 1 ≤ l) : Moves l k (startRead v) v := by
  unfold startRead
  repeat' split
  · exact setEngine_moves _ v hl
  all_goals exact Moves.refl v

/-! ### The playout buffer and the amplifier -/

theorem startPlayout_moves (v : Vks) (hon : v.power.amp = .on) : Moves l k (startPlayout v) v := by
  unfold startPlayout
  split
  · next hready => exact (Move.play v hon hready).moves
  · exact Moves.refl v

theorem stopPlayout_moves (v : Vks) (hl : 2 ≤ l) : Moves l k (stopPlayout v) v :=
  (Move.playout false v.mixer.lowArmed v hl).moves

theorem lowCompare_moves (v : Vks) (hl : 2 ≤ l) : Moves l k (lowCompare v) v := by
  unfold lowCompare
  repeat' split
  · exact (raiseNotice_moves _ _).trans (Move.playout v.mixer.playing false v hl).moves
  · exact Moves.refl v
  · exact (Move.playout v.mixer.playing true v hl).moves

theorem becomePlaying_moves (i : VoiceId) (v : Vks) : Moves l k (becomePlaying i v) v :=
  (readAhead_moves i _).trans (setVoice_moves _ _ _)

theorem releaseVoice_moves (i : VoiceId) (v : Vks) : Moves l k (releaseVoice i v) v := by
  unfold releaseVoice
  split
  · exact becomePlaying_moves i v
  · exact Moves.refl v

@[simp] theorem raiseNotice_power (n : Notice) (v : Vks) : (raiseNotice n v).power = v.power := by
  unfold raiseNotice
  split <;> rfl

@[simp] theorem setVoice_power (i : VoiceId) (w : Voice) (v : Vks) : (setVoice i w v).power = v.power := by cases i <;> rfl

theorem readStage_power (i : VoiceId) (v : Vks) : (readStage i v).1.power = v.power := by
  unfold readStage replaceSegment
  simp only
  repeat' split
  all_goals simp

@[simp] theorem readAhead_power (i : VoiceId) (v : Vks) : (readAhead i v).power = v.power := by
  have hstages (n : Nat) : ∀ v : Vks, (readStages n i v).power = v.power := by
    induction n with
    | zero => intro v; rfl
    | succ n ih =>
      intro v
      have h := readStage_power i v
      unfold readStages
      split <;> rename_i heq <;> rw [heq] at h
      · rw [ih, h]
      · exact h
  exact hstages 82 v

@[simp] theorem releaseVoice_power (i : VoiceId) (v : Vks) : (releaseVoice i v).power = v.power := by
  unfold releaseVoice becomePlaying
  split <;> simp

/-- R186: what follows once the amplifier is ON. -/
theorem ampBecomesOn_moves_of_on (v : Vks)
    (h : Moves l k { v with power := { v.power with amp := .on, warmup := none, standby := 0 } } v) :
    Moves l k (ampBecomesOn v) v :=
  (startPlayout_moves _ (by simp)).trans ((releaseVoice_moves _ _).trans ((releaseVoice_moves _ _).trans h))

theorem ampBecomesOn_moves (v : Vks) (hl : 2 ≤ l) : Moves l k (ampBecomesOn v) v :=
  ampBecomesOn_moves_of_on v (Move.amp .on none 0 v hl).moves

theorem askAmp_moves (v : Vks) : Moves l k (askAmp v) v := by
  unfold askAmp
  split
  · next hoff =>
    split
    · next hshort => exact ampBecomesOn_moves_of_on v (Move.on v hoff hshort).moves
    · next hlong => exact (Move.ask v hoff hlong).moves
  · exact Moves.refl v

theorem testPlayout_moves (v : Vks) : Moves l k (testPlayout v) v := by
  unfold testPlayout
  repeat' split
  · next hon => exact startPlayout_moves v hon
  · exact askAmp_moves v
  · exact Moves.refl v
  · exact Moves.refl v

theorem ampGoesOff_moves (v : Vks) (hl : 2 ≤ l) : Moves l k (ampGoesOff v) v :=
  (stopPlayout_moves _ hl).trans (Move.amp .off none 0 v hl).moves

theorem startVoice_moves (i : VoiceId) (u : Utterance) (v : Vks) : Moves l k (startVoice i u v) v := by
  unfold startVoice
  simp only
  split
  · exact (becomePlaying_moves _ _).trans (setVoice_moves _ _ _)
  · exact (askAmp_moves _).trans (setVoice_moves _ _ _)

theorem startMainHead_moves (v : Vks) : Moves l k (startMainHead v) v := by
  unfold startMainHead
  repeat' split
  · next u q hq => exact (startVoice_moves _ _ _).trans (setQueue_moves_of_le q v (by simp [hq]))
  · exact Moves.refl v
  · exact Moves.refl v

theorem startEchoHead_moves (v : Vks) : Moves l k (startEchoHead v) v := by
  unfold startEchoHead
  repeat' split
  · exact (startVoice_moves _ _ _).trans (setEchoLine_moves _ _)
  all_goals exact Moves.refl v

theorem startHeads_moves (v : Vks) : Moves l k (startHeads v) v := (startEchoHead_moves _).trans (startMainHead_moves v)

/-! ### The end of an event -/

theorem settleReads_moves (v : Vks) (hl : 1 ≤ l) : Moves l k (settleReads v) v :=
  (startRead_moves _ hl).trans ((readAhead_moves _ _).trans (readAhead_moves _ _))

theorem settleInactivity_moves (v : Vks) : Moves l 1 (settleInactivity v) v := (Move.attempt _ v le_rfl).moves

theorem dropAttn_moves (v : Vks) (hl : 1 ≤ l) : Moves l k (dropAttn v) v := by
  unfold dropAttn
  split
  · exact (Move.attn false _ v hl).moves
  · exact Moves.refl v

theorem settleAttn_moves (v : Vks) (hl : 1 ≤ l) : Moves l k (settleAttn v) v := by
  unfold settleAttn
  repeat' split
  · exact Moves.refl v
  · exact (Move.attn true v.notices.attnGap v hl).moves
  · exact Moves.refl v
  · exact dropAttn_moves v hl

theorem settleLamps_moves (v : Vks) : Moves l 1 (settleLamps v) v := (Move.blink _ _ _ v le_rfl).moves

theorem setSleepTimer_moves (z : Option Nat) (v : Vks) : Moves l 1 { v with power := { v.power with sleepTimer := z } } v :=
  (Move.sleepTimer z v le_rfl).moves

theorem settleSleepTimer_moves (v : Vks) : Moves l 1 (settleSleepTimer v) v := setSleepTimer_moves _ v

theorem restartSleepTimer_moves (v : Vks) : Moves l 1 (restartSleepTimer v) v := setSleepTimer_moves none v

theorem settle_moves (v : Vks) (hl : 1 ≤ l := by decide) : Moves l 1 (settle v) v :=
  (settleSleepTimer_moves _).trans ((settleLamps_moves _).trans ((settleAttn_moves _ hl).trans
    ((settleInactivity_moves _).trans ((settleReads_moves _ hl).trans (startHeads_moves v)))))

/-! ### The Attempt Controller -/

theorem setContext_moves (c : Context) (v : Vks) : Moves l 1 (setContext c v) v := (Move.attempt _ v le_rfl).moves

theorem stopInactivity_moves (v : Vks) : Moves l 1 (stopInactivity v) v := (Move.attempt _ v le_rfl).moves

theorem setAttemptState_moves (st : AttemptState) (v : Vks) : Moves l 1 (setAttemptState st v) v := (Move.attempt _ v le_rfl).moves

theorem setAwaited_moves (a : Option (AwaitKind × Nat)) (v : Vks) : Moves l 1 (setAwaited a v) v := setContext_moves _ v

theorem rearm_moves (v : Vks) : Moves l 1 (rearm v) v := (stopInactivity_moves _).trans (setContext_moves _ v)

theorem startCorrect_moves (v : Vks) : Moves l 1 (startCorrect v) v :=
  (Move.lamps (some 1000) v.notices.wrong v le_rfl).moves

theorem startWrong_moves (v : Vks) : Moves l 1 (startWrong v) v :=
  (Move.lamps v.notices.correct (some 1000) v le_rfl).moves

theorem setAutoAndGap_moves (b : Bool) (g : Option Nat) (es : List LessonEntry) (v : Vks)
    (h : es.length ≤ v.lesson.entries.length) :
    Moves l 1 { v with lesson := { v.lesson with entries := es, auto := b, gapTimer := g } } v :=
  (Move.lesson { v.lesson with entries := es, auto := b, gapTimer := g } v le_rfl rfl
    (fun ⟨he, hr, hd⟩ => ⟨h.trans he, hr, hd⟩)).moves

theorem stopGap_moves (v : Vks) : Moves l 1 (stopGap v) v := setAutoAndGap_moves v.lesson.auto none _ v le_rfl

theorem setAuto_moves (b : Bool) (v : Vks) : Moves l 1 (setAuto b v) v := setAutoAndGap_moves b v.lesson.gapTimer _ v le_rfl

theorem forget_moves (id : Nat) (v : Vks) : Moves l 1 (forget id v) v := (Move.attempt _ v le_rfl).moves

theorem remember_moves (id : Nat) (v : Vks) : Moves l 1 (remember id v) v := (Move.attempt _ v le_rfl).moves

theorem makeUtterance_moves (s : Source) (tag : Byte) (items : List Item) (v : Vks) :
    Moves l k (makeUtterance s tag items v).2 v := (Move.waiting v.sched.echoLine _ v).moves

@[simp] theorem insertEngine_length (u : Utterance) (q : List Utterance) : (insertEngine u q).length = q.length + 1 := by
  induction q with
  | nil => rfl
  | cons x xs ih => unfold insertEngine; split <;> simp [ih]

theorem dropNewestSay_length (q q' : List Utterance) (s : Utterance) (h : dropNewestSay q = some (s, q')) :
    q.length = q'.length + 1 := by
  induction q generalizing q' with
  | nil => cases h
  | cons x xs ih =>
    unfold dropNewestSay at h
    split at h
    · next s' xs' hxs =>
      cases h
      simp [ih xs' hxs]
    · split at h
      · cases h; rfl
      · cases h

theorem placeEngine_moves (u : Utterance) (v : Vks) : Moves l k (placeEngine u v).1 v := by
  unfold placeEngine
  split
  · exact startVoice_moves _ _ _
  · split
    · next hroom => exact (Move.queue _ v (.inl (by simpa using hroom))).moves
    · split
      · next s q hq =>
        have hlen := dropNewestSay_length _ _ _ hq
        exact (setQueue_moves_of_le _ _ (by simp [hlen])).trans (raiseNotice_moves _ v)
      · exact Moves.refl v

theorem cutPlayingEcho_moves (v : Vks) : Moves l 1 (cutPlayingEcho v) v := by
  unfold cutPlayingEcho
  split
  · exact (forget_moves _ _).trans (idleVoice_moves _ _)
  · exact idleVoice_moves _ _

theorem dropWaitingEcho_moves (v : Vks) : Moves l 1 (dropWaitingEcho v) v := by
  unfold dropWaitingEcho
  split
  · exact (setEchoLine_moves _ _).trans (forget_moves _ _)
  · exact Moves.refl v

theorem placeEcho_moves (u : Utterance) (v : Vks) : Moves l 1 (placeEcho u v) v := by
  have h := dropWaitingEcho_moves (l := l) v
  unfold placeEcho
  simp only
  repeat' split
  · exact (startVoice_moves _ _ _).trans h
  · exact (setEchoLine_moves _ _).trans h
  · exact (startVoice_moves _ _ _).trans ((cutPlayingEcho_moves _).trans h)
  · exact (setEchoLine_moves _ _).trans h
  · exact (setEchoLine_moves _ _).trans h

theorem takeOverEcho_moves (r : Bool) (v : Vks) : Moves l 1 (takeOverEcho r v) v := by
  unfold takeOverEcho
  repeat' split
  · exact (startVoice_moves _ _ _).trans ((setEchoLine_moves _ _).trans (cutPlayingEcho_moves v))
  all_goals exact Moves.refl v

theorem cutNamed_moves (ids : List Nat) (v : Vks) : Moves l k (cutNamed ids v) v := by
  have h : Moves l k (setQueue (v.sched.queue.filter (fun u => u.id ∉ ids)) v) v :=
    setQueue_moves_of_le _ v (List.length_filter_le _ _)
  unfold cutNamed
  simp only
  split
  · exact (idleVoice_moves _ _).trans h
  · exact h

theorem requestEngine_moves (s : Source) (ps : List Part) (x : Expansion) (v : Vks) :
    Moves l 1 (requestEngine s ps x v).1 v := by
  have h0 := stopInactivity_moves (l := l) v
  have h1 (id : Nat) (items : List Item) := (remember_moves (l := l) id _).trans ((makeUtterance_moves s 0#8 items _).trans h0)
  unfold requestEngine
  simp only
  repeat' split
  · exact h0
  · exact (forget_moves _ _).trans ((placeEngine_moves _ _).trans (h1 _ _))
  · exact (placeEngine_moves _ _).trans (h1 _ _)

theorem requestEcho_moves (item : Item) (v : Vks) : Moves l 1 (requestEcho item v) v :=
  (placeEcho_moves _ _).trans ((remember_moves _ _).trans ((makeUtterance_moves _ _ _ _).trans (stopInactivity_moves v)))

theorem letterEcho_moves (st : EchoStyle) (c : Nat) (v : Vks) : Moves l 1 (letterEcho st c v) v := by
  cases st
  · exact requestEcho_moves _ _
  · exact requestEcho_moves _ _
  · exact Moves.refl v

theorem requestPrompt_moves (v : Vks) : Moves l 1 (requestPrompt v).1 v :=
  (setAwaited_moves _ _).trans ((setAttemptState_moves _ _).trans (requestEngine_moves _ _ _ v))

theorem beginPrompting_moves (v : Vks) : Moves l 1 (beginPrompting v) v := by
  have h := (raiseNotice_moves (l := l) (openedNotice (requestPrompt v).1.attempt.ctx) _).trans (requestPrompt_moves v)
  unfold beginPrompting
  simp only
  split
  · exact (setAttemptState_moves _ _).trans h
  · exact h

theorem openAttempt_moves (w : Nat) (o : Origin) (m : Option CheckMode) (v : Vks) : Moves l 1 (openAttempt w o m v) v := by
  unfold openAttempt
  split
  · exact (beginPrompting_moves _).trans ((setContext_moves _ _).trans (stopGap_moves v))
  · exact Moves.refl v

/-- R58: the walk leaves entries of the list it searched. -/
theorem walkTo_length (v : Vks) (es : List LessonEntry) (n : Nat) : (walkTo v es n).2.1.length ≤ es.length := by
  induction es generalizing n with
  | nil => simp [walkTo]
  | cons e t ih =>
    unfold walkTo
    split
    · simp
    · exact (ih (n + 1)).trans (by simp)

theorem lessonWalk_moves (v : Vks) : Moves l 1 (lessonWalk v) v := by
  have hlen := walkTo_length v v.lesson.entries 0
  unfold lessonWalk
  split <;> rename_i hw <;> rw [hw] at hlen
  · exact (openAttempt_moves _ _ _ _).trans (setAutoAndGap_moves v.lesson.auto none _ v hlen)
  · exact (raiseNotice_moves _ _).trans ((setAttemptState_moves _ _).trans (setAutoAndGap_moves false none _ v hlen))

theorem closingEnded_moves (v : Vks) : Moves l 1 (closingEnded v) v := by
  have h := setContext_moves (l := l) { v.attempt.ctx with awaited := none, outstanding := [] } v
  have hg := (setAttemptState_moves (l := l) .gap _).trans h
  unfold closingEnded
  simp only
  repeat' split
  · exact (lessonWalk_moves _).trans hg
  · exact (setAutoAndGap_moves v.lesson.auto _ _ _ le_rfl).trans hg
  · exact (setAttemptState_moves _ _).trans h

theorem tryEnded_moves (v : Vks) : Moves l 1 (tryEnded v) v := (setAttemptState_moves _ _).trans (setContext_moves _ v)

theorem awaitedStep_moves (k : AwaitKind) (v : Vks) : Moves l 1 (awaitedStep k v) v := by
  cases k
  · exact setAttemptState_moves _ _
  · exact tryEnded_moves v
  · exact closingEnded_moves v

theorem endReport_moves (id : Nat) (v : Vks) : Moves l 1 (endReport id v) v := by
  have h := forget_moves (l := l) id v
  unfold endReport
  simp only
  repeat' split
  · exact (awaitedStep_moves _ _).trans ((setAwaited_moves _ _).trans h)
  · exact h
  · exact h
  · exact Moves.refl v

theorem reportEnd_moves (o : UttOutcome) (v : Vks) (u : Utterance) : Moves l 1 (reportEnd o v u) v := by
  unfold reportEnd
  split
  · exact raiseNotice_moves _ _
  · exact endReport_moves _ _

theorem foldl_moves {α : Type} (f : Vks → α → Vks) (hf : ∀ v x, Moves l 1 (f v x) v) (xs : List α) (v : Vks) :
    Moves l 1 (xs.foldl f v) v := by
  induction xs generalizing v with
  | nil => exact Moves.refl v
  | cons x xs ih => exact (ih _).trans (hf v x)

theorem reportEnds_moves (o : UttOutcome) (us : List Utterance) (v : Vks) : Moves l 1 (reportEnds o us v) v :=
  foldl_moves _ (reportEnd_moves o) us v

theorem stopVoices_moves (v : Vks) : Moves l k (stopVoices v).2 v := (idleVoice_moves _ _).trans (idleVoice_moves _ _)

/-! ### Closing -/

theorem reviewEnter_fits (w : Nat) (l : List Nat) (hl : l.length ≤ 32) (hd : l.Nodup) :
    (reviewEnter w l).length ≤ 32 ∧ (reviewEnter w l).Nodup := by
  have hlen : (l.filter (fun x => x ≠ w)).length ≤ l.length := List.length_filter_le _ _
  have hw : w ∉ l.filter (fun x => x ≠ w) := by simp
  have hnodup : (l.filter (fun x => x ≠ w)).Nodup := hd.filter _
  have happend (k : List Nat) (hk : k.Sublist (l.filter (fun x => x ≠ w))) : (k ++ [w]).Nodup :=
    (hnodup.sublist hk).append (List.nodup_singleton w) (List.disjoint_singleton.mpr fun h => hw (hk.subset h))
  unfold reviewEnter
  simp only
  split
  · next hroom => exact ⟨by simpa using hroom, happend _ (List.Sublist.refl _)⟩
  · exact ⟨by simp only [List.length_append, List.length_drop, List.length_singleton]; omega,
      happend _ (List.drop_sublist _ _)⟩

theorem reviewAfter_fits (w : Nat) (cls : CloseClass) (before after : Mastery) (l : List Nat) (hl : l.length ≤ 32)
    (hd : l.Nodup) : (reviewAfter w cls before after l).length ≤ 32 ∧ (reviewAfter w cls before after l).Nodup := by
  unfold reviewAfter
  repeat' split
  · exact reviewEnter_fits w l hl hd
  · exact ⟨(List.length_filter_le _ _).trans hl, hd.filter _⟩
  · exact ⟨hl, hd⟩

theorem requeueAfter_length (w : Nat) (cls : CloseClass) (o : Origin) (l : List LessonEntry) (hl : l.length ≤ 32) :
    (requeueAfter w cls o l).length ≤ 32 := by
  unfold requeueAfter
  repeat' split
  · next h => simpa using h.2
  · exact hl
  · exact hl

theorem countClose_moves (w : Nat) (d : Verdict) (c : CloseClass) (o : Origin) (v : Vks) : Moves l 1 (countClose w d c o v) v := by
  unfold countClose
  extract_lets old r u v1 v2 u2
  have h1 : Moves l 1 v1 v := (Move.lesson { v.lesson with records := writeAt v.lesson.records w r } v le_rfl (by simp [writeAt]) id).moves
  have h2 : Moves l 1 v2 v := by
    unfold v2
    split
    · exact h1
    · exact (raiseNotice_moves _ _).trans h1
  refine Moves.trans (Move.lesson { v2.lesson with
    review := reviewAfter w c old.mastery r.mastery v2.lesson.review, entries := requeueAfter w c o v2.lesson.entries }
    v2 le_rfl rfl ?_).moves h2
  rintro ⟨hentries, hreview, hnodup⟩
  obtain ⟨hlen, hnodup'⟩ := reviewAfter_fits w c old.mastery r.mastery v2.lesson.review hreview hnodup
  exact ⟨requeueAfter_length w c o _ hentries, hlen, hnodup'⟩

theorem closeAttempt_moves (d : Verdict) (p : Nat) (v : Vks) : Moves l 1 (closeAttempt d p v) v := by
  unfold closeAttempt
  extract_lets cls c v1 r v2 v3 v4 v5 v6
  have h1 : Moves l 1 v1 v := setContext_moves _ _
  have h2 : Moves l 1 v2 v := (setAwaited_moves _ _).trans ((requestEngine_moves _ _ _ v1).trans h1)
  have h3 : Moves l 1 v3 v := (raiseNotice_moves _ v2).trans h2
  have h4 : Moves l 1 v4 v := (countClose_moves _ _ _ _ v3).trans h3
  have h5 : Moves l 1 v5 v := (setAttemptState_moves _ v4).trans h4
  have h6 : Moves l 1 v6 v := by
    unfold v6
    split
    · exact (startCorrect_moves _).trans h5
    · exact (startWrong_moves _).trans h5
  split
  · exact (closingEnded_moves _).trans h6
  · exact h6

theorem failTry_moves (d : Verdict) (p : Nat) (v : Vks) : Moves l 1 (failTry d p v) v := by
  unfold failTry
  extract_lets r v1 v2 v3
  have h1 : Moves l 1 v1 v := (setAwaited_moves _ _).trans (requestEngine_moves _ _ _ _)
  have h3 : Moves l 1 v3 v := (setAttemptState_moves _ _).trans ((startWrong_moves _).trans ((raiseNotice_moves _ _).trans h1))
  split
  · exact (tryEnded_moves _).trans h3
  · exact h3

theorem endTry_moves (d : Verdict) (p : Nat) (v : Vks) : Moves l 1 (endTry d p v) v := by
  unfold endTry
  simp only
  split
  · exact (failTry_moves _ _ _).trans (setContext_moves _ v)
  · exact (closeAttempt_moves _ _ _).trans (setContext_moves _ v)

/-! ### Keys -/

theorem enterMatch_moves (st : EchoStyle) (c : Nat) (v : Vks) : Moves l 1 (enterMatch st c v) v := by
  have h := (letterEcho_moves (l := l) st c _).trans (setContext_moves { v.attempt.ctx with
    buffer := v.attempt.ctx.buffer ++ [c], hintStage := 0 } v)
  unfold enterMatch
  simp only
  split
  · exact (closeAttempt_moves _ _ _).trans h
  · exact h

theorem enterMistake_moves (v : Vks) : Moves l 1 (enterMistake v) v := by
  have h := (startWrong_moves (l := l) _).trans (setContext_moves { v.attempt.ctx with mistakes := v.attempt.ctx.mistakes + 1 } v)
  unfold enterMistake
  simp only
  split
  · exact (requestEngine_moves _ _ _ _).trans h
  · exact (closeAttempt_moves _ _ _).trans h

theorem takeLetter_moves (c : Nat) (v : Vks) : Moves l 1 (takeLetter c v).1 v := by
  have h := rearm_moves (l := l) v
  unfold takeLetter
  simp only
  repeat' split
  · exact (enterMatch_moves _ _ _).trans h
  · exact (enterMistake_moves _).trans h
  · exact (letterEcho_moves _ _ _).trans ((setContext_moves _ _).trans h)
  · exact (requestEcho_moves _ _).trans h

theorem takeErase_moves (v : Vks) : Moves l 1 (takeErase v).1 v := by
  unfold takeErase
  split
  · exact (requestEcho_moves _ _).trans ((setContext_moves _ _).trans (rearm_moves v))
  · exact Moves.refl v

theorem takeSubmit_moves (v : Vks) : Moves l 1 (takeSubmit v).1 v := by
  unfold takeSubmit
  split
  · exact (endTry_moves _ _ _).trans (rearm_moves v)
  · exact Moves.refl v

theorem takeRepeat_moves (v : Vks) : Moves l 1 (takeRepeat v).1 v := by
  have h := (requestPrompt_moves (l := l) _).trans (rearm_moves v)
  unfold takeRepeat
  simp only
  split
  · exact (setAttemptState_moves _ _).trans h
  · exact h

theorem takeHint_moves (v : Vks) : Moves l 1 (takeHint v).1 v := by
  have h := rearm_moves (l := l) v
  unfold takeHint
  extract_lets p v0 c stage v1
  have hc (c : Context) : Moves l 1 (setContext c v0) v := (setContext_moves c v0).trans h
  repeat' split
  · exact (enterMatch_moves _ _ _).trans (hc _)
  · exact hc _
  · exact (requestEngine_moves _ _ _ _).trans (hc _)
  · exact (requestEcho_moves _ _).trans (hc _)

theorem bargeIn_moves (v : Vks) : Moves l 1 (bargeIn v) v := by
  unfold bargeIn
  split
  · exact (startHeads_moves _).trans ((forget_moves _ _).trans ((cutNamed_moves _ _).trans
      ((setAttemptState_moves _ _).trans (setAwaited_moves _ v))))
  · exact setAttemptState_moves _ v

theorem handlePress_moves (cls : KeyClass) (c : Nat) (v : Vks) : Moves l 1 (handlePress cls c v).1 v := by
  unfold handlePress
  repeat' split
  · exact (takeLetter_moves _ _).trans (bargeIn_moves v)
  · exact Moves.refl v
  · exact takeLetter_moves _ _
  · exact takeErase_moves v
  · exact takeSubmit_moves v
  · exact takeHint_moves v
  · exact takeRepeat_moves v
  all_goals exact Moves.refl v

theorem inactivityExpires_moves (v : Vks) : Moves l 1 (inactivityExpires v) v := by
  unfold inactivityExpires
  simp only
  split
  · exact closeAttempt_moves _ _ _
  · exact (requestEngine_moves _ _ _ _).trans (setContext_moves _ v)

end Sys2Proof.EventMoves
end

section
/-! SUPPORT. The invariants of tables and capacities (R3, R4, R53, R70, R77, R89, R104, R145, R154, R169, R178): each command
keeps each of them. -/

namespace Sys2Proof.Invariants

open Sys2Proof.Machine Sys2Proof.EventMoves

/-- Whatever invariant of the tables and the capacities `b` meets, `a` meets as well. -/
structure Fits (a b : Vks) : Prop where
  pool : PoolBalances b → PoolBalances a
  tables : TablesSized b → TablesSized a
  notices : NoticesFit b → NoticesFit a
  keys : KeysFit b → KeysFit a
  lists : ListsFit b → ListsFit a
  queue : QueueFits b → QueueFits a
  buffer : BufferFits b → BufferFits a
  output : OutputFits b → OutputFits a
  reply : ReplyFits b → ReplyFits a

theorem Fits.refl (v : Vks) : Fits v v := ⟨id, id, id, id, id, id, id, id, id⟩

theorem Fits.trans {a b c : Vks} (h : Fits a b) (k : Fits b c) : Fits a c where
  pool := h.pool ∘ k.pool
  tables := h.tables ∘ k.tables
  notices := h.notices ∘ k.notices
  keys := h.keys ∘ k.keys
  lists := h.lists ∘ k.lists
  queue := h.queue ∘ k.queue
  buffer := h.buffer ∘ k.buffer
  output := h.output ∘ k.output
  reply := h.reply ∘ k.reply

/-- What every operation but the entry to SLEEP does: it keeps the invariants, and an ACTIVE part stays ACTIVE. -/
structure Keeps (a b : Vks) : Prop extends Fits a b where
  active : b.power.asleep = false → a.power.asleep = false

theorem Keeps.refl (v : Vks) : Keeps v v := ⟨Fits.refl v, id⟩

theorem Keeps.trans {a b c : Vks} (h : Keeps a b) (k : Keeps b c) : Keeps a c :=
  ⟨h.toFits.trans k.toFits, h.active ∘ k.active⟩

/-! ### One block replaced: what it owes to the invariants -/

theorem keeps_words (w : WordTable) (v : Vks) (hpool : PoolBalances v → PoolBalances { v with words := w })
    (hentries : w.entries.length = v.words.entries.length) (halphabet : w.alphabet.length = v.words.alphabet.length) :
    Keeps { v with words := w } v :=
  ⟨⟨hpool, fun ⟨he, ha, hr, hp, hk, hrow, hl, hb⟩ => ⟨hentries.trans he, halphabet.trans ha, hr, hp, hk, hrow, hl, hb⟩,
    id, id, id, id, id, id, id⟩, id⟩

theorem keeps_attempt (x : AttemptUnit) (v : Vks) : Keeps { v with attempt := x } v :=
  ⟨⟨id, fun ⟨he, ha, hr, hp, hk, hrow, hl, hb⟩ => ⟨he, ha, hr, hp, hk, hrow, hl, hb⟩, id, id, id, id, id, id, id⟩, id⟩

theorem keeps_lesson (l : LessonUnit) (v : Vks) (hrecords : l.records.length = v.lesson.records.length)
    (hlists : ListsFit v → ListsFit { v with lesson := l }) : Keeps { v with lesson := l } v :=
  ⟨⟨id, fun ⟨he, ha, hr, hp, hk, hrow, hl, hb⟩ => ⟨he, ha, hrecords.trans hr, hp, hk, hrow, hl, hb⟩,
    id, id, hlists, id, id, id, id⟩, id⟩

theorem keeps_keys (k : KeyUnit) (v : Vks) (hpositions : v.keys.positions.length = 80 → k.positions.length = 80)
    (hkeymap : k.keymap.length = v.keys.keymap.length) (hkeys : KeysFit v → KeysFit { v with keys := k }) :
    Keeps { v with keys := k } v :=
  ⟨⟨id, fun ⟨he, ha, hr, hp, hk, hrow, hl, hb⟩ => ⟨he, ha, hr, hpositions hp, hkeymap.trans hk, hrow, hl, hb⟩,
    id, hkeys, id, id, id, id, id⟩, id⟩

theorem keeps_rows (rows : List (List Part)) (v : Vks) (h : rows.length = v.sched.rows.length) :
    Keeps { v with sched := { v.sched with rows := rows } } v :=
  ⟨⟨id, fun ⟨he, ha, hr, hp, hk, hrow, hl, hb⟩ => ⟨he, ha, hr, hp, hk, h.trans hrow, hl, hb⟩, id, id, id, id, id, id, id⟩, id⟩

theorem keeps_reader (x : Reader) (v : Vks) : Keeps { v with reader := x } v :=
  ⟨⟨id, fun ⟨he, ha, hr, hp, hk, hrow, hl, hb⟩ => ⟨he, ha, hr, hp, hk, hrow, hl, hb⟩, id, id, id, id, id, id, id⟩, id⟩

theorem keeps_mixer (m : Mixer) (v : Vks) (hbuffer : BufferFits v → BufferFits { v with mixer := m })
    (houtput : OutputFits v → OutputFits { v with mixer := m }) : Keeps { v with mixer := m } v :=
  ⟨⟨id, fun ⟨he, ha, hr, hp, hk, hrow, hl, hb⟩ => ⟨he, ha, hr, hp, hk, hrow, hl, hb⟩, id, id, id, id, hbuffer, houtput, id⟩, id⟩

theorem keeps_port (p : SlotPort) (v : Vks) (hreply : ReplyFits v → ReplyFits { v with port := p }) :
    Keeps { v with port := p } v :=
  ⟨⟨id, fun ⟨he, ha, hr, hp, hk, hrow, hl, hb⟩ => ⟨he, ha, hr, hp, hk, hrow, hl, hb⟩, id, id, id, id, id, id, hreply⟩, id⟩

theorem keeps_notices (n : NoticeUnit) (v : Vks) (hqueue : NoticesFit v → NoticesFit { v with notices := n })
    (hblink : v.notices.blink.length = 3 → n.blink.length = 3) : Keeps { v with notices := n } v :=
  ⟨⟨id, fun ⟨he, ha, hr, hp, hk, hrow, hl, hb⟩ => ⟨he, ha, hr, hp, hk, hrow, hl, hblink hb⟩,
    hqueue, id, id, id, id, id, id⟩, id⟩

theorem fits_power (x : Power) (v : Vks) : Fits { v with power := x } v :=
  ⟨id, fun ⟨he, ha, hr, hp, hk, hrow, hl, hb⟩ => ⟨he, ha, hr, hp, hk, hrow, hl, hb⟩, id, id, id, id, id, id, id⟩

theorem keeps_power (x : Power) (v : Vks) (h : v.power.asleep = false → x.asleep = false) : Keeps { v with power := x } v :=
  ⟨fits_power x v, h⟩

theorem keeps_params (x : Params) (v : Vks) (hlamps : x.lamps.length = v.params.lamps.length)
    (hbuffer : BufferFits v → BufferFits { v with params := x }) : Keeps { v with params := x } v :=
  ⟨⟨id, fun ⟨he, ha, hr, hp, hk, hrow, hl, hb⟩ => ⟨he, ha, hr, hp, hk, hrow, hlamps.trans hl, hb⟩,
    id, id, id, id, hbuffer, id, id⟩, id⟩

/-! ### The moves -/

/-- R178: a notice finds a place or is discarded. -/
theorem raiseNotice_keeps (n : Notice) (v : Vks) : Keeps (raiseNotice n v) v := by
  unfold raiseNotice
  split
  · next hroom => exact keeps_notices _ v (fun _ => by simpa [NoticesFit] using hroom) id
  · exact keeps_port _ v id

theorem setQueue_keeps (q : List Utterance) (v : Vks) (h : q.length ≤ 16 ∨ q.length ≤ v.sched.queue.length) :
    Keeps (setQueue q v) v :=
  ⟨⟨id, fun ⟨he, ha, hr, hp, hk, hrow, hl, hb⟩ => ⟨he, ha, hr, hp, hk, hrow, hl, hb⟩, id, id, id,
    fun hq => h.elim id (fun hle => hle.trans hq), id, id, id⟩, id⟩

theorem keeps_waiting (u : Option Utterance) (n : Nat) (v : Vks) :
    Keeps { v with sched := { v.sched with echoLine := u, nextId := n } } v :=
  ⟨⟨id, fun ⟨he, ha, hr, hp, hk, hrow, hl, hb⟩ => ⟨he, ha, hr, hp, hk, hrow, hl, hb⟩, id, id, id, id, id, id, id⟩, id⟩

theorem Move.keeps {a b : Vks} (h : Move 2 1 a b) : Keeps a b := by
  cases h with
  | notice n => exact raiseNotice_keeps n b
  | voices m e => exact keeps_reader _ b
  | forsake i => exact keeps_reader _ b
  | engine g => exact keeps_reader _ b
  | queue q _ h => exact setQueue_keeps q b h
  | waiting u id => exact keeps_waiting u id b
  | ask => exact keeps_power _ b id
  | on => exact keeps_power _ b id
  | play => exact keeps_mixer _ b id id
  | playout p l => exact keeps_mixer _ b id id
  | amp a w n => exact keeps_power _ b id
  | sleepTimer z => exact keeps_power _ b id
  | attn a gap => exact keeps_notices _ b id id
  | lamps correct wrong => exact keeps_notices _ b id id
  | blink x y z => exact keeps_notices _ b id (fun _ => rfl)
  | attempt a => exact keeps_attempt a b
  | lesson l _ _ hrecords hlists => exact keeps_lesson l b hrecords hlists

theorem Moves.keeps {a b : Vks} (h : Moves 2 1 a b) : Keeps a b := Moves.induct Keeps.refl Keeps.trans Move.keeps h

theorem settle_keeps (v : Vks) : Keeps (settle v) v := Moves.keeps (settle_moves v)

theorem foldl_keeps {α : Type} (f : Vks → α → Vks) (hf : ∀ v x, Keeps (f v x) v) (xs : List α) (v : Vks) :
    Keeps (xs.foldl f v) v := by
  induction xs generalizing v with
  | nil => exact Keeps.refl v
  | cons x xs ih => exact (ih _).trans (hf v x)

/-! ### Sleep and wake -/

theorem openEnvelope_keeps (v : Vks) : Keeps (openEnvelope v) v := keeps_mixer _ v id id

theorem newClipWindow_keeps (v : Vks) : Keeps (newClipWindow v) v := keeps_mixer _ v id id

theorem enterSleep_fits (v : Vks) : Fits (enterSleep v) v := by
  unfold enterSleep
  extract_lets v1
  have h1 : Keeps v1 v :=
    (newClipWindow_keeps _).trans ((openEnvelope_keeps _).trans (Moves.keeps (ampGoesOff_moves v le_rfl)))
  have hsilent := keeps_mixer { v1.mixer with output := 0, i2s := I2s.stopped } v1 id
    fun _ => ⟨show (-32768 : Int) ≤ 0 by decide, show (0 : Int) ≤ 32767 by decide, rfl⟩
  have hdark := keeps_notices { v1.notices with correct := none, wrong := none, blink := [none, none, none] }
    { v1 with mixer := { v1.mixer with output := 0, i2s := I2s.stopped } } id fun _ => rfl
  exact (fits_power _ _).trans (hdark.trans (hsilent.trans h1)).toFits

theorem wake_keeps (cause : Nat) (v : Vks) : Keeps (wake cause v) v := by
  have hframe := keeps_mixer { v.mixer with i2s := I2s.frame 0 } { v with power := { v.power with asleep := false } } id
    fun ⟨hlow, hhigh, _⟩ => ⟨hlow, hhigh, rfl⟩
  have hactive := hframe.trans (keeps_power { v.power with asleep := false } v fun _ => rfl)
  exact (Moves.keeps ((testPlayout_moves _).trans (restartSleepTimer_moves _))).trans ((newClipWindow_keeps _).trans
    ((raiseNotice_keeps _ _).trans hactive))

theorem wakeByLink_keeps (v : Vks) : Keeps (wakeByLink v) v := by
  unfold wakeByLink
  split
  · exact (settle_keeps _).trans (wake_keeps 2 v)
  · exact Keeps.refl v

/-! ### Replies -/

theorem setReply_keeps (code tag : Byte) (a : Answer) (v : Vks) (h : a.data.length ≤ 4) :
    Keeps (setReply code tag a v) v := keeps_port _ v fun _ => padTo_length 4 a.data h

theorem setReplyNone_keeps (v : Vks) : Keeps (setReplyNone v) v := keeps_port _ v fun _ => rfl

theorem discardSlot_keeps (cause : Nat) (v : Vks) : Keeps (discardSlot cause v) v := keeps_port _ v fun _ => rfl

/-- An owner's handling keeps the invariants, and its answer has at most the reply's four data bytes (R169). -/
def Handles (v : Vks) (r : Vks × Answer) : Prop := Keeps r.1 v ∧ r.2.data.length ≤ 4

theorem handles_read (v : Vks) (a : Answer) (h : a.data.length ≤ 4) : Handles v (v, a) := ⟨Keeps.refl v, h⟩

theorem handles_badArgs (v : Vks) (cause : Nat) : Handles v (v, answerBadArgs cause) := ⟨Keeps.refl v, by simp [answerBadArgs]⟩

theorem handles_checked (checks : List (Bool × Nat)) (v : Vks) (f : Vks × Answer)
    (h : firstCause checks = none → Handles v f) : Handles v (checked checks v f) := by
  unfold checked
  split
  · exact handles_badArgs v _
  · next hpass => exact h hpass

theorem handles_withoutArgument (f : Vks → Vks × Answer) (arg : List Byte) (v : Vks) (h : Handles v (f v)) :
    Handles v (withoutArgument f arg v) := by
  unfold withoutArgument
  split
  · exact handles_badArgs v 1
  · exact h

theorem takeControl_keeps (code tag : Byte) (arg : List Byte) (hd : Handler) (v : Vks)
    (h : ∀ v, Handles v (hd arg v)) : Keeps (takeControl code tag arg hd v) v := by
  unfold takeControl
  refine Keeps.trans ?_ (wakeByLink_keeps v)
  unfold serve
  split
  · exact discardSlot_keeps 4 _
  · obtain ⟨hkeeps, hdata⟩ := h (wakeByLink v)
    exact (setReply_keeps code tag _ _ hdata).trans hkeeps

/-- A request whose checks all passed: none of them holds (R171). -/
theorem firstCause_eq_none_iff (checks : List (Bool × Nat)) : firstCause checks = none ↔ ∀ c ∈ checks, c.1 = false := by
  induction checks with
  | nil => simp [firstCause]
  | cons c t ih =>
    obtain ⟨violated, cause⟩ := c
    cases violated <;> simp [firstCause, ih]

/-! ### Words (R9 to R15) -/

theorem itemsUsed_set (es : List (Option WordEntry)) (w : Nat) (e : Option WordEntry) (hw : w < es.length) :
    itemsUsed (es.set w e) + entryItems (es.getD w none) = itemsUsed es + entryItems e := by
  induction es generalizing w with
  | nil => simp at hw
  | cons x xs ih =>
    cases w with
    | zero => simp [itemsUsed]; omega
    | succ w =>
      have h := ih w (by simpa using hw)
      simp only [itemsUsed, List.set_cons_succ, List.map_cons, List.sum_cons, List.getD_cons_succ] at h ⊢
      omega

/-- R4: an entry replaced within what the pool holds moves the free count by the difference. -/
theorem setEntry_keeps (w : Nat) (e : Option WordEntry) (v : Vks) (hw : w < 512)
    (hroom : entryItems e ≤ v.words.freeItems + entryItems (v.entry w))
    (hoverrides : ∀ x, e = some x → ∀ o, x.overrides = some o → o.length = x.letters.length) :
    Keeps (setEntry w e v) v := by
  refine keeps_words _ v ?_ (by simp [writeAt]) rfl
  rintro ⟨hlen, hold, hsum⟩
  refine ⟨by simpa [writeAt] using hlen, ?_, ?_⟩
  · intro y hy
    rcases List.mem_or_eq_of_mem_set hy with hmem | rfl
    · exact hold y hmem
    · exact hoverrides
  · have hset := itemsUsed_set v.words.entries w e (by rw [hlen]; exact hw)
    simp only [Vks.entry, readAt, writeAt] at hroom ⊢
    omega

theorem clearProgress_keeps (w : Nat) (v : Vks) : Keeps (clearProgress w v) v :=
  keeps_lesson _ v (by simp [writeAt])
    fun ⟨he, hr, hd⟩ => ⟨he, (List.length_filter_le _ _).trans hr, hd.filter _⟩

theorem handles_withPool (w : Nat) (e : WordEntry) (v : Vks) (f : Vks × Answer)
    (h : e.items ≤ v.words.freeItems + entryItems (v.entry w) → Handles v f) : Handles v (withPool w e v f) := by
  unfold withPool
  simp only
  split
  · next hroom => exact h hroom
  · exact handles_read v _ (by simp [answerRefused])

theorem handles_inUse (w : Nat) (v : Vks) (f : Vks × Answer) (h : Handles v f) :
    Handles v (if wordHolder w v ≠ 0 then (v, answerRefused .inUse (leBytes 1 (wordHolder w v))) else f) := by
  split
  · exact handles_read v _ (by simp [answerRefused])
  · exact h

theorem handleWordPut_handles (arg : List Byte) (v : Vks) : Handles v (handleWordPut arg v) := by
  refine handles_checked _ v _ fun hpass => handles_inUse _ v _ (handles_withPool _ _ v _ fun hroom => ⟨?_, by simp [answerOk]⟩)
  have hw : fieldAt arg 0 2 < 512 := by
    simpa [wordPutChecks] using (firstCause_eq_none_iff _).mp hpass (decide (Config.words ≤ fieldAt arg 0 2), 2)
      (by simp [wordPutChecks])
  have hput : Keeps (setEntry (fieldAt arg 0 2) (some (wordEntryOf arg)) v) v :=
    setEntry_keeps _ _ v hw hroom (by rintro x ⟨⟩ o ho; cases ho)
  simp only
  split
  · exact (clearProgress_keeps _ _).trans hput
  · exact hput

theorem handleWordSounds_handles (arg : List Byte) (v : Vks) : Handles v (handleWordSounds arg v) := by
  refine handles_checked _ v _ fun hpass => ?_
  have hchecks := (firstCause_eq_none_iff _).mp hpass
  have hw : fieldAt arg 0 2 < 512 := by
    simpa using hchecks (decide (Config.words ≤ fieldAt arg 0 2), 2) (by simp [wordSoundsChecks])
  split
  · exact handles_badArgs v 8
  · next old hold =>
    refine handles_inUse _ v _ (handles_withPool _ _ v _ fun hroom => ⟨setEntry_keeps _ _ v hw hroom ?_, by simp [answerOk]⟩)
    have hcount : byteAt arg 2 = old.letters.length := by
      simpa using hchecks (decide (byteAt arg 2 ≠ old.letters.length), 9) (by simp [wordSoundsChecks, hold])
    rintro x ⟨⟩ o ⟨⟩
    simp [fieldsAt, hcount]

theorem handleWordDrop_handles (arg : List Byte) (v : Vks) : Handles v (handleWordDrop arg v) := by
  refine handles_checked _ v _ fun hpass => handles_inUse _ v _ ⟨(clearProgress_keeps _ _).trans ?_, by simp [answerOk]⟩
  have hw : fieldAt arg 0 2 < 512 := by
    simpa using (firstCause_eq_none_iff _).mp hpass (decide (Config.words ≤ fieldAt arg 0 2), 2) (by simp)
  exact setEntry_keeps _ none v hw (Nat.zero_le _) (by rintro x ⟨⟩)

theorem writeLetter_keeps (v : Vks) (x : AlphabetItem) : Keeps (writeLetter v x) v :=
  keeps_words _ v id rfl (by simp [writeAt])

/-! ### Keys (R74 to R90) -/

theorem addReport_keeps (r : KeyReport) (v : Vks) : Keeps (addReport r v) v := by
  unfold addReport
  split
  · next hroom => exact keeps_keys _ v id rfl fun ⟨hheld, _⟩ => ⟨hheld, by simpa using hroom⟩
  · exact keeps_port _ v id

theorem setHeld_keeps (l : List HeldKey) (v : Vks) (h : l.length ≤ v.keys.held.length ∨ l.length ≤ 4) :
    Keeps (setHeld l v) v :=
  keeps_keys _ v id rfl fun ⟨hheld, hreports⟩ => ⟨h.elim (fun hle => hle.trans hheld) id, hreports⟩

theorem setGhostBlock_keeps (b : Bool) (v : Vks) : Keeps (setGhostBlock b v) v := keeps_keys _ v id rfl id

theorem setStanding_keeps (p : Nat) (st : Option Standing) (v : Vks) : Keeps (setStanding p st v) v :=
  keeps_keys _ v (fun h => by simpa [writeAt] using h) rfl id

theorem setKeymapAt_keeps (p : Nat) (e : KeymapEntry) (v : Vks) : Keeps (setKeymapAt p e v) v :=
  keeps_keys _ v id (by simp [writeAt]) id

theorem takeRelease_keeps (v : Vks) (p : Nat) : Keeps (takeRelease v p) v := by
  have h : Keeps (restartSleepTimer (setStanding p none v)) v :=
    (Moves.keeps (restartSleepTimer_moves _)).trans (setStanding_keeps p none v)
  unfold takeRelease
  extract_lets v1 v2
  have h2 : Keeps v2 v := (setHeld_keeps _ v1 (.inl (List.length_filter_le _ _))).trans h
  repeat' split
  · exact (addReport_keeps _ _).trans h2
  · exact h2
  · exact h
  · exact h
  · exact (setGhostBlock_keeps _ _).trans h
  · exact h

theorem markHeld_keeps (p : Nat) (d : Disposition) (v : Vks) : Keeps (markHeld p d v) v :=
  setHeld_keeps _ v (.inl (by simp))

theorem routePress_keeps (p : Nat) (e : KeymapEntry) (v : Vks) : Keeps (routePress p e v) v := by
  unfold routePress
  split
  · exact Keeps.refl v
  · extract_lets r v1
    have hr : Keeps r.1 v := by
      unfold r
      split
      · exact Moves.keeps (handlePress_moves _ _ v)
      · exact Keeps.refl v
    exact (addReport_keeps _ _).trans ((markHeld_keeps _ _ _).trans hr)

theorem takePress_keeps (v : Vks) (p : Nat) : Keeps (takePress v p) v := by
  have h := Moves.keeps (restartSleepTimer_moves v)
  have hstanding (st : Option Standing) := (setStanding_keeps p st (restartSleepTimer v)).trans h
  unfold takePress
  extract_lets v0 v1 e v1'
  repeat' split
  · exact hstanding _
  · exact (addReport_keeps _ _).trans ((setGhostBlock_keeps _ _).trans (hstanding _))
  · exact hstanding _
  · exact hstanding _
  · next hfree =>
    have hroom : v1'.keys.held.length < 4 := not_le.mp hfree
    exact (routePress_keeps p e _).trans ((setHeld_keeps _ v1' (.inr (by simpa using hroom))).trans (hstanding _))

theorem takeWhole_keeps (take : Vks → Nat → Vks) (h : ∀ v p, Keeps (take v p) v) (v : Vks) (p : Nat) :
    Keeps (takeWhole take v p) v := (settle_keeps _).trans (h v p)

theorem passTime_keeps (ms : Nat) (v : Vks) : Keeps (passTime ms v) v :=
  ⟨⟨id, fun ⟨he, ha, hr, hp, hk, hrow, hl, hb⟩ => ⟨he, ha, hr, hp, hk, hrow, hl, by simpa [passTime] using hb⟩,
    id, id, id, id, id, id, id⟩, id⟩

theorem debounceAll_keeps (raw : Matrix) (v : Vks) : Keeps (debounceAll raw v) v :=
  keeps_keys { v.keys with
    positions := (List.range Config.keyPositions).map
      (fun p => (debounceKey v.params.debounce (raw.getLsbD p) (v.keyAt p)).1) } v (fun _ => by simp) rfl id

theorem keyScan_keeps (raw : Matrix) (v : Vks) : Keeps (keyScan raw v) v := by
  unfold keyScan
  split
  · exact Keeps.refl v
  · have hcounts := (debounceAll_keeps raw _).trans (passTime_keeps 1 v)
    exact (settle_keeps _).trans ((foldl_keeps _ (takeWhole_keeps _ takePress_keeps) _ _).trans
      ((foldl_keeps _ (takeWhole_keeps _ takeRelease_keeps) _ _).trans hcounts))

theorem sleepScan_keeps (raw : Matrix) (v : Vks) : Keeps (sleepScan raw v) v := by
  unfold sleepScan
  simp only
  repeat' split
  · exact (settle_keeps _).trans ((wake_keeps 1 _).trans (passTime_keeps 25 v))
  · exact passTime_keeps 25 v
  · exact Keeps.refl v

theorem handleKeymapPut_handles (arg : List Byte) (v : Vks) : Handles v (handleKeymapPut arg v) :=
  handles_checked _ v _ fun _ => ⟨foldl_keeps _ (fun v _ => setKeymapAt_keeps _ _ v) _ v, by simp [answerOk]⟩

theorem handleAlphabetPut_handles (arg : List Byte) (v : Vks) : Handles v (handleAlphabetPut arg v) :=
  handles_checked _ v _ fun _ => ⟨foldl_keeps _ writeLetter_keeps _ v, by simp [answerOk]⟩

/-! ### Requests that only read -/

theorem handles_tableGet (checks : List (Bool × Nat)) (v : Vks) (selector start entries : Nat) (bulk : List Byte) :
    Handles v (checked checks v (v, tableGetAnswer selector start entries bulk)) :=
  handles_checked _ v _ fun _ => handles_read v _ (by simp [tableGetAnswer, answerOk])

theorem handleWordGet_handles (arg : List Byte) (v : Vks) : Handles v (handleWordGet arg v) :=
  handles_checked _ v _ fun _ => handles_read v _ (by simp [answerOk])

theorem handleResponsePut_handles (arg : List Byte) (v : Vks) : Handles v (handleResponsePut arg v) :=
  handles_checked _ v _ fun _ => ⟨keeps_rows _ v (by simp [writeAt]), by simp [answerOk]⟩

/-! ### Attempt requests (R24, R46 to R50) -/

theorem handles_busyAttempt (v : Vks) : Handles v (busyAttempt v) := handles_read v _ (by simp [answerRefused])

theorem handles_noAttempt (v : Vks) : Handles v (noAttempt v) := handles_read v _ (by simp [answerRefused])

theorem handleAttemptOpen_handles (arg : List Byte) (v : Vks) : Handles v (handleAttemptOpen arg v) := by
  refine handles_checked _ v _ fun _ => ?_
  split
  · exact handles_busyAttempt v
  · exact ⟨Moves.keeps ((settle_moves _).trans (openAttempt_moves _ _ _ v)), by simp [answerOk]⟩

theorem releaseUtterances_moves (v : Vks) : Moves 2 1 (releaseUtterances v) v := setContext_moves _ v

theorem cancelOpen_moves (v : Vks) : Moves 2 1 (cancelOpen v) v :=
  (raiseNotice_moves _ _).trans ((setContext_moves _ _).trans ((releaseUtterances_moves _).trans
    ((setEchoLine_moves _ _).trans (cutNamed_moves _ v))))

theorem cancelClosing_moves (v : Vks) : Moves 2 1 (cancelClosing v) v := by
  refine (releaseUtterances_moves _).trans ?_
  split
  · exact cutNamed_moves _ v
  · exact Moves.refl v

theorem handleAttemptCancel_handles (arg : List Byte) (v : Vks) : Handles v (handleAttemptCancel arg v) := by
  refine handles_withoutArgument _ arg v ?_
  split
  · exact handles_noAttempt v
  · refine ⟨Moves.keeps ((settle_moves _).trans ((startHeads_moves _).trans ((setAttemptState_moves _ _).trans ?_))),
      by simp [answerOk]⟩
    repeat' split
    · exact (cancelOpen_moves _).trans (setAuto_moves _ v)
    · exact (stopGap_moves _).trans (setAuto_moves _ v)
    · exact (cancelClosing_moves _).trans (setAuto_moves _ v)

theorem discardShelf_moves (v : Vks) : Moves 2 1 (discardShelf v) v := by
  unfold discardShelf
  split
  · exact raiseNotice_moves _ v
  · exact Moves.refl v

theorem handleAttemptShelve_handles (arg : List Byte) (v : Vks) : Handles v (handleAttemptShelve arg v) := by
  refine handles_withoutArgument _ arg v ?_
  split
  · exact handles_busyAttempt v
  · exact handles_noAttempt v
  · exact handles_noAttempt v
  · refine ⟨Moves.keeps ((settle_moves _).trans ((startHeads_moves _).trans ((setAuto_moves _ _).trans
      ((setAttemptState_moves _ _).trans ((Move.attempt _ _ le_rfl).moves.trans ((setContext_moves _ _).trans
        ((cutNamed_moves _ _).trans (discardShelf_moves v)))))))), by simp [answerOk]⟩

theorem handleAttemptUnshelve_handles (arg : List Byte) (v : Vks) : Handles v (handleAttemptUnshelve arg v) := by
  refine handles_withoutArgument _ arg v ?_
  repeat' split
  · exact handles_busyAttempt v
  · exact handles_noAttempt v
  · exact ⟨Moves.keeps ((settle_moves _).trans ((beginPrompting_moves _).trans ((stopGap_moves _).trans
      (Move.attempt _ v le_rfl).moves))), by simp [answerOk]⟩

/-! ### Lessons, progress and the review list (R54 to R72) -/

theorem appendLesson_keeps (es : List LessonEntry) (v : Vks) : Keeps (appendLesson es v) v :=
  keeps_lesson _ v rfl fun ⟨he, hr, hd⟩ => ⟨by
    simp only [List.length_append, List.length_take]
    exact (Nat.add_le_add_left (Nat.min_le_left _ _) _).trans (by omega), hr, hd⟩

theorem setEntries_nil_keeps (v : Vks) : Keeps { v with lesson := { v.lesson with entries := [] } } v :=
  keeps_lesson _ v rfl fun ⟨_, hr, hd⟩ => ⟨Nat.zero_le _, hr, hd⟩

theorem setReview_nil_keeps (v : Vks) : Keeps { v with lesson := { v.lesson with review := [] } } v :=
  keeps_lesson _ v rfl fun ⟨he, _, _⟩ => ⟨he, Nat.zero_le _, List.nodup_nil⟩

theorem setRecord_keeps (w : Nat) (r : ProgressRecord) (v : Vks) :
    Keeps { v with lesson := { v.lesson with records := writeAt v.lesson.records w r } } v :=
  keeps_lesson _ v (by simp [writeAt]) id

theorem clearAllProgress_keeps (v : Vks) : Keeps (clearAllProgress v) v :=
  ⟨⟨id, fun ⟨he, ha, _, hp, hk, hrow, hl, hb⟩ => ⟨he, ha, by simp [clearAllProgress], hp, hk, hrow, hl, hb⟩, id, id,
    fun ⟨he, _, _⟩ => ⟨he, Nat.zero_le _, List.nodup_nil⟩, id, id, id, id⟩, id⟩

theorem handleLessonStart_handles (arg : List Byte) (v : Vks) : Handles v (handleLessonStart arg v) := by
  refine handles_withoutArgument _ arg v ⟨?_, by simp [answerOk]⟩
  have h := Moves.keeps (setAuto_moves true v)
  simp only
  split
  · exact (Moves.keeps ((settle_moves _).trans (lessonWalk_moves _))).trans h
  · exact h

theorem handleLessonStop_handles (arg : List Byte) (v : Vks) : Handles v (handleLessonStop arg v) := by
  refine handles_withoutArgument _ arg v ⟨?_, by simp [answerOk]⟩
  have h := Moves.keeps (setAuto_moves false v)
  simp only
  split
  · exact (Moves.keeps ((settle_moves _).trans ((setAttemptState_moves _ _).trans (stopGap_moves _)))).trans h
  · exact h

theorem handleProgressClear_handles (arg : List Byte) (v : Vks) : Handles v (handleProgressClear arg v) := by
  refine handles_checked _ v _ fun _ => ⟨?_, by simp [answerOk]⟩
  simp only
  split
  · exact clearProgress_keeps _ v
  · exact clearAllProgress_keeps v

/-! ### Speech (R106, R112) -/

theorem placeSay_keeps (u : Utterance) (v : Vks) (hroom : v.sched.queue.length < 16) : Keeps (placeSay u v) v := by
  unfold placeSay
  split
  · exact Moves.keeps (startVoice_moves _ _ _)
  · exact setQueue_keeps _ v (.inl (by simpa using hroom))

theorem handleSay_handles (arg : List Byte) (v : Vks) : Handles v (handleSay arg v) := by
  refine handles_checked _ v _ fun _ => ?_
  simp only
  repeat' split
  · exact handles_read v _ (by simp [answerOk])
  · exact handles_read v _ (by simp [answerRefused])
  · next hroom =>
    have hmade := Moves.keeps (makeUtterance_moves .say (BitVec.ofNat 8 (byteAt arg 0))
      (expandAll v (sayExpansion v) ((partFields arg).map partOf)) v)
    exact ⟨(settle_keeps _).trans ((placeSay_keeps _ _ (by simpa [makeUtterance] using hroom)).trans hmade),
      by simp [answerOk]⟩

theorem silenceAll_moves (v : Vks) : Moves 2 1 (silenceAll v) v :=
  (reportEnds_moves _ _ _).trans ((stopVoices_moves _).trans ((setEchoLine_moves _ _).trans
    (setQueue_moves_of_le [] v (Nat.zero_le _))))

theorem silenceSome_moves (chosen : Utterance → Bool) (v : Vks) : Moves 2 1 (silenceSome chosen v) v := by
  have h : Moves 2 1 (setQueue (v.sched.queue.filter (fun u => !chosen u)) v) v :=
    setQueue_moves_of_le _ v (List.length_filter_le _ _)
  refine (reportEnds_moves _ _ _).trans ?_
  split
  · exact h
  · exact (idleVoice_moves _ _).trans h

theorem handleSilence_handles (arg : List Byte) (v : Vks) : Handles v (handleSilence arg v) := by
  refine handles_checked _ v _ fun _ => ⟨Moves.keeps ((settle_moves _).trans ((startHeads_moves _).trans ?_)),
    by simp [answerOk]⟩
  split
  · exact silenceAll_moves v
  · exact silenceSome_moves _ v

/-! ### The store (R133 to R141) -/

theorem setStore_keeps (st : StoreState) (v : Vks) : Keeps (setStore st v) v := keeps_reader _ v

theorem grantClaim_keeps (late : Bool) (v : Vks) : Keeps (grantClaim late v) v := by
  have h := (Moves.keeps (reportEnds_moves .cut (stopVoices v).1 _)).trans ((setStore_keeps .claimed _).trans
    (Moves.keeps (stopVoices_moves v)))
  unfold grantClaim
  simp only
  split
  · exact (raiseNotice_keeps _ _).trans h
  · exact h

theorem claimStore_keeps (v : Vks) : Keeps (claimStore v).1 v := by
  unfold claimStore
  repeat' split
  · exact grantClaim_keeps false v
  · exact keeps_reader _ v
  · exact grantClaim_keeps false v
  · exact keeps_reader _ v
  · exact Keeps.refl v
  · exact Keeps.refl v

theorem handleStoreClaim_handles (arg : List Byte) (v : Vks) : Handles v (handleStoreClaim arg v) :=
  handles_withoutArgument _ arg v ⟨(settle_keeps _).trans (claimStore_keeps v), by simp [claimData, storeByte]⟩

theorem handleStoreRelease_handles (arg : List Byte) (v : Vks) : Handles v (handleStoreRelease arg v) := by
  refine handles_withoutArgument _ arg v ?_
  repeat' split
  · exact handles_read v _ (by simp [answerRefused, storeByte])
  · exact ⟨(settle_keeps _).trans (keeps_reader _ v), by simp [answerOk]⟩
  · exact handles_read v _ (by simp [answerRefused, storeByte])
  · exact handles_read v _ (by simp [answerRefused, storeByte])

theorem beginLinkOp_keeps (op : LinkOp) (v : Vks) : Keeps (beginLinkOp op v) v := by
  unfold beginLinkOp
  simp only
  split <;> exact keeps_reader _ v

theorem linkRequest_handles (op : LinkOp) (v : Vks) : Handles v (linkRequest op v) := by
  unfold linkRequest
  repeat' split
  · exact handles_read v _ (by simp [answerRefused])
  · exact handles_read v _ (by simp [answerRefused])
  · exact ⟨(settle_keeps _).trans (beginLinkOp_keeps op v), by simp⟩

theorem holdingAnswer_length (h : Option Holding) : (holdingAnswer h).data.length ≤ 4 := by
  cases h <;> simp [holdingAnswer, answerOk]

theorem handleStoreFetch_handles (arg : List Byte) (v : Vks) : Handles v (handleStoreFetch arg v) := by
  refine handles_withoutArgument _ arg v ?_
  split
  · exact handles_read v _ (by simp [answerRefused])
  · exact handles_read v _ (holdingAnswer_length _)

theorem handleFaultGet_handles (arg : List Byte) (v : Vks) : Handles v (handleFaultGet arg v) :=
  handles_withoutArgument _ arg v ⟨keeps_reader _ v, by simp [answerOk, storeByte]⟩

/-! ### The link's own requests (R160, R172 to R176, R189) -/

/-- R145: the pending size comes into force over an emptied buffer. -/
theorem bufferFits_restarted (v : Vks) (m : Mixer) (hempty : m.samples = []) (hsize : m.sizeInForce = v.params.playoutSize)
    (h : BufferFits v) : BufferFits { v with params := lowerMark v.params, mixer := m } := by
  obtain ⟨_, _, hpending⟩ := h
  refine ⟨by simp [hempty], ?_, hpending⟩
  rw [hsize]
  exact hpending

theorem restartBuffer_keeps (v : Vks) : Keeps (restartBuffer v) v where
  pool := id
  tables := fun ⟨he, ha, hr, hp, hk, hrow, hl, hb⟩ => ⟨he, ha, hr, hp, hk, hrow, hl, hb⟩
  notices := id
  keys := id
  lists := id
  queue := id
  buffer h := bufferFits_restarted v _ rfl rfl h
  output := id
  reply := id
  active := id

theorem resetPart_keeps (v : Vks) : Keeps (resetPart v) v where
  pool := id
  tables := fun ⟨he, ha, hr, _, hk, hrow, hl, _⟩ => ⟨he, ha, hr, by simp [resetPart, KeyUnit.afterReset], hk, hrow, hl, rfl⟩
  notices _ := Nat.zero_le _
  keys _ := ⟨Nat.zero_le _, Nat.zero_le _⟩
  lists := fun ⟨_, hr, hd⟩ => ⟨Nat.zero_le _, hr, hd⟩
  queue _ := Nat.zero_le _
  buffer h := bufferFits_restarted v _ rfl rfl h
  output _ := ⟨show (-32768 : Int) ≤ 0 by decide, show (0 : Int) ≤ 32767 by decide, rfl⟩
  reply := id
  active _ := rfl

theorem handleReset_handles (arg : List Byte) (v : Vks) : Handles v (handleReset arg v) :=
  handles_withoutArgument _ arg v ⟨(settle_keeps _).trans (resetPart_keeps v), by simp [answerOk]⟩

theorem restartStream_keeps (v : Vks) : Keeps (restartStream v) v :=
  (Moves.keeps ((settle_moves _).trans ((startHeads_moves _).trans (reportEnds_moves _ _ _)))).trans
    ((newClipWindow_keeps _).trans ((openEnvelope_keeps _).trans ((restartBuffer_keeps _).trans
      (Moves.keeps (stopVoices_moves v)))))

theorem handleStreamRestart_handles (arg : List Byte) (v : Vks) : Handles v (handleStreamRestart arg v) :=
  handles_withoutArgument _ arg v ⟨restartStream_keeps v, by simp [answerOk]⟩

theorem handleSleep_fits (arg : List Byte) (v : Vks) :
    Fits (handleSleep arg v).1 v ∧ (handleSleep arg v).2.data.length ≤ 4 := by
  unfold handleSleep withoutArgument
  split
  · exact ⟨Fits.refl v, by simp [answerBadArgs]⟩
  · simp only
    split
    · exact ⟨Fits.refl v, by simp [answerRefused]⟩
    · exact ⟨enterSleep_fits v, by simp [answerOk]⟩

theorem sleepSlot_fits (tag : Byte) (arg : List Byte) (v : Vks) : Fits (sleepSlot tag arg v) v := by
  have hwoken := (wakeByLink_keeps v).toFits
  obtain ⟨hfits, hdata⟩ := handleSleep_fits arg (wakeByLink v)
  unfold sleepSlot takeControl serve
  split
  · exact (discardSlot_keeps 4 _).toFits.trans hwoken
  · exact (setReply_keeps _ _ _ _ hdata).toFits.trans (hfits.trans hwoken)

/-- R145: a size that a SET uses is 512..2560 in steps of 256. -/
theorem sizeUsed_fits (x : Nat) : 512 ≤ sizeUsed x ∧ sizeUsed x ≤ 2560 ∧ sizeUsed x % 256 = 0 := by
  unfold sizeUsed clamp
  split_ifs <;> omega

theorem put_lamps_length (p : Params) (x id : Nat) : (p.put x id).lamps.length = p.lamps.length := by
  unfold Params.put
  split <;> simp [writeAt]

theorem put_playoutSize (p : Params) (x id : Nat) (h : id ≠ 8) : (p.put x id).playoutSize = p.playoutSize := by
  unfold Params.put
  split <;> first | rfl | exact absurd rfl h

theorem put_keeps (id x : Nat) (v : Vks) (h : id = 8 → 512 ≤ x ∧ x ≤ 2560 ∧ x % 256 = 0) :
    Keeps { v with params := v.params.put x id } v := by
  refine keeps_params _ v (put_lamps_length _ _ _) fun ⟨hfill, hsize, hpending⟩ => ⟨hfill, hsize, ?_⟩
  by_cases hid : id = 8
  · subst hid
    exact h rfl
  · simp only [put_playoutSize _ _ _ hid]
    exact hpending

theorem markChanged_moves (old : Nat) (v : Vks) : Moves 2 1 (markChanged old v) v := by
  unfold markChanged
  repeat' split
  · exact lowCompare_moves v le_rfl
  · exact Moves.refl v
  · exact testPlayout_moves v

theorem freshBlink_keeps (k : Nat) (v : Vks) : Keeps (freshBlink k v) v :=
  keeps_notices _ v id fun h => by simpa [writeAt] using h

theorem paramChanged_keeps (old : Vks) (id : Nat) (v : Vks) : Keeps (paramChanged old id v) v := by
  unfold paramChanged
  split
  · exact Moves.keeps (markChanged_moves _ v)
  · exact Moves.keeps (takeOverEcho_moves _ v)
  · exact Moves.keeps (stopInactivity_moves v)
  · exact freshBlink_keeps 0 v
  · exact freshBlink_keeps 1 v
  · exact freshBlink_keeps 2 v
  · exact Moves.keeps (restartSleepTimer_moves v)
  · exact Keeps.refl v

theorem handleSet_handles (arg : List Byte) (v : Vks) : Handles v (handleSet arg v) := by
  refine handles_checked _ v _ fun _ => ⟨?_, by simp [answerOk]⟩
  refine (settle_keeps _).trans ((paramChanged_keeps _ _ _).trans (put_keeps _ _ v fun hid => ?_))
  rw [hid]
  exact sizeUsed_fits _

theorem clearSeen_keeps (v : Vks) : Keeps (clearSeen v) v :=
  (keeps_mixer { v.mixer with clipSeen := false } { v with port := { v.port with resetSeen := false } } id id).trans
    (keeps_port _ v id)

/-! ### AUDIO and IDLE slots (R147, R165) -/

theorem appendAudio_keeps (last : Bool) (samples : List Sample) (v : Vks) : Keeps (appendAudio last samples v) v := by
  refine keeps_mixer _ v (fun ⟨hfill, hsizes⟩ => ⟨?_, hsizes⟩) id
  simp only [List.length_append, List.length_map, List.length_take, playoutRoom]
  omega

theorem reportOverrun_keeps (lost : Nat) (v : Vks) : Keeps (reportOverrun lost v) v := by
  unfold reportOverrun
  split
  · exact Keeps.refl v
  · exact (raiseNotice_keeps _ _).trans (keeps_port _ v id)

theorem testAfterAudio_moves (v : Vks) : Moves 2 1 (testAfterAudio v) v := by
  unfold testAfterAudio
  simp only
  split
  · exact (lowCompare_moves _ le_rfl).trans (testPlayout_moves v)
  · exact testPlayout_moves v

theorem takeAudio_keeps (last : Bool) (samples : List Sample) (v : Vks) : Keeps (takeAudio last samples v) v := by
  have h (n : Nat) := (reportOverrun_keeps n _).trans (appendAudio_keeps last samples v)
  unfold takeAudio
  simp only
  split
  · exact (Moves.keeps (testAfterAudio_moves _)).trans (h _)
  · exact h _

theorem audioSlot_keeps (last : Bool) (samples : List Sample) (v : Vks) : Keeps (audioSlot last samples v) v := by
  have h := wakeByLink_keeps v
  unfold audioSlot
  simp only
  split
  · exact (discardSlot_keeps 4 _).trans h
  · exact (settle_keeps _).trans ((takeAudio_keeps _ _ _).trans ((setReplyNone_keeps _).trans h))

theorem idleTaken_keeps (v : Vks) : Keeps (idleTaken v) v :=
  (settle_keeps _).trans ((setReplyNone_keeps _).trans (wakeByLink_keeps v))

/-! ### The output instant (R149 to R159) -/

/-- What the envelope leaves unchanged in the Mixer (R156). -/
structure SameStream (a b : Mixer) : Prop where
  samples : a.samples = b.samples
  sizeInForce : a.sizeInForce = b.sizeInForce
  output : a.output = b.output
  i2s : a.i2s = b.i2s

theorem fallStep_same (p : Params) (m : Mixer) : SameStream (fallStep p m) m := ⟨rfl, rfl, rfl, rfl⟩

theorem activeStep_same (p : Params) (m : Mixer) : SameStream (activeStep p m) m := by
  unfold activeStep
  repeat' split
  · exact fallStep_same p m
  · exact ⟨rfl, rfl, rfl, rfl⟩
  · exact fallStep_same p m

theorem riseStep_same (p : Params) (m : Mixer) : SameStream (riseStep p m) m := ⟨rfl, rfl, rfl, rfl⟩

theorem holdStep_same (p : Params) (m : Mixer) : SameStream (holdStep p m) m := by
  unfold holdStep
  split <;> exact ⟨rfl, rfl, rfl, rfl⟩

theorem inactiveStep_same (p : Params) (m : Mixer) : SameStream (inactiveStep p m) m := by
  unfold inactiveStep
  have hheld (n : Nat) (e : Envelope) : SameStream (holdStep p { m with holdCount := n, envelope := e }) m := by
    obtain ⟨hs, hz, ho, hi⟩ := holdStep_same p { m with holdCount := n, envelope := e }
    exact ⟨hs, hz, ho, hi⟩
  repeat' split
  · exact hheld _ _
  · exact hheld _ _
  · exact holdStep_same p m
  · exact riseStep_same p m
  · exact riseStep_same p m
  · exact ⟨rfl, rfl, rfl, rfl⟩

theorem envelopeStep_same (p : Params) (active : Bool) (m : Mixer) : SameStream (envelopeStep p active m) m := by
  unfold envelopeStep
  split
  · obtain ⟨hs, hz, ho, hi⟩ := activeStep_same p (rangeStep p m)
    exact ⟨hs, hz, ho, hi⟩
  · obtain ⟨hs, hz, ho, hi⟩ := inactiveStep_same p (rangeStep p m)
    exact ⟨hs, hz, ho, hi⟩

theorem stepEnvelope_keeps (active : Bool) (v : Vks) : Keeps (stepEnvelope active v) v := by
  obtain ⟨hs, hz, ho, hi⟩ := envelopeStep_same v.params active v.mixer
  refine keeps_mixer _ v (fun h => ?_) fun h => ?_
  · unfold BufferFits
    simp only [hs, hz]
    exact h
  · unfold OutputFits
    simp only [ho, hi]
    exact h

theorem closeWindow_keeps (v : Vks) : Keeps (closeWindow v) v := by
  unfold closeWindow
  split
  · exact keeps_mixer _ v id id
  · exact Keeps.refl v

theorem runEmpty_keeps (v : Vks) : Keeps (runEmpty v) v := by
  unfold runEmpty
  split
  · exact keeps_mixer _ v id id
  · exact (raiseNotice_keeps _ _).trans ((keeps_port { v.port with latches := { v.port.latches with underrun := true } }
      { v with mixer := { v.mixer with playing := false } } id).trans (keeps_mixer { v.mixer with playing := false } v id id))

theorem hostSample_keeps (v : Vks) : Keeps (hostSample v).2 v := by
  unfold hostSample
  split
  · split
    · next h rest hsamples =>
      refine (Moves.keeps (lowCompare_moves _ le_rfl)).trans (keeps_mixer _ v (fun ⟨hfill, hsizes⟩ => ⟨?_, hsizes⟩) id)
      simp only [hsamples, List.length_cons] at hfill ⊢
      omega
    · exact runEmpty_keeps v
  · exact Keeps.refl v

theorem draw_moves (i : VoiceId) (v : Vks) : Moves 2 1 (draw i v).2 v := by
  unfold draw
  simp only
  repeat' split
  · exact Moves.refl v
  · exact setVoice_moves _ _ v
  · exact setVoice_moves _ _ v
  · exact Moves.refl v
  · exact (raiseNotice_moves _ _).trans (setVoice_moves _ _ v)
  · exact Moves.refl v

theorem drawVoices_moves (v : Vks) : Moves 2 1 (drawVoices v).2 v := by
  unfold drawVoices
  split
  · exact (draw_moves .echo _).trans (draw_moves .main v)
  · exact Moves.refl v

theorem limitSample_fits (x : Int) : -32768 ≤ limitSample x ∧ limitSample x ≤ 32767 := by
  unfold limitSample
  split_ifs <;> omega

theorem emitSample_keeps (acc : Int) (v : Vks) : Keeps (emitSample acc v) v :=
  keeps_mixer _ v id fun _ => ⟨(limitSample_fits _).1, (limitSample_fits _).2, rfl⟩

theorem mixInstant_keeps (v : Vks) : Keeps (mixInstant v) v :=
  (emitSample_keeps _ _).trans ((Moves.keeps (drawVoices_moves _)).trans ((hostSample_keeps _).trans
    ((stepEnvelope_keeps _ _).trans (closeWindow_keeps v))))

theorem endDrained_moves {l : Nat} (v : Vks) : Moves l 1 (endDrained v) v := by
  unfold endDrained
  extract_lets main echo ended v1 v2
  have hif (b : Bool) (i : VoiceId) (w : Vks) : Moves l 1 (if b then idleVoice i w else w) w := by
    cases b
    · exact Moves.refl w
    · exact idleVoice_moves i w
  exact (startHeads_moves _).trans ((reportEnds_moves _ _ _).trans ((hif echo .echo v1).trans (hif main .main v)))

theorem countStandby_moves (active : Bool) (v : Vks) : Moves 2 1 (countStandby active v) v := by
  unfold countStandby
  have h (n : Nat) : Moves 2 1 { v with power := { v.power with standby := n } } v :=
    (Move.amp v.power.amp v.power.warmup n v le_rfl).moves
  simp only
  repeat' split
  · exact (ampGoesOff_moves _ le_rfl).trans (h _)
  · exact h _
  · exact (ampGoesOff_moves _ le_rfl).trans (h _)
  · exact h _
  · exact Moves.refl v

theorem outputInstant_keeps (v : Vks) : Keeps (outputInstant v) v := by
  unfold outputInstant
  split
  · exact Keeps.refl v
  · exact (Moves.keeps ((settle_moves _).trans ((countStandby_moves _ _).trans ((takeOverEcho_moves _ _).trans
      (endDrained_moves _))))).trans (mixInstant_keeps v)

theorem standbyExpiry_keeps (v : Vks) : Keeps (standbyExpiry v) v := by
  obtain ⟨-, h⟩ | ⟨-, h⟩ := standbyExpiry_cases v
  · rw [h]
    exact outputInstant_keeps v
  · rw [h]
    exact Keeps.refl v

theorem endHold_keeps (v : Vks) : Keeps (endHold v) v := by
  unfold endHold
  split
  · exact keeps_mixer _ v id id
  · exact Keeps.refl v

/-! ### The timers -/

theorem warmupExpiry_keeps (v : Vks) : Keeps (warmupExpiry v) v := by
  unfold warmupExpiry
  split
  · exact Moves.keeps ((settle_moves _).trans ((takeOverEcho_moves _ _).trans (ampBecomesOn_moves v le_rfl)))
  · exact Keeps.refl v

theorem inactivityExpiry_keeps (v : Vks) : Keeps (inactivityExpiry v) v := by
  unfold inactivityExpiry
  split
  · exact Moves.keeps ((settle_moves _).trans ((inactivityExpires_moves _).trans (stopInactivity_moves v)))
  · exact Keeps.refl v

theorem gapExpiry_keeps (v : Vks) : Keeps (gapExpiry v) v := by
  unfold gapExpiry
  split
  · exact Moves.keeps ((settle_moves _).trans (lessonWalk_moves v))
  · exact Keeps.refl v

theorem lampTimerExpiry_keeps (t : LampTimer) (v : Vks) : Keeps (lampTimerExpiry t v) v := by
  have hstop : Keeps (stopLampTimer t v) v := by cases t <;> exact keeps_notices _ v id id
  unfold lampTimerExpiry
  split
  · exact (settle_keeps _).trans hstop
  · exact Keeps.refl v

theorem blinkToggle_keeps (lamp : Fin 3) (v : Vks) : Keeps (blinkToggle lamp v) v := by
  unfold blinkToggle
  repeat' split
  · exact keeps_notices _ v id fun h => by simpa [writeAt] using h
  · exact Keeps.refl v
  · exact Keeps.refl v

theorem attnGapExpiry_keeps (v : Vks) : Keeps (attnGapExpiry v) v := by
  unfold attnGapExpiry
  split
  · exact (settle_keeps _).trans (keeps_notices _ v id id)
  · exact Keeps.refl v

theorem sleepTimerExpiry_fits (v : Vks) : Fits (sleepTimerExpiry v) v := by
  unfold sleepTimerExpiry
  split
  · exact enterSleep_fits v
  · exact Fits.refl v

/-! ### The flash rows -/

theorem grantIfPending_keeps (v : Vks) : Keeps (grantIfPending v) v := by
  unfold grantIfPending
  split
  · exact grantClaim_keeps true v
  · exact Keeps.refl v

theorem headerCheckEnd_keeps (present : Bool) (h1 h2 : List Byte) (v : Vks) : Keeps (headerCheckEnd present h1 h2 v) v := by
  have hrecord (o : HeaderOutcome) (n m : Nat) : Keeps (setInForce n m (recordHeader o v)) v :=
    (keeps_reader _ _).trans (keeps_reader _ v)
  unfold headerCheckEnd
  refine (settle_keeps _).trans ?_
  repeat' split
  · exact (grantClaim_keeps true _).trans (hrecord _ _ _)
  · exact (setStore_keeps _ _).trans (hrecord _ _ _)
  · exact (setStore_keeps _ _).trans (hrecord _ _ _)

theorem takeEntry_moves {l : Nat} (i : VoiceId) (segment : Nat) (d : DirEntry) (v : Vks) : Moves l 1 (takeEntry i segment d v) v := by
  unfold takeEntry
  refine (readAhead_moves _ _).trans ?_
  split
  · exact setVoice_moves _ _ v
  · exact replaceSegment_moves _ _ _ v

theorem directoryReadEnd_keeps (i : VoiceId) (segment : Nat) (live : Bool) (d : List Byte) (v : Vks) :
    Keeps (directoryReadEnd i segment live d v) v := by
  have hidle := Moves.keeps (setEngine_moves .idle v (by decide))
  unfold directoryReadEnd
  refine (settle_keeps _).trans ((grantIfPending_keeps _).trans ?_)
  split
  · exact (Moves.keeps (takeEntry_moves (l := 2) _ _ _ _)).trans hidle
  · exact hidle

theorem feedBlock_moves {l : Nat} (i : VoiceId) (take rate : Nat) (c : ReadResult × List Byte) (v : Vks) :
    Moves l 1 (feedBlock i take rate c v) v := by
  unfold feedBlock
  simp only
  split
  · exact (readAhead_moves _ _).trans (setVoice_moves _ _ v)
  · exact Moves.refl v

theorem noteFail_keeps (segment block address : Nat) (v : Vks) : Keeps (noteFail segment block address v) v := by
  unfold noteFail
  split
  · exact keeps_reader _ v
  · exact (raiseNotice_keeps _ _).trans (keeps_reader _ v)

theorem recordBlock_keeps (segment block address : Nat) (r : ReadResult) (v : Vks) :
    Keeps (recordBlock segment block address r v) v := by
  unfold recordBlock
  simp only
  split
  · exact (noteFail_keeps _ _ _ _).trans (keeps_reader _ v)
  · exact keeps_reader _ v

theorem blockReadEnd_keeps (i : VoiceId) (segment block address take rate : Nat) (live : Bool) (b1 b2 : List Byte) (v : Vks) :
    Keeps (blockReadEnd i segment block address take rate live b1 b2 v) v := by
  have hrecord := (recordBlock_keeps segment block address (blockCheck b1 b2).1 _).trans
    (Moves.keeps (setEngine_moves .idle v (by decide)))
  unfold blockReadEnd
  refine (settle_keeps _).trans ((grantIfPending_keeps _).trans ?_)
  split
  · exact (Moves.keeps (feedBlock_moves (l := 2) _ _ _ _ _)).trans hrecord
  · exact hrecord

theorem linkDone_keeps (op : LinkOp) (ok : Bool) (passes : Nat) (v : Vks) : Keeps (linkDone op ok passes v) v :=
  (settle_keeps _).trans ((raiseNotice_keeps _ _).trans (Moves.keeps (setEngine_moves .idle v (by decide))))

theorem verifiedTwice_wf (act : Flash → Flash) (hact : ∀ f : Flash, f.wf = true → (act f).wf = true) (a n : Nat)
    (want : List Byte) (present : Bool) (bad1 bad2 : Misread) (f : Flash) (h : f.wf = true) :
    (verifiedTwice act a n want present bad1 bad2 f).1.wf = true := by
  unfold verifiedTwice
  simp only
  repeat' split
  · exact h
  · exact hact f h
  · exact hact _ (hact f h)

/-! ### Transactions -/

theorem transactionBegin_keeps (v : Vks) : Keeps (transactionBegin v) v := by
  have hopen (w : Vks) : Keeps (openTransaction w) w := keeps_port _ w id
  unfold transactionBegin
  split
  · exact Keeps.refl v
  · refine (Moves.keeps ((settle_moves _).trans (dropAttn_moves _ (by decide)))).trans ((hopen _).trans ?_)
    split
    · exact wake_keeps 2 v
    · exact Keeps.refl v

theorem deliver_keeps (t : Transaction) (v : Vks) : Keeps (deliver t v) v where
  pool := id
  tables := fun ⟨he, ha, hr, hp, hk, hrow, hl, hb⟩ => ⟨he, ha, hr, hp, hk, hrow, hl, hb⟩
  notices h := (by simp [NoticesFit, deliver] at h ⊢; omega)
  keys := fun ⟨hheld, hreports⟩ => ⟨hheld, (List.drop_sublist _ _).length_le.trans hreports⟩
  lists := id
  queue := id
  buffer := id
  output := id
  reply := id
  active := id

/-- R165: the effect of a taken slot, whatever command but SLEEP it carries. -/
theorem slotEffect_keeps (i : Instr) (v : Vks) (hsleep : ∀ tag arg, i ≠ .sleep tag arg) : Keeps (slotEffect i v) v := by
  cases i with
  | idleSlot => exact idleTaken_keeps v
  | audioSlot last samples => exact audioSlot_keeps last samples v
  | badCommand => exact takeControl_keeps _ _ _ _ v fun v => handles_read v _ (by simp [answerRefused])
  | identify => exact takeControl_keeps _ _ _ _ v fun v => handles_withoutArgument _ _ v (handles_read v _ (by simp [answerOk]))
  | reset => exact takeControl_keeps _ _ _ _ v (handleReset_handles _)
  | streamRestart => exact takeControl_keeps _ _ _ _ v (handleStreamRestart_handles _)
  | sleep tag arg => exact absurd rfl (hsleep tag arg)
  | set => exact takeControl_keeps _ _ _ _ v (handleSet_handles _)
  | get =>
    exact takeControl_keeps _ _ _ _ v fun v => handles_checked _ v _ fun _ =>
      handles_read v _ (LinkReads.paramData_length v _).le
  | clearFlags =>
    exact takeControl_keeps _ _ _ _ v fun v => handles_withoutArgument _ _ v ⟨clearSeen_keeps v, by simp [answerOk]⟩
  | wordPut => exact takeControl_keeps _ _ _ _ v (handleWordPut_handles _)
  | wordSounds => exact takeControl_keeps _ _ _ _ v (handleWordSounds_handles _)
  | wordDrop => exact takeControl_keeps _ _ _ _ v (handleWordDrop_handles _)
  | wordGet => exact takeControl_keeps _ _ _ _ v (handleWordGet_handles _)
  | alphabetPut => exact takeControl_keeps _ _ _ _ v (handleAlphabetPut_handles _)
  | tableGetAlphabet => exact takeControl_keeps _ _ _ _ v fun v => handles_tableGet _ v _ _ _ _
  | tableGetKeymap => exact takeControl_keeps _ _ _ _ v fun v => handles_tableGet _ v _ _ _ _
  | tableGetResponses => exact takeControl_keeps _ _ _ _ v fun v => handles_tableGet _ v _ _ _ _
  | keymapPut => exact takeControl_keeps _ _ _ _ v (handleKeymapPut_handles _)
  | responsePut => exact takeControl_keeps _ _ _ _ v (handleResponsePut_handles _)
  | attemptOpen => exact takeControl_keeps _ _ _ _ v (handleAttemptOpen_handles _)
  | attemptCancel => exact takeControl_keeps _ _ _ _ v (handleAttemptCancel_handles _)
  | attemptShelve => exact takeControl_keeps _ _ _ _ v (handleAttemptShelve_handles _)
  | attemptUnshelve => exact takeControl_keeps _ _ _ _ v (handleAttemptUnshelve_handles _)
  | attemptGet => exact takeControl_keeps _ _ _ _ v fun v => handles_withoutArgument _ _ v (handles_read v _ (by simp [answerOk]))
  | lessonAdd =>
    exact takeControl_keeps _ _ _ _ v fun v => handles_checked _ v _ fun _ => ⟨appendLesson_keeps _ v, by simp [answerOk]⟩
  | lessonClear =>
    exact takeControl_keeps _ _ _ _ v fun v => handles_withoutArgument _ _ v ⟨setEntries_nil_keeps v, by simp [answerOk]⟩
  | lessonFromReview =>
    exact takeControl_keeps _ _ _ _ v fun v => handles_withoutArgument _ _ v ⟨appendLesson_keeps _ v, by simp [answerOk]⟩
  | lessonStart => exact takeControl_keeps _ _ _ _ v (handleLessonStart_handles _)
  | lessonStop => exact takeControl_keeps _ _ _ _ v (handleLessonStop_handles _)
  | lessonGet => exact takeControl_keeps _ _ _ _ v fun v => handles_checked _ v _ fun _ => handles_read v _ (by simp [answerOk])
  | progressGet => exact takeControl_keeps _ _ _ _ v fun v => handles_checked _ v _ fun _ => handles_read v _ (by simp [answerOk])
  | progressPut =>
    exact takeControl_keeps _ _ _ _ v fun v => handles_checked _ v _ fun _ => ⟨setRecord_keeps _ _ v, by simp [answerOk]⟩
  | progressClear => exact takeControl_keeps _ _ _ _ v (handleProgressClear_handles _)
  | reviewGet => exact takeControl_keeps _ _ _ _ v fun v => handles_checked _ v _ fun _ => handles_read v _ (by simp [answerOk])
  | reviewClear =>
    exact takeControl_keeps _ _ _ _ v fun v => handles_withoutArgument _ _ v ⟨setReview_nil_keeps v, by simp [answerOk]⟩
  | say => exact takeControl_keeps _ _ _ _ v (handleSay_handles _)
  | silence => exact takeControl_keeps _ _ _ _ v (handleSilence_handles _)
  | queueGet => exact takeControl_keeps _ _ _ _ v fun v => handles_checked _ v _ fun _ => handles_read v _ (by simp [answerOk])
  | storeClaim => exact takeControl_keeps _ _ _ _ v (handleStoreClaim_handles _)
  | storeRelease => exact takeControl_keeps _ _ _ _ v (handleStoreRelease_handles _)
  | storeWrite => exact takeControl_keeps _ _ _ _ v fun v => handles_checked _ v _ fun _ => linkRequest_handles _ v
  | storeErase => exact takeControl_keeps _ _ _ _ v fun v => handles_checked _ v _ fun _ => linkRequest_handles _ v
  | storeRead => exact takeControl_keeps _ _ _ _ v fun v => handles_checked _ v _ fun _ => linkRequest_handles _ v
  | storeFetch => exact takeControl_keeps _ _ _ _ v (handleStoreFetch_handles _)
  | faultGet => exact takeControl_keeps _ _ _ _ v (handleFaultGet_handles _)
  | _ => exact Keeps.refl v

theorem slotEffect_fits (i : Instr) (v : Vks) : Fits (slotEffect i v) v := by
  by_cases hsleep : ∃ tag arg, i = .sleep tag arg
  · obtain ⟨tag, arg, rfl⟩ := hsleep
    exact sleepSlot_fits tag arg v
  · exact (slotEffect_keeps i v fun tag arg h => hsleep ⟨tag, arg, h⟩).toFits

theorem judgeSlot_fits (bytes : List Byte) (v : Vks) : Fits (judgeSlot bytes v) v := by
  unfold judgeSlot
  split
  · exact (discardSlot_keeps _ _).toFits
  · exact slotEffect_fits _ _

/-- The part as a transaction's end leaves it before its slot is judged (R164, R166, R168). -/
theorem closeTransaction_keeps (bytes : List Byte) (t : Transaction) (v : Vks) :
    Keeps (closeTransaction (if bytes.length = 64 then deliver t v else takeBack t v)) v := by
  have hclose (w : Vks) : Keeps (closeTransaction w) w := keeps_port _ w id
  refine (hclose _).trans ?_
  split
  · exact deliver_keeps t v
  · exact keeps_port _ v id

theorem transactionEnd_fits (bytes : List Byte) (v : Vks) : Fits (transactionEnd bytes v) v := by
  unfold transactionEnd
  split
  · exact Fits.refl v
  · exact (Moves.keeps ((settle_moves _).trans (restartSleepTimer_moves _))).toFits.trans
      ((judgeSlot_fits bytes _).trans (closeTransaction_keeps bytes _ v).toFits)

/-! ### Every step -/

/-- From `s` to `t` the flash keeps its form and the part its invariants. -/
structure StepKeeps (s t : State) : Prop where
  flash : s.flash.wf = true → t.flash.wf = true
  part : Fits t.vks s.vks

theorem StepKeeps.refl (s : State) : StepKeeps s s := ⟨id, Fits.refl _⟩

theorem onPart_stepKeeps (f : Vks → Vks) (s t : State) (hf : Fits (f s.vks) s.vks) (h : onPart f s = .next t) :
    StepKeeps s t := by
  cases h
  exact ⟨id, hf⟩

/-- R175: the power-on part meets the invariants. -/
theorem powerOn_meets (op : Option LinkOp) : PoolBalances (Vks.powerOn op) ∧ TablesSized (Vks.powerOn op)
    ∧ NoticesFit (Vks.powerOn op) ∧ KeysFit (Vks.powerOn op) ∧ ListsFit (Vks.powerOn op) ∧ QueueFits (Vks.powerOn op)
    ∧ BufferFits (Vks.powerOn op) ∧ OutputFits (Vks.powerOn op) ∧ ReplyFits (Vks.powerOn op) := by
  have hpool : PoolBalances (Vks.powerOn op) := by
    refine ⟨by simp [Vks.powerOn, WordTable.powerOn], ?_, by simp [Vks.powerOn, WordTable.powerOn, itemsUsed, entryItems]⟩
    intro e he x hx
    rw [(List.mem_replicate.mp he).2] at hx
    cases hx
  have htables : TablesSized (Vks.powerOn op) := by
    constructor <;> simp [Vks.powerOn, WordTable.powerOn, LessonUnit.powerOn, KeyUnit.powerOn, KeyUnit.afterReset,
      Scheduler.afterReset, defaultRows, Params.powerOn, NoticeUnit.cleared]
  have hsize : 512 ≤ 1536 ∧ 1536 ≤ 2560 ∧ 1536 % 256 = 0 := by decide
  exact ⟨hpool, htables, Nat.zero_le _, ⟨Nat.zero_le _, Nat.zero_le _⟩, ⟨Nat.zero_le _, Nat.zero_le _, List.nodup_nil⟩,
    Nat.zero_le _, ⟨Nat.zero_le _, hsize, hsize⟩,
    ⟨show (-32768 : Int) ≤ 0 by decide, show (0 : Int) ≤ 32767 by decide, rfl⟩, rfl⟩

theorem powerOn_fits (op : Option LinkOp) (v : Vks) : Fits (Vks.powerOn op) v := by
  obtain ⟨hpool, htables, hnotices, hkeys, hlists, hqueue, hbuffer, houtput, hreply⟩ := powerOn_meets op
  exact ⟨fun _ => hpool, fun _ => htables, fun _ => hnotices, fun _ => hkeys, fun _ => hlists, fun _ => hqueue,
    fun _ => hbuffer, fun _ => houtput, fun _ => hreply⟩

theorem onPart_keeps (f : Vks → Vks) (s t : State) (hf : Keeps (f s.vks) s.vks) (h : onPart f s = .next t) :
    (s.flash.wf = true → t.flash.wf = true) ∧ Keeps t.vks s.vks := by
  cases h
  exact ⟨id, hf⟩

theorem execHeaderCheckEnd_keeps (present : Bool) (bad1 bad2 : Misread) (s t : State)
    (h : execHeaderCheckEnd present bad1 bad2 s = .next t) : (s.flash.wf = true → t.flash.wf = true) ∧ Keeps t.vks s.vks := by
  unfold execHeaderCheckEnd at h
  simp only at h
  split at h
  · split at h
    · obtain rfl := Host.Outcome.next.inj h
      have hclear : Keeps (clearInterrupted s.vks) s.vks := (keeps_reader _ _)
      exact ⟨s.flash.finishInterrupted_wf _, (headerCheckEnd_keeps _ _ _ _).trans hclear⟩
    · cases h
  · cases h
    exact ⟨id, Keeps.refl _⟩

theorem execDirectoryReadEnd_keeps (bad : Misread) (s t : State) (h : execDirectoryReadEnd bad s = .next t) :
    (s.flash.wf = true → t.flash.wf = true) ∧ Keeps t.vks s.vks := by
  unfold execDirectoryReadEnd at h
  split at h
  · split at h
    · exact onPart_keeps _ s t (directoryReadEnd_keeps _ _ _ _ _) h
    · cases h
  · cases h
    exact ⟨id, Keeps.refl _⟩

theorem execBlockReadEnd_keeps (bad1 bad2 : Misread) (s t : State) (h : execBlockReadEnd bad1 bad2 s = .next t) :
    (s.flash.wf = true → t.flash.wf = true) ∧ Keeps t.vks s.vks := by
  unfold execBlockReadEnd at h
  split at h
  · split at h
    · exact onPart_keeps _ s t (blockReadEnd_keeps _ _ _ _ _ _ _ _ _ _) h
    · cases h
  · cases h
    exact ⟨id, Keeps.refl _⟩

theorem execStoreWriteEnd_keeps (present : Bool) (bad1 bad2 : Misread) (s t : State)
    (h : execStoreWriteEnd present bad1 bad2 s = .next t) : (s.flash.wf = true → t.flash.wf = true) ∧ Keeps t.vks s.vks := by
  unfold execStoreWriteEnd at h
  split at h
  · split at h
    · obtain rfl := Host.Outcome.next.inj h
      exact ⟨verifiedTwice_wf _ (fun f => f.program_wf _ _) _ _ _ _ _ _ _, (linkDone_keeps _ _ _ _)⟩
    · cases h
  · cases h
    exact ⟨id, Keeps.refl _⟩

theorem execStoreEraseEnd_keeps (present : Bool) (bad1 bad2 : Misread) (s t : State)
    (h : execStoreEraseEnd present bad1 bad2 s = .next t) : (s.flash.wf = true → t.flash.wf = true) ∧ Keeps t.vks s.vks := by
  unfold execStoreEraseEnd at h
  split at h
  · split at h
    · obtain rfl := Host.Outcome.next.inj h
      exact ⟨verifiedTwice_wf _ (fun f => f.erase_wf _ _) _ _ _ _ _ _ _, (linkDone_keeps _ _ _ _)⟩
    · cases h
  · cases h
    exact ⟨id, Keeps.refl _⟩

theorem execStoreReadEnd_keeps (present : Bool) (bad : Misread) (s t : State)
    (h : execStoreReadEnd present bad s = .next t) : (s.flash.wf = true → t.flash.wf = true) ∧ Keeps t.vks s.vks := by
  unfold execStoreReadEnd at h
  split at h
  · split at h
    · obtain rfl := Host.Outcome.next.inj h
      have hheld (x : Option Holding) : Keeps (setHolding x s.vks) s.vks := (keeps_reader _ _)
      exact ⟨id, (linkDone_keeps _ _ _ _).trans (hheld _)⟩
    · cases h
  · cases h
    exact ⟨id, Keeps.refl _⟩

/-- The rows that end an operation of the flash. -/
def flashRow : Instr → Bool
  | .storeWriteEnd _ _ _ => true
  | .storeEraseEnd _ _ _ => true
  | .storeReadEnd _ _ => true
  | .headerCheckEnd _ _ _ => true
  | .directoryReadEnd _ => true
  | .blockReadEnd _ _ => true
  | _ => false

theorem exec_flashRow_keeps (i : Instr) (s t : State) (hrow : flashRow i = true) (h : exec i s = .next t) :
    (s.flash.wf = true → t.flash.wf = true) ∧ Keeps t.vks s.vks := by
  cases i with
  | storeWriteEnd present bad1 bad2 => exact execStoreWriteEnd_keeps present bad1 bad2 s t h
  | storeEraseEnd present bad1 bad2 => exact execStoreEraseEnd_keeps present bad1 bad2 s t h
  | storeReadEnd present bad => exact execStoreReadEnd_keeps present bad s t h
  | headerCheckEnd present bad1 bad2 => exact execHeaderCheckEnd_keeps present bad1 bad2 s t h
  | directoryReadEnd bad => exact execDirectoryReadEnd_keeps bad s t h
  | blockReadEnd bad1 bad2 => exact execBlockReadEnd_keeps bad1 bad2 s t h
  | _ => cases hrow

/-- A slot's row does what the slot does in a transaction (R165). -/
theorem exec_of_slot (i : Instr) (s : State) (hslot : (encodeSlot i).isSome) :
    exec i s = .next (withPart s (slotEffect i s.vks)) := by
  cases i <;> first | rfl | cases hslot

theorem exec_stepKeeps (i : Instr) (s t : State) (h : exec i s = .next t) : StepKeeps s t := by
  by_cases hslot : (encodeSlot i).isSome
  · rw [exec_of_slot i s hslot] at h
    cases h
    exact ⟨id, slotEffect_fits i s.vks⟩
  by_cases hrow : flashRow i = true
  · obtain ⟨hflash, hpart⟩ := exec_flashRow_keeps i s t hrow h
    exact ⟨hflash, hpart.toFits⟩
  cases i with
  | powerOnReset =>
    cases h
    exact ⟨id, powerOn_fits _ _⟩
  | transactionBegin => exact onPart_stepKeeps _ s t (transactionBegin_keeps _).toFits h
  | transactionEnd bytes => exact onPart_stepKeeps _ s t (transactionEnd_fits bytes _) h
  | keyScan raw => exact onPart_stepKeeps _ s t (keyScan_keeps raw _).toFits h
  | sleepScan raw => exact onPart_stepKeeps _ s t (sleepScan_keeps raw _).toFits h
  | outputInstant => exact onPart_stepKeeps _ s t (outputInstant_keeps _).toFits h
  | clipWindowEnd => exact onPart_stepKeeps _ s t (closeWindow_keeps _).toFits h
  | duckHoldEnd => exact onPart_stepKeeps _ s t (endHold_keeps _).toFits h
  | ampWarmupExpiry => exact onPart_stepKeeps _ s t (warmupExpiry_keeps _).toFits h
  | ampStandbyExpiry => exact onPart_stepKeeps _ s t (standbyExpiry_keeps _).toFits h
  | inactivityExpiry => exact onPart_stepKeeps _ s t (inactivityExpiry_keeps _).toFits h
  | gapExpiry => exact onPart_stepKeeps _ s t (gapExpiry_keeps _).toFits h
  | lampTimerExpiry which => exact onPart_stepKeeps _ s t (lampTimerExpiry_keeps which _).toFits h
  | lampBlinkToggle lamp => exact onPart_stepKeeps _ s t (blinkToggle_keeps lamp _).toFits h
  | attnGapExpiry => exact onPart_stepKeeps _ s t (attnGapExpiry_keeps _).toFits h
  | sleepTimerExpiry => exact onPart_stepKeeps _ s t (sleepTimerExpiry_fits _) h
  | _ => first | exact absurd rfl hslot | exact absurd rfl hrow

theorem step_stepKeeps (s t : State) (h : step s = .next t) : StepKeeps s t := by
  unfold step at h
  split at h
  · cases h
    exact StepKeeps.refl s
  · next rest _ =>
    obtain ⟨hflash, hpart⟩ := exec_stepKeeps _ { s with pending := rest } t h
    exact ⟨hflash, hpart⟩

/-- Settles O57: every command is made of operations that keep the flash's form, the pool's account and the table sizes. -/
theorem everyStepKeepsFlashPoolAndTables : Obligations.EveryStepKeepsFlashPoolAndTables := by
  intro s t h
  obtain ⟨hflash, hpart⟩ := step_stepKeeps s t h
  exact ⟨hflash, hpart.pool, hpart.tables⟩

/-- Settles O58: every command is made of operations that keep each block within its capacity. -/
theorem everyStepKeepsTheCapacities : Obligations.EveryStepKeepsTheCapacities := by
  intro s t h
  obtain ⟨-, hpart⟩ := step_stepKeeps s t h
  exact ⟨hpart.notices, hpart.keys, hpart.lists, hpart.queue, hpart.buffer, hpart.output, hpart.reply⟩

end Sys2Proof.Invariants
end

section
/-! SUPPORT. A sleeping part is quiet (R189, R190, R193): what wakes it, and what the rest leaves of its quiet. -/

namespace Sys2Proof.SleepQuiet

open Sys2Proof.Machine Sys2Proof.Invariants Sys2Proof.EventMoves

/-! ### Waking -/

theorem wake_active (cause : Nat) (v : Vks) : (wake cause v).power.asleep = false := (wake_untouched cause v).asleep

/-- R193, log 6: a slot finds the part ACTIVE. -/
theorem wakeByLink_active (v : Vks) : (wakeByLink v).power.asleep = false := by
  unfold wakeByLink
  split
  · exact (settle_keeps _).active (wake_active 2 v)
  · next h => exact Bool.eq_false_iff.mpr h

theorem takeControl_wakeByLink (code tag : Byte) (arg : List Byte) (hd : Handler) (v : Vks) :
    takeControl code tag arg hd v = takeControl code tag arg hd (wakeByLink v) := by
  unfold takeControl
  rw [wakeByLink_awake (wakeByLink v) (wakeByLink_active v)]

/-- R193, log 6: a slot that finds the part asleep does what it does on the part that has woken. -/
theorem slotEffect_wakeByLink (i : Instr) (v : Vks) (hslot : (encodeSlot i).isSome) :
    slotEffect i v = slotEffect i (wakeByLink v) := by
  have hidem := wakeByLink_awake (wakeByLink v) (wakeByLink_active v)
  cases i with
  | idleSlot => simp only [slotEffect, idleTaken, hidem]
  | audioSlot last samples => simp only [slotEffect, audioSlot, hidem]
  | _ => first | exact takeControl_wakeByLink _ _ _ _ v | cases hslot

/-! ### Falling asleep -/

theorem sleepObstacle_eq_none_iff (v : Vks) : sleepObstacle v = none ↔
    v.attempt.state = .idle ∧ v.reader.mainVoice.state = .idle ∧ v.reader.echoVoice.state = .idle
      ∧ v.sched.queue = [] ∧ v.sched.echoLine = none ∧ v.reader.engine = .idle := by
  have hmain : v.voiceActive .main = false ↔ v.reader.mainVoice.state = .idle := decide_eq_false_iff_not.trans not_not
  have hecho : v.voiceActive .echo = false ↔ v.reader.echoVoice.state = .idle := decide_eq_false_iff_not.trans not_not
  rw [← hmain, ← hecho]
  unfold sleepObstacle
  grind

theorem quiet_of_active {v : Vks} (h : v.power.asleep = false) : SleepIsQuiet v := fun hsleep =>
  absurd (h.symm.trans hsleep) Bool.false_ne_true

/-- R190: a part that falls asleep under the conditions of R189 is quiet. -/
theorem enterSleep_quiet (v : Vks) (h : sleepObstacle v = none) : SleepIsQuiet (enterSleep v) := fun _ =>
  ⟨rfl, rfl, rfl, rfl, h⟩

theorem sleepSlot_quiet (tag : Byte) (arg : List Byte) (v : Vks) : SleepIsQuiet (sleepSlot tag arg v) := by
  have hactive := wakeByLink_active v
  unfold sleepSlot takeControl serve handleSleep withoutArgument
  simp only
  repeat' split
  · exact quiet_of_active hactive
  · exact quiet_of_active hactive
  · exact quiet_of_active hactive
  · next hn =>
    exact enterSleep_quiet (wakeByLink v) hn

theorem slotEffect_quiet (i : Instr) (v : Vks) (h : SleepIsQuiet v) : SleepIsQuiet (slotEffect i v) := by
  by_cases hslot : (encodeSlot i).isSome
  · by_cases hsleep : ∃ tag arg, i = .sleep tag arg
    · obtain ⟨tag, arg, rfl⟩ := hsleep
      exact sleepSlot_quiet tag arg v
    · rw [slotEffect_wakeByLink i v hslot]
      exact quiet_of_active ((slotEffect_keeps i _ fun tag arg hi => hsleep ⟨tag, arg, hi⟩).active (wakeByLink_active v))
  · cases i <;> first | exact absurd rfl hslot | exact h

/-! ### The end of an event in an idle part -/

theorem readAhead_of_not_playing (i : VoiceId) (v : Vks) (h : (v.voice i).state ≠ .playing) : readAhead i v = v := by
  simp [readAhead, readStages, readStage, h]

theorem needsRead_of_not_playing (i : VoiceId) (v : Vks) (h : (v.voice i).state ≠ .playing) : needsRead v i = false := by
  simp [needsRead, h]

theorem startRead_of_none (v : Vks) (hmain : needsRead v .main = false) (hecho : needsRead v .echo = false) :
    startRead v = v := by
  simp [startRead, arbiterChoice, hmain, hecho]

theorem startHeads_of_nothing_waiting (v : Vks) (hqueue : v.sched.queue = []) (hecho : v.sched.echoLine = none) :
    startHeads v = v := by
  have hmain : startMainHead v = v := by simp [startMainHead, hqueue]
  simp [startHeads, startEchoHead, hmain, hecho]

/-- With nothing waiting and both voices IDLE nothing starts and nothing is read at an event's end. -/
theorem settleReads_startHeads_of_silent (v : Vks) (hmain : v.reader.mainVoice.state = .idle)
    (hecho : v.reader.echoVoice.state = .idle) (hqueue : v.sched.queue = []) (hline : v.sched.echoLine = none) :
    settleReads (startHeads v) = v := by
  have hm : (v.voice .main).state ≠ .playing := by simp [Vks.voice, hmain]
  have he : (v.voice .echo).state ≠ .playing := by simp [Vks.voice, hecho]
  rw [startHeads_of_nothing_waiting v hqueue hline, settleReads, readAhead_of_not_playing .main v hm,
    readAhead_of_not_playing .echo v he,
    startRead_of_none v (needsRead_of_not_playing .main v hm) (needsRead_of_not_playing .echo v he)]

theorem settleReads_startHeads_of_idle (v : Vks) (h : sleepObstacle v = none) : settleReads (startHeads v) = v := by
  obtain ⟨-, hmain, hecho, hqueue, hline, -⟩ := (sleepObstacle_eq_none_iff v).mp h
  exact settleReads_startHeads_of_silent v hmain hecho hqueue hline

theorem settleAttn_quiet (v : Vks) (h : SleepIsQuiet v) : SleepIsQuiet (settleAttn v) := by
  unfold settleAttn dropAttn
  repeat' split
  all_goals exact h

/-- R189: the end of an event starts nothing in a quiet sleeping part. -/
theorem settle_quiet (v : Vks) (h : SleepIsQuiet v) : SleepIsQuiet (settle v) := by
  by_cases hsleep : v.power.asleep = true
  · obtain ⟨-, -, -, -, hfree⟩ := h hsleep
    unfold settle
    rw [settleReads_startHeads_of_idle v hfree]
    have hlamps : SleepIsQuiet (settleLamps (settleAttn (settleInactivity v))) := settleAttn_quiet _ h
    exact hlamps
  · exact quiet_of_active ((settle_keeps v).active (Bool.eq_false_iff.mpr hsleep))

/-! ### The rows -/

theorem transactionBegin_quiet (v : Vks) (h : SleepIsQuiet v) : SleepIsQuiet (transactionBegin v) := by
  have hactive : (if v.power.asleep then wake 2 v else v).power.asleep = false := by
    split
    · exact wake_active 2 v
    · next hawake => exact Bool.eq_false_iff.mpr hawake
  unfold transactionBegin
  split
  · exact h
  · exact quiet_of_active ((Moves.keeps ((settle_moves _).trans (dropAttn_moves _ (by decide)))).active hactive)

theorem transactionEnd_quiet (bytes : List Byte) (v : Vks) (h : SleepIsQuiet v) : SleepIsQuiet (transactionEnd bytes v) := by
  unfold transactionEnd
  split
  · exact h
  · next t ht =>
    have hclosed : SleepIsQuiet (closeTransaction (if bytes.length = 64 then deliver t v else takeBack t v)) := by
      split <;> exact h
    have hjudged : SleepIsQuiet (judgeSlot bytes (closeTransaction (if bytes.length = 64 then deliver t v else takeBack t v))) := by
      unfold judgeSlot
      split
      · exact hclosed
      · exact slotEffect_quiet _ _ hclosed
    exact settle_quiet _ hjudged

theorem sleepScan_quiet (raw : Matrix) (v : Vks) (h : SleepIsQuiet v) : SleepIsQuiet (sleepScan raw v) := by
  unfold sleepScan
  simp only
  repeat' split
  · exact quiet_of_active ((settle_keeps _).active (wake_active 1 _))
  · exact h
  · exact h

theorem closeWindow_quiet (v : Vks) (h : SleepIsQuiet v) : SleepIsQuiet (closeWindow v) := by
  unfold closeWindow
  split <;> exact h

theorem endHold_quiet (v : Vks) (h : SleepIsQuiet v) : SleepIsQuiet (endHold v) := by
  unfold endHold
  split <;> exact h

theorem lampTimerExpiry_quiet (t : LampTimer) (v : Vks) (h : SleepIsQuiet v) : SleepIsQuiet (lampTimerExpiry t v) := by
  have hstop : SleepIsQuiet (stopLampTimer t v) := by cases t <;> exact h
  unfold lampTimerExpiry
  split
  · exact settle_quiet _ hstop
  · exact h

theorem blinkToggle_quiet (lamp : Fin 3) (v : Vks) (h : SleepIsQuiet v) : SleepIsQuiet (blinkToggle lamp v) := by
  unfold blinkToggle
  repeat' split
  all_goals exact h

theorem attnGapExpiry_quiet (v : Vks) (h : SleepIsQuiet v) : SleepIsQuiet (attnGapExpiry v) := by
  unfold attnGapExpiry
  split
  · exact settle_quiet _ h
  · exact h

theorem sleepTimerExpiry_quiet (v : Vks) (h : SleepIsQuiet v) : SleepIsQuiet (sleepTimerExpiry v) := by
  unfold sleepTimerExpiry
  split
  · next hdue =>
    refine enterSleep_quiet v ?_
    have hruns := hdue.2
    simp only [sleepTimerRuns, Bool.and_eq_true, Option.isNone_iff_eq_none] at hruns
    exact hruns.1.1.2
  · exact h

/-! ### Rows whose conditions a quiet sleeping part does not meet -/

/-- A row that keeps an ACTIVE part ACTIVE, and that a quiet sleeping part does not feel, keeps the quiet. -/
theorem quiet_of_keeps {f : Vks → Vks} (v : Vks) (hkeeps : Keeps (f v) v)
    (hasleep : v.power.asleep = true → v.power.amp = .off → sleepObstacle v = none → f v = v) (h : SleepIsQuiet v) :
    SleepIsQuiet (f v) := by
  by_cases hsleep : v.power.asleep = true
  · obtain ⟨hamp, -, -, -, hfree⟩ := h hsleep
    rw [hasleep hsleep hamp hfree]
    exact h
  · exact quiet_of_active (hkeeps.active (Bool.eq_false_iff.mpr hsleep))

theorem keyScan_quiet (raw : Matrix) (v : Vks) : SleepIsQuiet v → SleepIsQuiet (keyScan raw v) :=
  quiet_of_keeps v (keyScan_keeps raw v) fun hsleep _ _ => by simp [keyScan, hsleep]

theorem outputInstant_quiet (v : Vks) : SleepIsQuiet v → SleepIsQuiet (outputInstant v) :=
  quiet_of_keeps v (outputInstant_keeps v) fun hsleep _ _ => by simp [outputInstant, hsleep]

theorem standbyExpiry_quiet (v : Vks) : SleepIsQuiet v → SleepIsQuiet (standbyExpiry v) :=
  quiet_of_keeps v (standbyExpiry_keeps v) fun hsleep _ _ => by simp [standbyExpiry, standbyDue, hsleep]

theorem warmupExpiry_quiet (v : Vks) : SleepIsQuiet v → SleepIsQuiet (warmupExpiry v) :=
  quiet_of_keeps v (warmupExpiry_keeps v) fun _ hamp _ => by simp [warmupExpiry, hamp]

theorem inactivityExpiry_quiet (v : Vks) : SleepIsQuiet v → SleepIsQuiet (inactivityExpiry v) :=
  quiet_of_keeps v (inactivityExpiry_keeps v) fun _ _ hfree => by
    simp [inactivityExpiry, inactivityCounts, ((sleepObstacle_eq_none_iff v).mp hfree).1]

theorem gapExpiry_quiet (v : Vks) : SleepIsQuiet v → SleepIsQuiet (gapExpiry v) :=
  quiet_of_keeps v (gapExpiry_keeps v) fun _ _ hfree => by
    simp [gapExpiry, ((sleepObstacle_eq_none_iff v).mp hfree).1]

/-! ### The flash rows -/

theorem onPart_quiet (f : Vks → Vks) (s t : State) (hf : SleepIsQuiet (f s.vks)) (h : onPart f s = .next t) :
    SleepIsQuiet t.vks := by
  cases h
  exact hf

/-- A row that ends an operation of the flash changes nothing while the engine is IDLE (log 27). -/
theorem exec_flashRow_of_idle (i : Instr) (s : State) (hrow : flashRow i = true) (hidle : s.vks.reader.engine = .idle) :
    exec i s = .next s := by
  cases i with
  | storeWriteEnd => simp [exec, execStoreWriteEnd, hidle]
  | storeEraseEnd => simp [exec, execStoreEraseEnd, hidle]
  | storeReadEnd => simp [exec, execStoreReadEnd, hidle]
  | headerCheckEnd => simp [exec, execHeaderCheckEnd, hidle]
  | directoryReadEnd => simp [exec, execDirectoryReadEnd, hidle]
  | blockReadEnd => simp [exec, execBlockReadEnd, hidle]
  | _ => cases hrow

theorem exec_flashRow_quiet (i : Instr) (s t : State) (hrow : flashRow i = true) (h : exec i s = .next t)
    (hquiet : SleepIsQuiet s.vks) : SleepIsQuiet t.vks := by
  by_cases hsleep : s.vks.power.asleep = true
  · obtain ⟨-, -, -, -, hfree⟩ := hquiet hsleep
    rw [exec_flashRow_of_idle i s hrow ((sleepObstacle_eq_none_iff _).mp hfree).2.2.2.2.2] at h
    cases h
    exact hquiet
  · exact quiet_of_active ((exec_flashRow_keeps i s t hrow h).2.active (Bool.eq_false_iff.mpr hsleep))

theorem exec_quiet (i : Instr) (s t : State) (h : exec i s = .next t) (hquiet : SleepIsQuiet s.vks) : SleepIsQuiet t.vks := by
  by_cases hslot : (encodeSlot i).isSome
  · rw [exec_of_slot i s hslot] at h
    cases h
    exact slotEffect_quiet i s.vks hquiet
  by_cases hrow : flashRow i = true
  · exact exec_flashRow_quiet i s t hrow h hquiet
  cases i with
  | powerOnReset =>
    cases h
    exact quiet_of_active rfl
  | transactionBegin => exact onPart_quiet _ s t (transactionBegin_quiet _ hquiet) h
  | transactionEnd bytes => exact onPart_quiet _ s t (transactionEnd_quiet bytes _ hquiet) h
  | keyScan raw => exact onPart_quiet _ s t (keyScan_quiet raw _ hquiet) h
  | sleepScan raw => exact onPart_quiet _ s t (sleepScan_quiet raw _ hquiet) h
  | outputInstant => exact onPart_quiet _ s t (outputInstant_quiet _ hquiet) h
  | clipWindowEnd => exact onPart_quiet _ s t (closeWindow_quiet _ hquiet) h
  | duckHoldEnd => exact onPart_quiet _ s t (endHold_quiet _ hquiet) h
  | ampWarmupExpiry => exact onPart_quiet _ s t (warmupExpiry_quiet _ hquiet) h
  | ampStandbyExpiry => exact onPart_quiet _ s t (standbyExpiry_quiet _ hquiet) h
  | inactivityExpiry => exact onPart_quiet _ s t (inactivityExpiry_quiet _ hquiet) h
  | gapExpiry => exact onPart_quiet _ s t (gapExpiry_quiet _ hquiet) h
  | lampTimerExpiry which => exact onPart_quiet _ s t (lampTimerExpiry_quiet which _ hquiet) h
  | lampBlinkToggle lamp => exact onPart_quiet _ s t (blinkToggle_quiet lamp _ hquiet) h
  | attnGapExpiry => exact onPart_quiet _ s t (attnGapExpiry_quiet _ hquiet) h
  | sleepTimerExpiry => exact onPart_quiet _ s t (sleepTimerExpiry_quiet _ hquiet) h
  | _ => first | exact absurd rfl hslot | exact absurd rfl hrow

/-- Settles O59: the one way into SLEEP is through its conditions, slots and presses wake the part first, and no other row is
felt by a quiet sleeping part. -/
theorem everyStepKeepsSleepQuiet : Obligations.EveryStepKeepsSleepQuiet := by
  intro s t h hquiet
  unfold step at h
  split at h
  · cases h
    exact hquiet
  · next rest _ => exact exec_quiet _ { s with pending := rest } t h hquiet

/-- Settles O60: the reset part holds its default tables, empty queues and silent outputs, and is ACTIVE. -/
theorem resetMeetsTheInvariants : Obligations.ResetMeetsTheInvariants := by
  obtain ⟨hpool, htables, hnotices, hkeys, hlists, hqueue, hbuffer, houtput, hreply⟩ := powerOn_meets none
  exact ⟨Flash.erased_wf, hpool, htables, hnotices, hkeys, hlists, hqueue, hbuffer, houtput, hreply, quiet_of_active rfl⟩

end Sys2Proof.SleepQuiet
end

section
/-! SUPPORT. The queue of commands and the resets (R175, R160), SLEEP (R189), CLEAR FLAGS (R176), and the slots that reach no
block (R165). -/

namespace Sys2Proof.Link

open Sys2Proof.Machine Sys2Proof.SleepQuiet Sys2Proof.Invariants Sys2Proof.EventMoves

/-- Settles O1: both cases of `step`. -/
theorem stepRunsTheFrontCommand : Obligations.StepRunsTheFrontCommand := by
  refine ⟨fun c rest s => rfl, fun s hidle => ?_⟩
  unfold step
  rw [hidle]

/-! ### Requests without an argument -/

/-- R165: in a part that is awake a request's row is its owner's handling, and its answer the reply. -/
theorem exec_request_awake (i : Instr) (code tag : Byte) (arg : List Byte) (hd : Handler) (s : State)
    (hrow : exec i s = .next (withPart s (takeControl code tag arg hd s.vks))) (hawake : Awake s) (hfits : arg.length ≤ 58) :
    exec i s = .next (withPart s (setReply code tag (hd arg s.vks).2 (hd arg s.vks).1)) := by
  rw [hrow, takeControl_awake code tag arg hd s.vks hawake hfits]

/-- A table read beyond its end, or at a place that holds the value read there, gives that value. -/
theorem readAt_replicate {α : Type} (n i : Nat) (d : α) : readAt (List.replicate n d) i d = d := by
  simp only [readAt, List.getD_eq_getElem?_getD, List.getElem?_replicate]
  split <;> rfl

/-- Settles O2: the power-on part is written down field by field, and its tables are filled with one value each. -/
theorem powerOnResetRestoresEveryBlock : Obligations.PowerOnResetRestoresEveryBlock := by
  intro s
  have hentry (w : Nat) : (Vks.powerOn (cutOff s.vks.reader)).entry w = none := readAt_replicate _ _ _
  have hletter (c : Nat) : (Vks.powerOn (cutOff s.vks.reader)).letter c = ⟨none, none⟩ := by
    unfold Vks.letter
    split
    · rfl
    · exact readAt_replicate _ _ _
  have hrecord (w : Nat) : (Vks.powerOn (cutOff s.vks.reader)).record w = ProgressRecord.zero := readAt_replicate _ _ _
  have hpositions (k : KeyPosition) (hk : k ∈ (Vks.powerOn (cutOff s.vks.reader)).keys.positions) : k = ⟨some .latched, 0⟩ :=
    (List.mem_replicate.mp hk).2
  refine ⟨_, LinkReads.exec_powerOnReset s, rfl, rfl, hentry, rfl, hletter, rfl, rfl, rfl, rfl, rfl, rfl, hrecord, rfl, hpositions, ?_⟩
  repeat' constructor

/-! ### SLEEP (R189) -/

theorem exec_sleep_awake (s : State) (tag : Byte) (hawake : Awake s) : exec (.sleep tag []) s
    = .next (withPart s (setReply 0x04#8 tag (handleSleep [] s.vks).2 (handleSleep [] s.vks).1)) :=
  exec_request_awake _ 0x04#8 tag [] handleSleep s rfl hawake (Nat.zero_le _)

/-- R189: with every condition met SLEEP is taken. -/
theorem exec_sleep_taken (s : State) (tag : Byte) (hawake : Awake s) (hfree : sleepObstacle s.vks = none) :
    exec (.sleep tag []) s = .next (withPart s (replying 0x04#8 tag .ok [0#8, 0#8, 0#8, 0#8] [] (enterSleep s.vks))) := by
  have hhandled : handleSleep [] s.vks = (enterSleep s.vks, answerOk []) := by
    rw [handleSleep, withoutArgument_nil, hfree]
  rw [exec_sleep_awake s tag hawake, hhandled]
  rfl

/-- R189: the first condition that fails is the cause of BUSY. -/
theorem exec_sleep_busy (s : State) (tag : Byte) (n : Nat) (hawake : Awake s) (hbusy : sleepObstacle s.vks = some n) :
    exec (.sleep tag []) s
      = .next (withPart s (replying 0x04#8 tag .busy [BitVec.ofNat 8 n, 0#8, 0#8, 0#8] [] s.vks)) := by
  have hhandled : handleSleep [] s.vks = (s.vks, answerRefused .busy (leBytes 1 n)) := by
    rw [handleSleep, withoutArgument_nil, hbusy]
  rw [exec_sleep_awake s tag hawake, hhandled]
  rfl

theorem voiceActive_eq_true_iff (v : Vks) (i : VoiceId) : v.voiceActive i = true ↔ (v.voice i).state ≠ .idle :=
  decide_eq_true_iff

theorem voiceActive_eq_false_iff (v : Vks) (i : VoiceId) : v.voiceActive i = false ↔ (v.voice i).state = .idle :=
  decide_eq_false_iff_not.trans not_not

/-- Settles O5: the conditions of R189 in their order, and the part that falls asleep written out. -/
theorem sleepStopsTheOutputs : Obligations.SleepStopsTheOutputs := by
  intro s tag hawake
  have hmain : s.vks.reader.mainVoice.state = .idle ↔ s.vks.voiceActive .main = false :=
    (voiceActive_eq_false_iff s.vks .main).symm
  have hecho : s.vks.reader.echoVoice.state = .idle ↔ s.vks.voiceActive .echo = false :=
    (voiceActive_eq_false_iff s.vks .echo).symm
  refine ⟨?taken, ?attempt, ?voices, ?waiting, ?engine⟩
  case taken =>
    intro hs hm he hq hl hg
    rw [exec_sleep_taken s tag hawake ((sleepObstacle_eq_none_iff _).mpr ⟨hs, hm, he, hq, hl, hg⟩)]
    simp only [enterSleep, ampGoesOff, stopPlayout, openEnvelope, newClipWindow, I2s.stopped]
  case attempt =>
    intro hs
    exact exec_sleep_busy s tag 1 hawake (by simp [sleepObstacle, hs])
  case voices =>
    intro hs hv
    refine exec_sleep_busy s tag 2 hawake ?_
    simp only [ne_eq, hmain, hecho, Bool.not_eq_false] at hv
    simp [sleepObstacle, hs, hv]
  case waiting =>
    intro hs hm he hw
    rw [hmain] at hm
    rw [hecho] at he
    exact exec_sleep_busy s tag 3 hawake (by simp only [sleepObstacle, hs, hm, he]; simp [hw])
  case engine =>
    intro hs hm he hq hl hg
    rw [hmain] at hm
    rw [hecho] at he
    exact exec_sleep_busy s tag 4 hawake (by simp [sleepObstacle, hs, hm, he, hq, hl, hg])

/-! ### CLEAR FLAGS (R176) -/

/-- Settles O12: the two marks are read into the answer and cleared. -/
theorem clearFlagsClearsBothMarks : Obligations.ClearFlagsClearsBothMarks := by
  intro s tag hawake
  refine ⟨?_, fun arg hne hfits => ?_⟩
  · rw [exec_request_awake _ 0x07#8 tag [] handleClearFlags s rfl hawake (Nat.zero_le _)]
    cases hreset : s.vks.port.resetSeen <;> cases hclip : s.vks.mixer.clipSeen <;>
      simp [handleClearFlags, withoutArgument, clearSeen, setReply, replying, answerOk, bitsValue, hreset, hclip, padTo, leBytes]
  · obtain ⟨b, bs, rfl⟩ := List.exists_cons_of_ne_nil hne
    rw [exec_request_awake _ 0x07#8 tag (b :: bs) handleClearFlags s rfl hawake hfits, handleClearFlags,
      withoutArgument_cons]
    rfl

end Sys2Proof.Link
end

section
/-! SUPPORT. What the plain moves of an event keep: the notices already queued, an amplifier that is ON, a buffer that plays, an
engine that rests. And what the arbiter leaves at an event's end (R129). -/

namespace Sys2Proof.EventFrames

open Sys2Proof.Machine Sys2Proof.EventMoves

variable {l : Nat} {a b c : Vks}

/-! ### The notice queue (R178) -/

/-- Notices join the tail of the queue, and NOTICE_LOST is not cleared. -/
structure NoticesJoin (a b : Vks) : Prop where
  joined : ∃ later, a.notices.queue = b.notices.queue ++ later
  lost : b.port.latches.noticeLost = true → a.port.latches.noticeLost = true

theorem NoticesJoin.refl (v : Vks) : NoticesJoin v v := ⟨⟨[], by simp⟩, id⟩

theorem NoticesJoin.trans (h : NoticesJoin a b) (k : NoticesJoin b c) : NoticesJoin a c := by
  obtain ⟨⟨later, hlater⟩, hlost⟩ := h
  obtain ⟨⟨sooner, hsooner⟩, klost⟩ := k
  exact ⟨⟨sooner ++ later, by rw [hlater, hsooner, List.append_assoc]⟩, hlost ∘ klost⟩

theorem raiseNotice_join (n : Notice) (v : Vks) : NoticesJoin (raiseNotice n v) v := by
  unfold raiseNotice
  split
  · exact ⟨⟨[n], rfl⟩, id⟩
  · exact ⟨⟨[], by simp⟩, fun _ => rfl⟩

theorem raiseNotice_queue (n : Notice) (v : Vks) (hroom : v.notices.queue.length < 16) :
    (raiseNotice n v).notices.queue = v.notices.queue ++ [n] := by
  unfold raiseNotice
  rw [if_pos hroom]

/-- A notice raised where there is room stands directly behind those that waited, whatever follows in the event. -/
theorem NoticesJoin.raised (n : Notice) (h : NoticesJoin a (raiseNotice n b)) (hroom : b.notices.queue.length < 16) :
    ∃ later, a.notices.queue = b.notices.queue ++ n :: later := by
  obtain ⟨later, hlater⟩ := h.joined
  exact ⟨later, by rw [hlater, raiseNotice_queue n b hroom, List.append_assoc, List.singleton_append]⟩

theorem move_join (h : Move l 1 a b) : NoticesJoin a b := by
  cases h with
  | notice n v => exact raiseNotice_join n _
  | _ => exact ⟨⟨[], by simp [setQueue]⟩, id⟩

theorem moves_join (h : Moves l 1 a b) : NoticesJoin a b := h.induct NoticesJoin.refl NoticesJoin.trans move_join

theorem settle_join (v : Vks) : NoticesJoin (settle v) v := moves_join (l := 1) (settle_moves v)

/-! ### The amplifier and the playout buffer (R148, R185, R186) -/

/-- What the starts and readings of an event do to the amplifier and the buffer. -/
structure AmpSteady (a b : Vks) : Prop where
  params : a.params = b.params
  samples : a.mixer.samples = b.mixer.samples
  on : b.power.amp = .on → a.power.amp = .on
  warming : b.power.amp = .warming → a.power.amp = .warming ∧ a.power.warmup = b.power.warmup
  off : b.power.amp = .off → b.params.ampWarmup ≠ 0 →
    (a.power.amp = .off ∨ a.power.amp = .warming ∧ a.power.warmup = some b.params.ampWarmup)
  playing : b.mixer.playing = true → a.mixer.playing = true ∧ a.mixer.lowArmed = b.mixer.lowArmed
  notReady : b.mixer.samples.length < max 1 b.params.playoutMark → a.mixer.playing = b.mixer.playing
  notOn : b.power.amp ≠ .on → ¬ (b.power.amp = .off ∧ b.params.ampWarmup = 0) → a.mixer.playing = b.mixer.playing

theorem AmpSteady.of_same (hmixer : a.mixer = b.mixer) (hamp : a.power.amp = b.power.amp)
    (hwarmup : a.power.warmup = b.power.warmup) (hparams : a.params = b.params) : AmpSteady a b := by
  constructor <;> simp +contextual [hmixer, hamp, hwarmup, hparams]

theorem AmpSteady.refl (v : Vks) : AmpSteady v v := .of_same rfl rfl rfl rfl

theorem AmpSteady.trans (h : AmpSteady a b) (k : AmpSteady b c) : AmpSteady a c where
  params := h.params.trans k.params
  samples := h.samples.trans k.samples
  on := h.on ∘ k.on
  warming hc := by
    obtain ⟨hb, hwarmup⟩ := k.warming hc
    obtain ⟨ha, hwarmup'⟩ := h.warming hb
    exact ⟨ha, hwarmup'.trans hwarmup⟩
  off hc hlong := by
    obtain hb | ⟨hb, hwarmup⟩ := k.off hc hlong
    · simpa only [k.params] using h.off hb (by rwa [k.params])
    · obtain ⟨ha, hwarmup'⟩ := h.warming hb
      exact .inr ⟨ha, hwarmup'.trans hwarmup⟩
  playing hc := by
    obtain ⟨hb, hlow⟩ := k.playing hc
    obtain ⟨ha, hlow'⟩ := h.playing hb
    exact ⟨ha, hlow'.trans hlow⟩
  notReady hc := (h.notReady (by rwa [k.samples, k.params])).trans (k.notReady hc)
  notOn hc hlong := by
    refine Eq.trans (h.notOn ?_ ?_) (k.notOn hc hlong)
    · cases hamp : c.power.amp with
      | on => exact absurd hamp hc
      | warming => simp [(k.warming hamp).1]
      | off =>
        obtain hb | ⟨hb, -⟩ := k.off hamp (fun h0 => hlong ⟨hamp, h0⟩) <;> simp [hb]
    · rintro ⟨hb, hshort⟩
      rw [k.params] at hshort
      cases hamp : c.power.amp with
      | on => exact hc hamp
      | warming => simp [(k.warming hamp).1] at hb
      | off => exact hlong ⟨hamp, hshort⟩

theorem playoutReady_iff (v : Vks) : playoutReady v = true ↔
    v.mixer.playing = false ∧ max 1 v.params.playoutMark ≤ v.mixer.samples.length := by
  simp [playoutReady, and_assoc]

theorem move_ampSteady (h : Move 1 1 a b) : AmpSteady a b := by
  cases h with
  | notice n v => unfold raiseNotice; split <;> exact .of_same rfl rfl rfl rfl
  | ask v hoff hlong =>
    exact ⟨rfl, rfl, fun h => absurd (hoff.symm.trans h) (by decide), fun h => absurd (hoff.symm.trans h) (by decide),
      fun _ _ => .inr ⟨rfl, rfl⟩, fun h => ⟨h, rfl⟩, fun _ => rfl, fun _ _ => rfl⟩
  | on v hoff hshort =>
    exact ⟨rfl, rfl, fun _ => rfl, fun h => absurd (hoff.symm.trans h) (by decide), fun _ h => absurd hshort h,
      fun h => ⟨h, rfl⟩, fun _ => rfl, fun _ _ => rfl⟩
  | play v hon hready =>
    obtain ⟨hstopped, hfill⟩ := (playoutReady_iff _).mp hready
    exact ⟨rfl, rfl, id, fun h => ⟨h, rfl⟩, fun h _ => .inl h, fun h => absurd (hstopped.symm.trans h) (by decide),
      fun h => absurd hfill (by omega), fun h => absurd hon h⟩
  | playout _ _ v hl => exact absurd hl (by decide)
  | amp _ _ _ v hl => exact absurd hl (by decide)
  | _ => exact .of_same rfl rfl rfl rfl

theorem moves_ampSteady (h : Moves 1 1 a b) : AmpSteady a b := h.induct AmpSteady.refl AmpSteady.trans move_ampSteady

theorem settle_ampSteady (v : Vks) : AmpSteady (settle v) v := moves_ampSteady (settle_moves v)

/-! ### What starts and readings leave to the rest of the event -/

/-- Starts and readings reach the voices, the engine, the queues, amplifier and buffer, ATTN and the notice queue. -/
structure Bare (a b : Vks) : Prop where
  attempt : a.attempt = b.attempt
  lesson : a.lesson = b.lesson
  sleepTimer : a.power.sleepTimer = b.power.sleepTimer
  blink : a.notices.blink = b.notices.blink
  correct : a.notices.correct = b.notices.correct
  wrong : a.notices.wrong = b.notices.wrong

theorem Bare.refl (v : Vks) : Bare v v := ⟨rfl, rfl, rfl, rfl, rfl, rfl⟩

theorem Bare.trans (h : Bare a b) (j : Bare b c) : Bare a c :=
  ⟨h.attempt.trans j.attempt, h.lesson.trans j.lesson, h.sleepTimer.trans j.sleepTimer, h.blink.trans j.blink,
    h.correct.trans j.correct, h.wrong.trans j.wrong⟩

theorem move_bare (h : Move l 0 a b) : Bare a b := by
  cases h with
  | notice n v => unfold raiseNotice; split <;> constructor <;> rfl
  | sleepTimer _ _ hk => exact absurd hk (by decide)
  | lamps _ _ _ hk => exact absurd hk (by decide)
  | blink _ _ _ _ hk => exact absurd hk (by decide)
  | attempt _ _ hk => exact absurd hk (by decide)
  | lesson _ _ hk => exact absurd hk (by decide)
  | _ => constructor <;> rfl

theorem moves_bare (h : Moves l 0 a b) : Bare a b := h.induct Bare.refl Bare.trans move_bare

theorem settleReads_startHeads_bare (v : Vks) : Bare (settleReads (startHeads v)) v :=
  moves_bare (l := 1) ((settleReads_moves _ le_rfl).trans (startHeads_moves v))

/-! ### The read engine (R128, R129) -/

theorem move_engine_idle (h : Move 0 1 a b) (hidle : b.reader.engine = .idle) : a.reader.engine = .idle := by
  cases h with
  | notice n v => unfold raiseNotice; split <;> exact hidle
  | forsake i v => simp only [hidle, Engine.forsake]
  | engine _ _ hl => exact absurd hl (by decide)
  | _ => exact hidle

/-- Without the engine's own start no read begins. -/
theorem moves_engine_idle (h : Moves 0 1 a b) : b.reader.engine = .idle → a.reader.engine = .idle :=
  h.induct (R := fun a b => b.reader.engine = .idle → a.reader.engine = .idle) (fun _ => id) (fun h k => h ∘ k)
    move_engine_idle

theorem move_attn (h : Move 0 1 a b) : a.notices.attn = b.notices.attn ∧ a.notices.attnGap = b.notices.attnGap := by
  cases h with
  | notice n v => unfold raiseNotice; split <;> exact ⟨rfl, rfl⟩
  | attn _ _ _ hl => exact absurd hl (by decide)
  | _ => exact ⟨rfl, rfl⟩

theorem moves_attn (h : Moves 0 1 a b) : a.notices.attn = b.notices.attn ∧ a.notices.attnGap = b.notices.attnGap :=
  h.induct (fun _ => ⟨rfl, rfl⟩) (fun h k => ⟨h.1.trans k.1, h.2.trans k.2⟩) move_attn

theorem needsRead_iff (v : Vks) (i : VoiceId) : needsRead v i = true ↔ WantsRead v i := by
  unfold needsRead WantsRead Voice.room Vks.ringCapacity blockRoom
  simp only
  generalize (v.voice i).phase = phase
  generalize (v.voice i).dir = dir
  cases phase <;> cases dir <;> simp [and_assoc]

theorem needsRead_eq_false_iff (v : Vks) (i : VoiceId) : needsRead v i = false ↔ ¬ WantsRead v i := by
  rw [← needsRead_iff, Bool.not_eq_true]

theorem readsFor_engineWork (v : Vks) (i : VoiceId) :
    ReadsFor { v with reader := { v.reader with engine := engineWork v i } } i := by
  intro segment hitem
  have hvoice : Vks.voice { v with reader := { v.reader with engine := engineWork v i } } i = v.voice i := by cases i <;> rfl
  rw [hvoice] at hitem ⊢
  refine ⟨fun hphase => ?_, fun d hphase hdir => ?_⟩
  · simp only [engineWork, hphase, Voice.readSegment, hitem]
  · simp only [engineWork, hphase, hdir, Voice.readSegment, hitem]

/-- What the arbiter looks at is the voices, the store, the engine and the ring capacity. -/
theorem arbiterServes_congr (hreader : a.reader = b.reader) (hsize : a.mixer.sizeInForce = b.mixer.sizeInForce)
    (h : ArbiterServes b) : ArbiterServes a := by
  have hvoice (i : VoiceId) : a.voice i = b.voice i := by cases i <;> simp [Vks.voice, hreader]
  have hwants (i : VoiceId) : WantsRead a i ↔ WantsRead b i := by simp only [WantsRead, hvoice, hreader, hsize]
  have hreads (i : VoiceId) : ReadsFor a i ↔ ReadsFor b i := by simp only [ReadsFor, hvoice, hreader]
  obtain ⟨hnone, hmain, hecho⟩ := h
  constructor <;> simpa only [hwants, hreads, hreader]

theorem arbiterChoice_cases (v : Vks) :
    (arbiterChoice v = some .main ↔
      WantsRead v .main ∧ (WantsRead v .echo → v.reader.mainVoice.ring.length ≤ v.reader.echoVoice.ring.length))
    ∧ (arbiterChoice v = some .echo ↔
      WantsRead v .echo ∧ (WantsRead v .main → v.reader.echoVoice.ring.length < v.reader.mainVoice.ring.length))
    ∧ (arbiterChoice v = none ↔ ¬ WantsRead v .main ∧ ¬ WantsRead v .echo) := by
  simp only [← needsRead_iff, arbiterChoice]
  cases needsRead v .main <;> cases needsRead v .echo <;> simp
  split <;> simp

/-- R129: an IDLE engine is handed to the voice the arbiter chooses. -/
theorem arbiterServes_startRead (v : Vks) (hidle : v.reader.engine = .idle) : ArbiterServes (startRead v) := by
  obtain ⟨hmain, hecho, hnone⟩ := arbiterChoice_cases v
  have hwants (i j : VoiceId) : WantsRead { v with reader := { v.reader with engine := engineWork v i } } j ↔ WantsRead v j := by
    cases j <;> rfl
  unfold startRead
  rw [if_pos hidle]
  cases hchoice : arbiterChoice v with
  | none =>
    obtain ⟨hm, he⟩ := hnone.mp hchoice
    exact ⟨fun _ _ => hidle, fun h => absurd h hm, fun h => absurd h he⟩
  | some i =>
    refine ⟨fun hm he => ?_, fun hm hless => ?_, fun he hless => ?_⟩ <;> simp only [hwants] at *
    · cases (hnone.mpr ⟨hm, he⟩).symm.trans hchoice
    · obtain rfl : VoiceId.main = i := Option.some.inj ((hmain.mpr ⟨hm, hless⟩).symm.trans hchoice)
      exact readsFor_engineWork v .main
    · obtain rfl : VoiceId.echo = i := Option.some.inj ((hecho.mpr ⟨he, hless⟩).symm.trans hchoice)
      exact readsFor_engineWork v .echo

@[simp] theorem dropAttn_reader (v : Vks) : (dropAttn v).reader = v.reader := by
  unfold dropAttn
  split <;> rfl

@[simp] theorem dropAttn_mixer (v : Vks) : (dropAttn v).mixer = v.mixer := by
  unfold dropAttn
  split <;> rfl

@[simp] theorem settleAttn_reader (v : Vks) : (settleAttn v).reader = v.reader := by
  unfold settleAttn
  repeat' split
  all_goals simp

@[simp] theorem settleAttn_mixer (v : Vks) : (settleAttn v).mixer = v.mixer := by
  unfold settleAttn
  repeat' split
  all_goals simp

/-- What follows the readings at an event's end is the timers, ATTN and the lamps. -/
theorem settle_reader (v : Vks) : (settle v).reader = (settleReads (startHeads v)).reader := by
  simp [settle, settleSleepTimer, settleLamps, settleInactivity]

theorem settle_mixer (v : Vks) : (settle v).mixer = (settleReads (startHeads v)).mixer := by
  simp [settle, settleSleepTimer, settleLamps, settleInactivity]

/-- R129: an engine that is IDLE when the event ends is handed to the voice the arbiter chooses. -/
theorem settle_arbiterServes (v : Vks) (hidle : v.reader.engine = .idle) : ArbiterServes (settle v) := by
  have hread : (readAhead .echo (readAhead .main (startHeads v))).reader.engine = .idle :=
    moves_engine_idle ((readAhead_moves _ _).trans ((readAhead_moves _ _).trans (startHeads_moves v))) hidle
  exact arbiterServes_congr (settle_reader v) (congrArg Mixer.sizeInForce (settle_mixer v)) (arbiterServes_startRead _ hread)

end Sys2Proof.EventFrames
end

section
/-! SUPPORT. Reading the bytes of an argument back: fields in front of a rest, and blocks of equal size in a row (01 section 1.5,
08 section 8.1). -/

namespace Sys2Proof.ArgBytes

open Sys2Proof.Machine

/-! ### One field -/

theorem byteAt_append_right (front rest : List Byte) (i : Nat) (h : front.length ≤ i) :
    byteAt (front ++ rest) i = byteAt rest (i - front.length) := by
  simp [byteAt, List.getD_eq_getElem?_getD, List.getElem?_append_right h]

theorem byteAt_append_left (front rest : List Byte) (i : Nat) (h : i < front.length) :
    byteAt (front ++ rest) i = byteAt front i := by
  simp [byteAt, List.getD_eq_getElem?_getD, List.getElem?_append_left h]

theorem byteAt_drop (bs : List Byte) (p i : Nat) : byteAt (bs.drop p) i = byteAt bs (p + i) := by
  simp [byteAt, List.getD_eq_getElem?_getD]

theorem fieldAt_drop (bs : List Byte) (p i n : Nat) : fieldAt (bs.drop p) i n = fieldAt bs (p + i) n := by
  simp [fieldAt, List.drop_drop]

@[simp] theorem byteAt_one_front (x : Nat) (rest : List Byte) : byteAt (leBytes 1 x ++ rest) 0 = x % 256 := by
  simp [leBytes]

@[simp] theorem byteAt_one_only (x : Nat) : byteAt (leBytes 1 x) 0 = x % 256 := by simp [leBytes]

@[simp] theorem byteAt_one_behind (x i : Nat) (rest : List Byte) : byteAt (leBytes 1 x ++ rest) (i + 1) = byteAt rest i := rfl

@[simp] theorem byteAt_two_behind (x i : Nat) (rest : List Byte) : byteAt (leBytes 2 x ++ rest) (i + 2) = byteAt rest i := rfl

@[simp] theorem byteAt_three_behind (x i : Nat) (rest : List Byte) : byteAt (leBytes 3 x ++ rest) (i + 3) = byteAt rest i := rfl

@[simp] theorem fieldAt_one_behind (x i n : Nat) (rest : List Byte) :
    fieldAt (leBytes 1 x ++ rest) (i + 1) n = fieldAt rest i n := rfl

@[simp] theorem fieldAt_two_behind (x i n : Nat) (rest : List Byte) :
    fieldAt (leBytes 2 x ++ rest) (i + 2) n = fieldAt rest i n := rfl

@[simp] theorem fieldAt_cons (b : Byte) (i n : Nat) (rest : List Byte) : fieldAt (b :: rest) (i + 1) n = fieldAt rest i n := rfl

@[simp] theorem fieldAt_leBytes (n x : Nat) (rest : List Byte) : fieldAt (leBytes n x ++ rest) 0 n = x % 256 ^ n :=
  fieldAt_front n x rest

@[simp] theorem fieldAt_only (n x : Nat) : fieldAt (leBytes n x) 0 n = x % 256 ^ n := by
  simpa using fieldAt_front n x []

/-! ### Blocks of equal size -/

/-- Behind `j` blocks of `k` bytes stands block `j`. -/
theorem drop_flatMap_block {α β : Type} (f : α → List β) (k : Nat) (xs : List α) (rest : List β)
    (hk : ∀ x ∈ xs, (f x).length = k) (j : Nat) (hj : j < xs.length) :
    ∃ more, (xs.flatMap f ++ rest).drop (k * j) = f xs[j] ++ more := by
  induction xs generalizing j with
  | nil => simp at hj
  | cons x xs ih =>
    have hx : (f x).length = k := hk x (by simp)
    cases j with
    | zero => exact ⟨xs.flatMap f ++ rest, by simp⟩
    | succ j =>
      obtain ⟨more, hmore⟩ := ih (fun y hy => hk y (List.mem_cons_of_mem _ hy)) j (by simpa using hj)
      refine ⟨more, ?_⟩
      have hsplit : k * (j + 1) = (f x).length + k * j := by rw [hx, Nat.mul_succ, Nat.add_comm]
      rw [List.flatMap_cons, List.append_assoc, hsplit, List.drop_append, List.getElem_cons_succ, ← hmore]
      simp

/-- Reading every block of a row of blocks gives what was written, in order. -/
theorem map_range_blocks {α β : Type} (f : α → List Byte) (k : Nat) (xs : List α) (rest : List Byte) (read : List Byte → β)
    (h : α → β) (hk : ∀ x ∈ xs, (f x).length = k) (hread : ∀ x ∈ xs, ∀ more, read (f x ++ more) = h x) :
    (List.range xs.length).map (fun j => read ((xs.flatMap f ++ rest).drop (k * j))) = xs.map h := by
  refine List.ext_getElem (by simp) fun j hj hj' => ?_
  have hlt : j < xs.length := by simpa using hj
  obtain ⟨more, hmore⟩ := drop_flatMap_block f k xs rest hk j hlt
  simp only [List.getElem_map, List.getElem_range, hmore]
  exact hread _ (List.getElem_mem hlt) more

theorem flatMap_block_length {α : Type} (f : α → List Byte) (k : Nat) (xs : List α) (hk : ∀ x ∈ xs, (f x).length = k) :
    (xs.flatMap f).length = k * xs.length := by
  induction xs with
  | nil => rfl
  | cons x xs ih =>
    rw [List.flatMap_cons, List.length_append, hk x (by simp), ih fun y hy => hk y (List.mem_cons_of_mem _ hy),
      List.length_cons, Nat.mul_succ, Nat.add_comm]

/-- R9: a row of letter codes is read back. -/
theorem bytesAt_of_drop {arg : List Byte} {p : Nat} {xs : List Nat} {rest : List Byte}
    (hdrop : arg.drop p = xs.flatMap (leBytes 1) ++ rest) (h : ∀ x ∈ xs, x < 256) : bytesAt arg p xs.length = xs := by
  have hread := map_range_blocks (leBytes 1) 1 xs rest (fun bs => byteAt bs 0) id (by simp)
    fun x hx more => by simp [Nat.mod_eq_of_lt (h x hx)]
  rw [← hdrop] at hread
  simpa [byteAt_drop, bytesAt] using hread

/-- R9, R11: a row of 2-byte fields is read back. -/
theorem fieldsAt_of_drop {arg : List Byte} {p : Nat} {xs : List Nat} {rest : List Byte}
    (hdrop : arg.drop p = xs.flatMap (leBytes 2) ++ rest) (h : ∀ x ∈ xs, x < 65536) : fieldsAt arg p xs.length = xs := by
  have hread := map_range_blocks (leBytes 2) 2 xs rest (fun bs => fieldAt bs 0 2) id (by simp)
    fun x hx more => by simp [Nat.mod_eq_of_lt (h x hx)]
  rw [← hdrop] at hread
  simpa [fieldAt_drop, fieldsAt] using hread

end Sys2Proof.ArgBytes
end

section
/-! SUPPORT. The downstream slot: how it is judged, read back and dispatched (R164, R165). -/

namespace Sys2Proof.Downstream

open Sys2Proof.Machine Sys2Proof.ArgBytes Sys2Proof.Invariants

/-! ### Judging a slot (R164) -/

/-- A slot of 64 bytes whose check passes is judged by its kind, count and length. -/
theorem decodeSlot_of_check (bs : List Byte) (hlen : bs.length = 64) (hsum : byteSum (bs.take 62) = fieldAt bs 62 2) :
    decodeSlot bs = if 2 < byteAt bs 0 then .error 3
      else if byteAt bs 0 = 0 then .ok .idleSlot
      else if byteAt bs 0 = 1 then
        (if 29 < byteAt bs 1 then .error 4
         else .ok (.audioSlot ((byteAt bs 2).testBit 0) (audioSamples bs (byteAt bs 1))))
      else if 58 < byteAt bs 1 then .error 4
      else .ok (requestOf (bs.getD 2 0#8) (bs.getD 3 0#8) ((bs.drop 4).take (byteAt bs 1))) := by
  rw [decodeSlot, if_neg (by simp [hlen]), if_neg (by simp [hsum])]

/-- Settles O16: the causes of R164 in their order. -/
theorem slotsAreDiscardedByTheFirstCause : Obligations.SlotsAreDiscardedByTheFirstCause := by
  intro bytes
  refine ⟨fun hlen => ?length, fun hlen hsum => ?check, fun hlen hsum hkind => ?kind, fun hlen hsum hcount => ?count,
    fun hlen hsum hidle => ?idle⟩
  case length => rw [decodeSlot, if_pos hlen]
  case check => rw [decodeSlot, if_neg (by simp [hlen]), if_pos hsum]
  case kind => rw [decodeSlot_of_check bytes hlen hsum, if_pos hkind]
  case count =>
    rw [decodeSlot_of_check bytes hlen hsum]
    obtain ⟨hkind, hmany⟩ | ⟨hkind, hlong⟩ := hcount
    · simp [hkind, hmany]
    · simp [hkind, hlong]
  case idle => rw [decodeSlot_of_check bytes hlen hsum, hidle]; rfl

/-! ### Reading a slot back (08 section 8.1) -/

theorem byteAt_withCheck (body : List Byte) (i : Nat) (hi : i < body.length) : byteAt (withCheck body) i = byteAt body i :=
  byteAt_append_left body _ i hi

/-- A body of 62 bytes carries its own check. -/
theorem check_withCheck (body : List Byte) (hlen : body.length = 62) :
    byteSum ((withCheck body).take 62) = fieldAt (withCheck body) 62 2 := by
  have htake : (withCheck body).take 62 = body := by simp [withCheck, ← hlen]
  rw [htake, withCheck, fieldAt_skip _ _ _ _ (by omega), hlen, fieldAt_only]
  exact (Nat.mod_eq_of_lt (byteSum_lt body)).symm

/-- 08 section 8.1: a CONTROL slot is read back as its code, tag and argument. -/
theorem decodeSlot_controlSlot (code tag : Byte) (arg : List Byte) (hfits : arg.length ≤ 58) :
    decodeSlot (controlSlot code tag arg) = .ok (requestOf code tag arg) := by
  have hbody : ([2#8, BitVec.ofNat 8 arg.length, code, tag] ++ padTo 58 arg).length = 62 := by
    simp [padTo_length 58 arg hfits]
  have hlen : (controlSlot code tag arg).length = 64 := by rw [controlSlot, withCheck_length, hbody]
  have hlength : (BitVec.ofNat 8 arg.length).toNat = arg.length := by rw [BitVec.toNat_ofNat]; omega
  rw [decodeSlot_of_check _ hlen (check_withCheck _ hbody)]
  simp [controlSlot, withCheck, hlength, padTo, hfits]

/-- 08 section 8.1: the samples of an AUDIO slot stand two bytes each from byte 4 on. -/
theorem audioSamples_of_drop {bs : List Byte} {samples : List Sample} {rest : List Byte}
    (hdrop : bs.drop 4 = samples.flatMap (fun x => leBytes 2 x.toNat) ++ rest) :
    audioSamples bs samples.length = samples := by
  have hread := map_range_blocks (fun x : Sample => leBytes 2 x.toNat) 2 samples rest
    (fun bs => BitVec.ofNat 16 (fieldAt bs 0 2)) id (by simp) fun x _ more => by
      have hx : x.toNat % 65536 = x.toNat := Nat.mod_eq_of_lt x.isLt
      simp [hx]
  rw [← hdrop] at hread
  simpa [fieldAt_drop, audioSamples] using hread

theorem decodeSlot_audioBytes (last : Bool) (samples : List Sample) (hfits : samples.length ≤ 29) :
    decodeSlot (audioBytes last samples) = .ok (.audioSlot last samples) := by
  have hbytes := Laws.samples_length samples
  have hbody : ([1#8, BitVec.ofNat 8 samples.length, flagByte last, 0#8]
      ++ padTo 58 (samples.flatMap (fun x => leBytes 2 x.toNat))).length = 62 := by
    simp [padTo_length 58 (samples.flatMap (fun x => leBytes 2 x.toNat)) (by omega)]
  have hlen : (audioBytes last samples).length = 64 := by rw [audioBytes, withCheck_length, hbody]
  have hcount : (BitVec.ofNat 8 samples.length).toNat = samples.length := by rw [BitVec.toNat_ofNat]; omega
  have hcount' : byteAt (audioBytes last samples) 1 = samples.length := hcount
  have hlast : (byteAt (audioBytes last samples) 2).testBit 0 = last := by
    show (flagByte last).toNat.testBit 0 = last
    cases last <;> rfl
  have hsamples : audioSamples (audioBytes last samples) samples.length = samples :=
    audioSamples_of_drop (rest := List.replicate (58 - 2 * samples.length) 0#8 ++ _)
      (by simp [audioBytes, withCheck, padTo, hbytes]; rfl)
  have hkind : byteAt (audioBytes last samples) 0 = 1 := rfl
  rw [decodeSlot_of_check _ hlen (check_withCheck _ hbody), hkind, hcount', hlast, hsamples, if_neg (by omega : ¬ 29 < samples.length)]
  rfl

/-- A code no block owns is read as BAD_COMMAND (R165). -/
theorem requestOf_unowned (code tag : Byte) (arg : List Byte) (h : Instr.codeUnowned code = true) :
    requestOf code tag arg = .badCommand code tag arg := by
  unfold requestOf
  split <;> first | rfl | simp_all [Instr.codeUnowned, ownedCodes]

theorem tableGetOf_selects (tag : Byte) (arg : List Byte) :
    tableGetOf tag arg = if Instr.selects 1 arg then .tableGetKeymap tag arg
      else if Instr.selects 2 arg then .tableGetResponses tag arg else .tableGetAlphabet tag arg := by
  simp [tableGetOf, Instr.selects]

/-- 08 section 8.5: a well-formed request is the request of its code. -/
theorem requestOf_of_parts (i : Instr) (code tag : Byte) (arg : List Byte) (hparts : requestParts i = some (code, tag, arg))
    (hwf : i.wf = true) : requestOf code tag arg = i ∧ arg.length ≤ 58 := by
  have hfits (h : Instr.argFits arg = true) : arg.length ≤ 58 := of_decide_eq_true h
  cases i with
  | badCommand =>
    cases hparts
    obtain ⟨hcode, harg⟩ := Bool.and_eq_true_iff.mp hwf
    exact ⟨requestOf_unowned code tag arg hcode, hfits harg⟩
  | tableGetAlphabet =>
    cases hparts
    obtain ⟨⟨harg, hone⟩, htwo⟩ := by simpa only [Instr.wf, Bool.and_eq_true, Bool.not_eq_true'] using hwf
    exact ⟨(tableGetOf_selects tag arg).trans (by rw [hone, htwo]; rfl), hfits harg⟩
  | tableGetKeymap =>
    cases hparts
    have hone : Instr.selects 1 arg = true := hwf
    exact ⟨(tableGetOf_selects tag arg).trans (by rw [hone]; rfl), hfits (Laws.selects_fits 1 arg hone)⟩
  | tableGetResponses =>
    cases hparts
    have htwo : Instr.selects 2 arg = true := hwf
    have hone : Instr.selects 1 arg = false := by
      simp only [Instr.selects, Bool.and_eq_true, decide_eq_true_eq] at htwo
      simp [Instr.selects, htwo.2]
    exact ⟨(tableGetOf_selects tag arg).trans (by rw [hone, htwo]; rfl), hfits (Laws.selects_fits 2 arg htwo)⟩
  | _ => first | (cases hparts; exact ⟨rfl, hfits hwf⟩) | cases hparts

theorem encodeSlot_of_request (i : Instr) (bytes : List Byte) (hidle : i ≠ .idleSlot)
    (haudio : ∀ last samples, i ≠ .audioSlot last samples) (h : encodeSlot i = some bytes) :
    ∃ code tag arg, requestParts i = some (code, tag, arg) ∧ bytes = controlSlot code tag arg := by
  unfold encodeSlot at h
  split at h
  · exact absurd rfl hidle
  · exact absurd rfl (haudio _ _)
  · obtain ⟨⟨code, tag, arg⟩, hparts, rfl⟩ := Option.map_eq_some_iff.mp h
    exact ⟨code, tag, arg, hparts, rfl⟩

/-- Settles O18: IDLE and AUDIO slots are read back field by field, a CONTROL slot by its code. -/
theorem decodeReadsBackEverySlotCommand : Obligations.DecodeReadsBackEverySlotCommand := by
  intro i bytes hwf hbytes
  by_cases hidle : i = .idleSlot
  · subst hidle
    cases hbytes
    decide
  by_cases haudio : ∃ last samples, i = .audioSlot last samples
  · obtain ⟨last, samples, rfl⟩ := haudio
    cases hbytes
    exact decodeSlot_audioBytes last samples (of_decide_eq_true hwf)
  obtain ⟨code, tag, arg, hparts, rfl⟩ :=
    encodeSlot_of_request i bytes hidle (fun last samples h => haudio ⟨last, samples, h⟩) hbytes
  obtain ⟨hrequest, hfits⟩ := requestOf_of_parts i code tag arg hparts hwf
  rw [decodeSlot_controlSlot code tag arg hfits, hrequest]

/-! ### Dispatching a slot (R165) -/

theorem tableGetOf_isSlot (tag : Byte) (arg : List Byte) : (encodeSlot (tableGetOf tag arg)).isSome = true := by
  rw [tableGetOf_selects]
  repeat' split
  all_goals rfl

theorem requestOf_isSlot (code tag : Byte) (arg : List Byte) : (encodeSlot (requestOf code tag arg)).isSome = true := by
  unfold requestOf
  split <;> first | rfl | exact tableGetOf_isSlot tag arg

/-- A taken slot has 64 bytes and is a slot command. -/
theorem decodeSlot_ok (bytes : List Byte) (i : Instr) (h : decodeSlot bytes = .ok i) :
    bytes.length = 64 ∧ (encodeSlot i).isSome = true := by
  by_cases hlen : bytes.length = 64
  · refine ⟨hlen, ?_⟩
    unfold decodeSlot at h
    repeat' split at h
    all_goals cases h
    · rfl
    · rfl
    · exact requestOf_isSlot _ _ _
  · rw [decodeSlot, if_pos hlen] at h
    cases h

theorem transactionEnd_of_open (bytes : List Byte) (x : Transaction) (v : Vks) (hopen : v.port.txn = some x) :
    transactionEnd bytes v = settle (restartSleepTimer (judgeSlot bytes
      (closeTransaction (if bytes.length = 64 then deliver x v else takeBack x v)))) := by
  rw [transactionEnd, hopen]

theorem exec_transactionEnd (bytes : List Byte) (s : State) :
    exec (.transactionEnd bytes) s = .next (withPart s (transactionEnd bytes s.vks)) := rfl

/-- Settles O17: a taken slot has 64 bytes, so its records are delivered, and its effect is its row's. -/
theorem transactionEndRunsTheSlotsRow : Obligations.TransactionEndRunsTheSlotsRow := by
  intro s bytes i x hopen hok
  obtain ⟨hlen, hslot⟩ := decodeSlot_ok bytes i hok
  refine ⟨_, _, exec_transactionEnd bytes s, exec_of_slot i _ hslot, ?_⟩
  rw [transactionEnd_of_open bytes x s.vks hopen, if_pos hlen, judgeSlot, hok]
  rfl

end Sys2Proof.Downstream
end

section
/-! SUPPORT. The slots that reach no block (R165), discarded slots (R164, R166, R168), the slots that wake a sleeping part (R193),
and the slot a transaction composes and sends (R164, R166 to R170). -/

namespace Sys2Proof.LinkSlots

open Sys2Proof.Machine Sys2Proof.EventMoves Sys2Proof.EventFrames Sys2Proof.Invariants Sys2Proof.SleepQuiet
open Sys2Proof.Downstream

/-! ### Slots that reach no block -/

/-- Settles O6: an IDLE slot is the reply NONE and the end of an event; BAD_COMMAND is an answer and nothing else. -/
theorem slotsThatReachNoBlock : Obligations.SlotsThatReachNoBlock := by
  refine ⟨fun s hawake => ?idle, fun s code tag arg hawake hfits => ?bad⟩
  case idle =>
    have hrow : exec .idleSlot s = .next (withPart s (settle (setReplyNone s.vks))) := by
      show Host.Outcome.next (withPart s (settle (setReplyNone (wakeByLink s.vks)))) = _
      rw [wakeByLink_awake s.vks hawake]
    exact ⟨_, hrow, rfl, rfl, settle_untouched _, settle_arbiterServes (setReplyNone s.vks)⟩
  case bad =>
    exact Link.exec_request_awake _ code tag arg handleBadCommand s rfl hawake hfits

/-! ### Discarded slots -/

/-- With nothing waiting and both voices IDLE the end of an event raises no notice. -/
theorem settle_port_of_silent (v : Vks) (hmain : v.reader.mainVoice.state = .idle)
    (hecho : v.reader.echoVoice.state = .idle) (hqueue : v.sched.queue = []) (hline : v.sched.echoLine = none) :
    (settle v).port = v.port := by
  unfold settle
  rw [settleReads_startHeads_of_silent v hmain hecho hqueue hline]
  unfold settleAttn dropAttn
  repeat' split
  all_goals rfl

/-- A transaction whose slot is discarded: delivery, the cause in the reply, and the end of the event. -/
theorem transactionEnd_discarded (bytes : List Byte) (cause : Nat) (x : Transaction) (v : Vks) (hopen : v.port.txn = some x)
    (hcause : decodeSlot bytes = .error cause) : transactionEnd bytes v = settle (restartSleepTimer (discardSlot cause
      (closeTransaction (if bytes.length = 64 then deliver x v else takeBack x v)))) := by
  rw [transactionEnd_of_open bytes x v hopen, judgeSlot, hcause]

/-- Settles O15: a discard changes the reply and the latches, and the end of the event only adds notices. -/
theorem discardedSlotDeliversBy64Bytes : Obligations.DiscardedSlotDeliversBy64Bytes := by
  intro s bytes cause x hopen hcause held quiet
  refine ⟨_, exec_transactionEnd bytes s, rfl, rfl, ?_⟩
  simp only [withPart, transactionEnd_discarded bytes cause x s.vks hopen hcause]
  by_cases hlen : bytes.length = 64
  · rw [if_pos hlen]
    generalize hv : restartSleepTimer (discardSlot cause (closeTransaction (deliver x s.vks))) = v
    obtain ⟨hjoined, hlost⟩ := settle_join v
    have hend := settle_untouched v
    have hsilent := settle_port_of_silent v
    subst hv
    refine ⟨hend.txn, hend.badSlot, hend.reply, fun _ => ⟨congrArg KeyUnit.reports hend.keys, hjoined, hend.underrun,
      hend.overrun, hend.keyLost, hlost, fun hq => ?_⟩, fun h => absurd hlen h, hend.words, hend.ctx, hend.lesson,
      hend.samples, hend.params⟩
    obtain ⟨hmain, hecho, hqueue, hline⟩ := hq
    rw [hsilent hmain hecho hqueue hline]
    rfl
  · rw [if_neg hlen]
    generalize hv : restartSleepTimer (discardSlot cause (closeTransaction (takeBack x s.vks))) = v
    obtain ⟨hjoined, hlost⟩ := settle_join v
    have hend := settle_untouched v
    have hsilent := settle_port_of_silent v
    subst hv
    refine ⟨hend.txn, hend.badSlot, hend.reply, fun h => absurd h hlen, fun _ => ⟨congrArg KeyUnit.reports hend.keys,
      hjoined, hend.underrun, hend.overrun, hend.keyLost, fun h => hlost (Bool.or_eq_true_iff.mpr h), fun hq => ?_⟩,
      hend.words, hend.ctx, hend.lesson, hend.samples, hend.params⟩
    obtain ⟨hmain, hecho, hqueue, hline⟩ := hq
    rw [hsilent hmain hecho hqueue hline]
    rfl

/-! ### Waking (R193) -/

/-- R193: what a wake raises and tests leaves ATTN to the end of the event. -/
theorem wake_attn (cause : Nat) (v : Vks) :
    (wake cause v).notices.attn = v.notices.attn ∧ (wake cause v).notices.attnGap = v.notices.attnGap := by
  have hraise := moves_attn (raiseNotice_moves (.wake cause)
    { v with power := { v.power with asleep := false }, mixer := { v.mixer with i2s := I2s.frame 0 } })
  have htest := moves_attn (testPlayout_moves (restartSleepTimer (newClipWindow (raiseNotice (.wake cause)
    { v with power := { v.power with asleep := false }, mixer := { v.mixer with i2s := I2s.frame 0 } }))))
  exact ⟨htest.1.trans hraise.1, htest.2.trans hraise.2⟩

/-- R193: WAKE is the first notice of the wake. -/
theorem wake_raises (cause : Nat) {a v : Vks} (h : NoticesJoin a (wake cause v)) (hroom : v.notices.queue.length < 16) :
    ∃ later, a.notices.queue = v.notices.queue ++ .wake cause :: later := by
  have htest : NoticesJoin (wake cause v) (raiseNotice (.wake cause)
      { v with power := { v.power with asleep := false }, mixer := { v.mixer with i2s := I2s.frame 0 } }) := by
    obtain ⟨hjoined, hlost⟩ := moves_join (l := 0) (testPlayout_moves (restartSleepTimer (newClipWindow (raiseNotice (.wake cause)
      { v with power := { v.power with asleep := false }, mixer := { v.mixer with i2s := I2s.frame 0 } }))))
    exact ⟨hjoined, hlost⟩
  exact (h.trans htest).raised _ hroom

/-- R193, log 6: a slot row does on a sleeping part what it does on the part that has woken. -/
theorem exec_wakeByLink (i : Instr) (s : State) (hslot : (encodeSlot i).isSome) :
    exec i s = exec i (withPart s (wakeByLink s.vks)) := by
  rw [exec_of_slot i s hslot, exec_of_slot i _ hslot, slotEffect_wakeByLink i s.vks hslot]
  rfl

theorem wakeByLink_asleep (v : Vks) (h : v.power.asleep = true) : wakeByLink v = settle (wake 2 v) := if_pos h

theorem transactionBegin_released (v : Vks) (hreleased : v.port.txn = none) :
    transactionBegin v = settle (dropAttn (openTransaction (if v.power.asleep then wake 2 v else v))) := by
  rw [transactionBegin, hreleased]
  rfl

/-- R193: a transaction that begins composes its slot on the part that has woken. -/
theorem transactionBegin_wake (v : Vks) (hreleased : v.port.txn = none) (hasleep : v.power.asleep = true) :
    transactionBegin v = transactionBegin (wake 2 v) := by
  have htxn : (wake 2 v).port.txn = none := (wake_untouched 2 v).txn.trans hreleased
  rw [transactionBegin_released v hreleased, transactionBegin_released _ htxn, hasleep, wake_active]
  rfl

theorem isSlot_of_mem {c : Instr} {cs : List Instr} (hc : c ∈ cs) (hslots : cs.all (fun c => (encodeSlot c).isSome) = true) :
    (encodeSlot c).isSome = true := List.all_eq_true.mp hslots c hc

/-- Settles O14: the woken part is what every slot and every transaction then acts on. -/
theorem slotsWakeASleepingPart : Obligations.SlotsWakeASleepingPart := by
  intro s hasleep woken
  have hsleep : s.vks.power.asleep = true := by simpa [Awake] using hasleep
  have hwoken := wake_untouched 2 s.vks
  refine ⟨⟨withPart s (wakeByLink s.vks), wakeByLink_active _, rfl, rfl, ?_, ?_, ?_, fun last samples => ?_,
    fun code tag arg c hc => ?_⟩, fun hreleased => ⟨withPart s (wake 2 s.vks), wake_active 2 _, rfl, rfl, hwoken,
      (wake_attn 2 _).1, (wake_attn 2 _).2, wake_raises 2 (.refl _), ?_⟩⟩
  · rw [wakeByLink_asleep s.vks hsleep]
    exact (settle_untouched _).trans hwoken
  · rw [wakeByLink_asleep s.vks hsleep]
    exact wake_raises 2 (settle_join _)
  · exact exec_wakeByLink .idleSlot s rfl
  · exact exec_wakeByLink (.audioSlot last samples) s rfl
  · exact exec_wakeByLink c s (isSlot_of_mem hc rfl)
  · show Host.Outcome.next (withPart s (transactionBegin s.vks)) = .next (withPart s (transactionBegin (wake 2 s.vks)))
    rw [transactionBegin_wake s.vks hreleased hsleep]

end Sys2Proof.LinkSlots
end

section
/-! SUPPORT. The upstream slot: what a transaction composes, offers and sends (R164, R166 to R170, R181). -/

namespace Sys2Proof.Upstream

open Sys2Proof.Machine Sys2Proof.EventMoves Sys2Proof.EventFrames Sys2Proof.LinkSlots Sys2Proof.ArgBytes

/-! ### ATTN while LNK_SEL is asserted (R181) -/

theorem startRead_notices (v : Vks) : (startRead v).notices = v.notices := by
  unfold startRead
  repeat' split
  all_goals rfl

theorem settleReads_startHeads_attn (v : Vks) : (settleReads (startHeads v)).notices.attn = v.notices.attn
    ∧ (settleReads (startHeads v)).notices.attnGap = v.notices.attnGap := by
  rw [settleReads, startRead_notices]
  exact moves_attn ((readAhead_moves _ _).trans ((readAhead_moves _ _).trans (startHeads_moves v)))

/-- R181: ATTN is looked at only with LNK_SEL released. -/
theorem settle_attn_of_open (v : Vks) (hopen : v.port.txn.isSome = true) :
    (settle v).notices.attn = v.notices.attn ∧ (settle v).notices.attnGap = v.notices.attnGap := by
  have hreads : Untouched (settleInactivity (settleReads (startHeads v))) v :=
    (settleInactivity_untouched _).trans ((settleReads_untouched _).trans (startHeads_untouched v))
  have hstays : settleAttn (settleInactivity (settleReads (startHeads v))) = settleInactivity (settleReads (startHeads v)) := by
    rw [settleAttn, hreads.txn, if_pos hopen]
  have hreading := settleReads_startHeads_attn v
  simp only [settle, settleSleepTimer, settleLamps, hstays]
  simpa only [settleInactivity] using hreading

/-- R181: a fall of ATTN starts the gap timer, a gap of 0 being over at once. -/
theorem dropAttn_attn (v : Vks) : (dropAttn v).notices.attn = false
    ∧ (v.notices.attn = true → (dropAttn v).notices.attnGap = if v.params.attnGap = 0 then none else some v.params.attnGap)
    ∧ (v.notices.attn = false → (dropAttn v).notices.attnGap = v.notices.attnGap) := by
  unfold dropAttn
  cases hattn : v.notices.attn <;> simp [hattn]

/-! ### Composing (R166 to R170) -/

theorem composeSlot_eq (v : Vks) : composeSlot v = withCheck (v.statusSummary
    ++ [v.port.reply.code, v.port.reply.tag, BitVec.ofNat 8 v.port.reply.result.code,
      BitVec.ofNat 8 v.port.reply.bulk.length] ++ v.port.reply.data ++ recordsArea v) := by
  simp [composeSlot, replyField, leBytes]

theorem KeyReport_bytes_length (r : KeyReport) : r.bytes.length = 8 := by simp [KeyReport.bytes]

theorem Notice_bytes_length (n : Notice) : n.bytes.length = 8 := by
  cases n <;> simp [Notice.bytes, Notice.body, padTo]

theorem statusSummary_length (v : Vks) : v.statusSummary.length = 6 := by simp [Vks.statusSummary]

/-- R170: with no bulk the records area offers up to six records, key reports first. -/
theorem recordsArea_of_no_bulk (v : Vks) (hbulk : v.port.reply.bulk = []) :
    recordsArea v = padTo 48 ((v.keys.reports.take 6).flatMap KeyReport.bytes
      ++ (v.notices.queue.take (6 - (v.keys.reports.take 6).length)).flatMap Notice.bytes) := by
  have hreports : offeredReports v = min 6 v.keys.reports.length := by simp [offeredReports, hbulk]
  have hnotices : offeredNotices v = min (6 - offeredReports v) v.notices.queue.length := by simp [offeredNotices, hbulk]
  rw [recordsArea, if_neg (by simp [hbulk]), hnotices, hreports, List.length_take, ← List.take_eq_take_min,
    ← List.take_eq_take_min]

theorem recordsArea_of_bulk (v : Vks) (hbulk : v.port.reply.bulk ≠ []) : recordsArea v = padTo 48 v.port.reply.bulk := by
  rw [recordsArea, if_pos hbulk]

theorem recordsArea_length (v : Vks) (hbulk : v.port.reply.bulk.length ≤ 48) : (recordsArea v).length = 48 := by
  by_cases hempty : v.port.reply.bulk = []
  · rw [recordsArea_of_no_bulk v hempty]
    refine padTo_length 48 _ ?_
    rw [List.length_append, flatMap_block_length KeyReport.bytes 8 _ (fun r _ => KeyReport_bytes_length r),
      flatMap_block_length Notice.bytes 8 _ (fun n _ => Notice_bytes_length n)]
    simp only [List.length_take]
    omega
  · rw [recordsArea_of_bulk v hempty]
    exact padTo_length 48 _ hbulk

theorem composeSlot_length (v : Vks) (hreply : ReplyFits v) (hbulk : v.port.reply.bulk.length ≤ 48) :
    (composeSlot v).length = 64 := by
  have hdata : v.port.reply.data.length = 4 := hreply
  rw [composeSlot_eq, withCheck_length]
  simp [statusSummary_length, recordsArea_length v hbulk, hdata]

/-! ### The wire (R164) -/

/-- R164: the slot goes out byte by byte, and 0 beyond byte 63. -/
theorem padTo_take_slot (slot : List Byte) (n : Nat) (hlen : slot.length = 64) :
    padTo n (slot.take (min n 64)) = (slot ++ List.replicate n 0#8).take n := by
  by_cases hn : n ≤ 64
  · have hslot : (slot.take n).length = n := by simp [hlen, hn]
    rw [Nat.min_eq_left hn, List.take_append_of_le_length (by omega), padTo, hslot, Nat.sub_self]
    simp
  · have hall : slot.take (min n 64) = slot := List.take_of_length_le (by omega)
    rw [hall, padTo, List.take_append, List.take_of_length_le (by omega : slot.length ≤ n), List.take_replicate]
    congr 2
    omega

/-- R164: bit `j` of byte `i` on the wire, most significant first. -/
theorem wireBits_getElem (bs : List Byte) (i j : Nat) (hi : i < bs.length) (hj : j < 8) :
    (wireBits bs)[8 * i + j]? = some ((bs.getD i 0#8).getLsbD (7 - j)) := by
  obtain ⟨more, hmore⟩ := drop_flatMap_block (fun b : Byte => (List.range 8).map b.getMsbD) 8 bs [] (by simp) i hi
  rw [List.append_nil] at hmore
  have hbyte : bs.getD i 0#8 = bs[i] := by simp [List.getD_eq_getElem?_getD, hi]
  have hbit : (bs[i]).getMsbD j = (bs[i]).getLsbD (7 - j) := by simp [BitVec.getMsbD_eq_getLsbD, hj]
  rw [wireBits, ← List.getElem?_drop, hmore, List.getElem?_append_left (by simpa using hj), hbyte, ← hbit]
  simp [hj]

/-! ### The status summary (R167) -/

theorem bitsValue_eight (b0 b1 b2 b3 b4 b5 b6 b7 : Bool) :
    bitsValue [b0, b1, b2, b3, b4, b5, b6, b7] = (([(0, b0), (1, b1), (2, b2), (3, b3), (4, b4), (5, b5), (6, b6), (7, b7)]
      : List (Nat × Bool)).map (fun x => if x.2 then 2 ^ x.1 else 0)).sum := by
  have hbit (b : Bool) (n : Nat) : (if b = true then n else 0) = n * b.toNat := by cases b <;> simp
  simp only [bitsValue, List.map_cons, List.map_nil, List.sum_cons, List.sum_nil, hbit]
  ring

theorem storeLink_eq (v : Vks) :
    v.storeLink = decide (v.reader.store = .claimPending ∨ v.reader.store = .claimed) := by
  rw [Bool.decide_or]
  rfl

theorem lowFlag_eq (v : Vks) : v.lowFlag = decide (v.mixer.playing = true
    ∧ v.mixer.samples.length < v.params.playoutMark ∧ v.mixer.endMark = false) := by
  simp [Vks.lowFlag, Bool.decide_and, Bool.and_assoc]

theorem flagsA_eq (v : Vks) : v.flagsA = (([(0, decide (v.reader.mainVoice.state ≠ .idle)),
    (1, decide (v.reader.echoVoice.state ≠ .idle)), (2, decide (v.mixer.hostGain ≠ v.params.hostLevel)),
    (3, v.mixer.clipCurrent || v.mixer.clipLast), (4, v.mixer.clipSeen),
    (5, decide (v.reader.store = .claimPending ∨ v.reader.store = .claimed)), (6, decide (v.power.amp = .on)),
    (7, decide (v.mixer.playing = true ∧ v.mixer.samples.length < v.params.playoutMark ∧ v.mixer.endMark = false))]
    : List (Nat × Bool)).map (fun x => if x.2 then 2 ^ x.1 else 0)).sum := by
  rw [Vks.flagsA, bitsValue_eight, storeLink_eq, lowFlag_eq]
  rfl

/-- A transaction that begins in a part that is awake: its slot is composed, ATTN drops, and the event ends. -/
theorem transactionBegin_awake (v : Vks) (hawake : v.power.asleep = false) (hreleased : v.port.txn = none) :
    ∃ t, transactionBegin v = t ∧ Untouched t (openTransaction v) ∧ t.notices.attn = false
      ∧ (v.notices.attn = true → t.notices.attnGap = if v.params.attnGap = 0 then none else some v.params.attnGap)
      ∧ (v.notices.attn = false → t.notices.attnGap = v.notices.attnGap) := by
  have hend : Untouched (settle (dropAttn (openTransaction v))) (openTransaction v) :=
    (settle_untouched _).trans (dropAttn_untouched _)
  have hopen : (dropAttn (openTransaction v)).port.txn.isSome = true := by
    rw [(dropAttn_untouched _).txn]
    rfl
  obtain ⟨hattn, hgap⟩ := settle_attn_of_open _ hopen
  obtain ⟨hfallen, hstarts, hkept⟩ := dropAttn_attn (openTransaction v)
  refine ⟨_, ?_, hend, hattn.trans hfallen, fun h => hgap.trans (hstarts h), fun h => hgap.trans (hkept h)⟩
  rw [transactionBegin_released v hreleased, hawake]
  rfl

/-- Settles O13: the slot is composed as the part stands, the end of the event keeps it and what it offers, and the codes
and records are read off their definitions. -/
theorem transactionBeginComposesTheSlot : Obligations.TransactionBeginComposesTheSlot := by
  refine ⟨fun s hawake hreleased hreply => ?begins, fun v n bs => ⟨fun hreleased => ?released, fun hsent => ?sends⟩,
    fun v => ?summary, fun r => ?report, fun w x y z p q n tag => ?notices, rfl, rfl, rfl, rfl⟩
  case begins =>
    obtain ⟨t, hrow, hend, hattn, hstarts, hkept⟩ := transactionBegin_awake s.vks hawake hreleased
    have hslot : t.port.upstream = composeSlot s.vks := hend.upstream
    have hexec : exec .transactionBegin s = .next (withPart s t) := congrArg (fun v => Host.Outcome.next (withPart s v)) hrow
    refine ⟨_, hexec, rfl, rfl, ⟨recordsArea s.vks, hslot.trans (composeSlot_eq s.vks), fun hbulk => ⟨?_, ?_⟩,
      recordsArea_of_bulk s.vks⟩, fun hbulk n => ?_, ⟨_, hend.txn, rfl, fun hbulk => ?_, fun hbulk => ?_⟩, hend.underrun,
      hend.overrun, hend.keyLost, hend.badSlot, hattn, hstarts, hkept, hend.reply, hend.resetSeen, hend.words, hend.ctx, hend.lesson, hend.keys, hend.samples,
      hend.params⟩
    · exact (congrArg List.length hslot).trans (composeSlot_length s.vks hreply (by simp [hbulk]))
    · exact recordsArea_of_no_bulk s.vks hbulk
    · have htxn : t.port.txn = some ⟨offeredReports s.vks, offeredNotices s.vks, s.vks.port.latches⟩ := hend.txn
      simp only [withPart, sentUpstream, htxn, hslot, Option.map_some]
      rw [padTo_take_slot _ n (composeSlot_length s.vks hreply hbulk)]
    · simp [offeredReports, offeredNotices, hbulk]
    · simp [offeredReports, offeredNotices, hbulk]
  case released =>
    have hnone := sentUpstream_released n v hreleased
    exact ⟨hnone, by rw [lnkOut, hnone]; rfl⟩
  case sends =>
    have hlen := sentUpstream_length n v bs hsent
    refine ⟨hlen, wireBits bs, by rw [lnkOut, hsent]; rfl, by rw [wireBits_length, hlen], fun i j hi hj => ?_⟩
    exact wireBits_getElem bs i j (by omega) hj
  case summary =>
    simp only
    rw [Vks.statusSummary, flagsA_eq, Vks.flagsB, bitsValue_eight, List.append_assoc, List.append_assoc, List.append_assoc]
    rfl
  case report =>
    obtain ⟨event, position, entry, disposition, time⟩ := r
    cases event <;> rfl
  case notices => exact ⟨rfl, rfl, rfl, rfl, rfl, rfl, rfl, rfl, rfl, rfl, rfl, rfl, rfl, rfl, rfl, rfl⟩

end Sys2Proof.Upstream
end

section
/-! SUPPORT. RESET and STREAM RESTART (R175, R160), and the values a SET uses (R172). -/

namespace Sys2Proof.Resets

open Sys2Proof.Machine Sys2Proof.EventMoves Sys2Proof.EventFrames Sys2Proof.SleepQuiet

/-! ### A reply does not reach the other blocks -/

theorem replying_outside {a b : Vks} (code tag : Byte) (r : Result) (data bulk : List Byte) (h : OutsideAttempt a b) :
    OutsideAttempt (replying code tag r data bulk a) (replying code tag r data bulk b) := by
  obtain ⟨⟩ := h
  constructor <;> first | rfl | assumption

theorem replying_untouched {a b : Vks} (code tag : Byte) (r : Result) (data bulk : List Byte) (h : Untouched a b) :
    Untouched (replying code tag r data bulk a) (replying code tag r data bulk b) := by
  obtain ⟨⟩ := h
  constructor <;> first | rfl | assumption

/-! ### RESET -/

/-- A part without records has no reason for ATTN (R181). -/
theorem settleAttn_of_no_records (v : Vks) (hreports : v.keys.reports = []) (hqueue : v.notices.queue = [])
    (hattn : v.notices.attn = false) : settleAttn v = v := by
  have hreason : v.attnReason = false := by simp [Vks.attnReason, hreports, hqueue]
  simp [settleAttn, dropAttn, hreason, hattn]

/-- After RESET the end of the event only looks at timers and lamps. -/
theorem settle_resetPart (v : Vks) :
    settle (resetPart v) = settleSleepTimer (settleLamps (settleInactivity (resetPart v))) := by
  rw [settle, settleReads_startHeads_of_silent (resetPart v) rfl rfl rfl rfl,
    settleAttn_of_no_records (settleInactivity (resetPart v)) rfl rfl rfl]

/-- Settles O3: the blocks RESET leaves, written out, and an end of the event with nothing to start. -/
theorem resetKeepsTablesAndEmptiesTheRest : Obligations.ResetKeepsTablesAndEmptiesTheRest := by
  intro s tag hawake
  have hrow := Link.exec_request_awake (.reset tag []) 0x02#8 tag [] handleReset s rfl hawake (Nat.zero_le _)
  rw [handleReset, withoutArgument_nil, settle_resetPart] at hrow
  refine ⟨_, hrow, ?_⟩
  repeat' constructor

/-! ### STREAM RESTART -/

/-- With nothing outstanding the ends of utterances only raise notices (R22, R103). -/
theorem reportEnds_of_none_outstanding (o : UttOutcome) (us : List Utterance) (v : Vks)
    (hnone : v.attempt.ctx.outstanding = []) : (reportEnds o us v).attempt = v.attempt ∧ (reportEnds o us v).sched = v.sched
      ∧ (reportEnds o us v).reader = v.reader := by
  induction us generalizing v with
  | nil => exact ⟨rfl, rfl, rfl⟩
  | cons u us ih =>
    have hend : (reportEnd o v u).attempt = v.attempt ∧ (reportEnd o v u).sched = v.sched
        ∧ (reportEnd o v u).reader = v.reader := by
      unfold reportEnd raiseNotice endReport
      repeat' split
      all_goals simp_all
    obtain ⟨hattempt, hsched, hreader⟩ := hend
    obtain ⟨ha, hs, hr⟩ := ih (reportEnd o v u) (by rw [hattempt, hnone])
    exact ⟨ha.trans hattempt, hs.trans hsched, hr.trans hreader⟩

/-- The part as STREAM RESTART leaves it before the ends are reported. -/
def streamEmptied (v : Vks) : Vks := newClipWindow (openEnvelope (restartBuffer (stopVoices v).2))

theorem restartStream_eq (v : Vks) :
    restartStream v = settle (startHeads (reportEnds .cut (stopVoices v).1 (streamEmptied v))) := rfl

theorem restartStream_outside (v : Vks) : OutsideAttempt (restartStream v) (streamEmptied v) :=
  (settle_untouched _).outside.trans ((startHeads_untouched _).outside.trans (reportEnds_outside _ _ _))

theorem restartStream_moves (v : Vks) : Moves 1 1 (restartStream v) (streamEmptied v) := by
  rw [restartStream_eq]
  exact (settle_moves _).trans ((startHeads_moves _).trans (reportEnds_moves _ _ _))

/-- An empty buffer is started by nothing that follows in the event. -/
theorem restartStream_stopped (v : Vks) : (restartStream v).mixer.playing = false := by
  have hsteady := moves_ampSteady (restartStream_moves v)
  rw [hsteady.notReady (by simp [streamEmptied, newClipWindow, openEnvelope, restartBuffer])]
  rfl

theorem settle_reader_of_silent (v : Vks) (hmain : v.reader.mainVoice.state = .idle)
    (hecho : v.reader.echoVoice.state = .idle) (hqueue : v.sched.queue = []) (hline : v.sched.echoLine = none) :
    (settle v).reader = v.reader := by
  rw [settle_reader, settleReads_startHeads_of_silent v hmain hecho hqueue hline]

theorem restartStream_voices (v : Vks) (hnone : v.attempt.ctx.outstanding = []) (hqueue : v.sched.queue = [])
    (hline : v.sched.echoLine = none) :
    (restartStream v).reader.mainVoice = Voice.idle ∧ (restartStream v).reader.echoVoice = Voice.idle := by
  obtain ⟨-, hsched, hreader⟩ := reportEnds_of_none_outstanding .cut (stopVoices v).1 (streamEmptied v) hnone
  have hq : (reportEnds .cut (stopVoices v).1 (streamEmptied v)).sched.queue = [] := by rw [hsched]; exact hqueue
  have hl : (reportEnds .cut (stopVoices v).1 (streamEmptied v)).sched.echoLine = none := by rw [hsched]; exact hline
  have hm : (reportEnds .cut (stopVoices v).1 (streamEmptied v)).reader.mainVoice = Voice.idle := by rw [hreader]; rfl
  have he : (reportEnds .cut (stopVoices v).1 (streamEmptied v)).reader.echoVoice = Voice.idle := by rw [hreader]; rfl
  rw [restartStream_eq, startHeads_of_nothing_waiting _ hq hl,
    settle_reader_of_silent _ (by rw [hm]; rfl) (by rw [he]; rfl) hq hl]
  exact ⟨hm, he⟩

theorem streamEmptied_outside (v : Vks) : OutsideAttempt (streamEmptied v) { v with
    params := { v.params with playoutMark := min v.params.playoutMark v.params.playoutSize }
    mixer := { v.mixer with
      sizeInForce := v.params.playoutSize, samples := [], endMark := false
      hostGain := v.params.hostLevel, envelope := .opened, holdCount := 0
      clipCurrent := false, clipLast := false, windowCount := 0 } } := by
  constructor <;> rfl

/-- Settles O4: the stream is emptied field by field, and neither the ends nor the end of the event reach what it set. -/
theorem streamRestartEmptiesTheStream : Obligations.StreamRestartEmptiesTheStream := by
  intro s tag hawake
  have hrow := Link.exec_request_awake (.streamRestart tag []) 0x03#8 tag [] handleStreamRestart s rfl hawake (Nat.zero_le _)
  rw [handleStreamRestart, withoutArgument_nil, setReply_eq _ _ _ _ rfl] at hrow
  have hframe := (restartStream_outside s.vks).trans (streamEmptied_outside s.vks)
  have hstopped := restartStream_stopped s.vks
  have hvoices := restartStream_voices s.vks
  generalize restartStream s.vks = t at hrow hframe hstopped hvoices
  exact ⟨_, hrow, rfl, rfl, replying_outside _ _ _ _ _ hframe, hstopped, hvoices⟩

end Sys2Proof.Resets
end

section
/-! SUPPORT. The AUDIO slot (R147, R148, R149) and the values and effects of SET (R172). -/

namespace Sys2Proof.AudioAndSet

open Sys2Proof.Machine Sys2Proof.EventMoves Sys2Proof.EventFrames Sys2Proof.Resets

/-! ### The values used (R172, section 8.6) -/

theorem clamp_cases (lo hi x : Nat) :
    (x < lo → clamp lo hi x = lo) ∧ (lo ≤ x → x ≤ hi → clamp lo hi x = x) ∧ (hi < x → lo ≤ hi → clamp lo hi x = hi) := by
  unfold clamp
  grind

theorem paramUsed_of_range {v : Vks} {id lo hi : Nat} (h : paramRange v id = some (lo, hi)) (x : Nat) :
    paramUsed v id x = clamp lo hi x := by
  rw [paramUsed, h]

/-- Settles O11: a parameter with a range is clamped to it; the others have their own rule. -/
theorem valuesUsedAreClampedToTheirRanges : Obligations.ValuesUsedAreClampedToTheirRanges := by
  refine ⟨fun v id lo hi x hmem => ?ranges, fun v x => ?size, fun v x => ?inactivity, fun v x => ⟨rfl, rfl, rfl, rfl, rfl⟩⟩
  case ranges =>
    have hrange : ∀ p ∈ [(1, 0, 16384), (2, 0, 16384), (3, 1, 1024), (4, 1, 1024), (5, 0, 2000), (6, 0, 16384), (7, 0, 16384),
        (9, 0, v.mixer.sizeInForce), (10, 0, 500), (11, 1, 30), (14, 0, 5000), (15, 1, 15), (17, 0, 255), (21, 0, 600),
        (22, 0, 100), (23, 0, 3600)], paramRange v p.1 = some p.2 := by simp [paramRange]
    rw [paramUsed_of_range (hrange (id, lo, hi) hmem)]
    exact clamp_cases lo hi x
  case size =>
    show 512 ≤ sizeUsed x ∧ sizeUsed x ≤ 2560 ∧ sizeUsed x % 256 = 0 ∧ (512 ≤ x → x < 2816 → sizeUsed x ≤ x ∧ x < sizeUsed x + 256)
      ∧ (x < 512 → sizeUsed x = 512) ∧ (2560 < x → sizeUsed x = 2560)
    unfold sizeUsed clamp
    grind
  case inactivity =>
    show inactivityUsed 0 = 0 ∧ inactivityUsed 1 = 2 ∧ (60 < x → inactivityUsed x = 60) ∧ (2 ≤ x → x ≤ 60 → inactivityUsed x = x)
    unfold inactivityUsed clamp
    grind

/-! ### The playout buffer's tests (R148, R149) -/

theorem testPlayout_of_not_ready (v : Vks) (h : playoutReady v = false) : testPlayout v = v := by
  simp [testPlayout, h]

theorem testPlayout_of_playing (v : Vks) (h : v.mixer.playing = true) : testPlayout v = v :=
  testPlayout_of_not_ready v (by simp [playoutReady, h])

/-- A filled buffer plays once it is tested with the amplifier ON. -/
theorem startPlayout_playing (v : Vks) (hfill : max 1 v.params.playoutMark ≤ v.mixer.samples.length) :
    (startPlayout v).mixer.playing = true := by
  unfold startPlayout
  split
  · rfl
  · next hnot =>
    cases hplaying : v.mixer.playing with
    | true => rfl
    | false => exact absurd ((playoutReady_iff v).mpr ⟨hplaying, hfill⟩) hnot

theorem lowCompare_playing (v : Vks) : (lowCompare v).mixer.playing = v.mixer.playing := by
  unfold lowCompare raiseNotice
  repeat' split
  all_goals rfl

theorem lowCompare_power (v : Vks) : (lowCompare v).power = v.power := by
  unfold lowCompare raiseNotice
  repeat' split
  all_goals rfl

/-- R149: at or above the mark low is armed. -/
theorem lowCompare_of_filled (v : Vks) (h : v.params.playoutMark ≤ v.mixer.samples.length) :
    lowCompare v = { v with mixer := { v.mixer with lowArmed := true } } := by
  rw [lowCompare, if_neg (by omega)]

/-- R149: below the mark an armed buffer without the end mark raises AUDIO_LOW once. -/
theorem lowCompare_of_crossing (v : Vks) (h : v.mixer.samples.length < v.params.playoutMark) (harmed : v.mixer.lowArmed = true)
    (hmark : v.mixer.endMark = false) : lowCompare v
      = raiseNotice (.audioLow v.mixer.samples.length v.params.playoutMark) { v with mixer := { v.mixer with lowArmed := false } } := by
  rw [lowCompare, if_pos h, if_pos (by simp [harmed, hmark])]

@[simp] theorem raiseNotice_mixer (n : Notice) (v : Vks) : (raiseNotice n v).mixer = v.mixer := by
  unfold raiseNotice
  split <;> rfl

@[simp] theorem raiseNotice_params (n : Notice) (v : Vks) : (raiseNotice n v).params = v.params := by
  unfold raiseNotice
  split <;> rfl

/-- What a test of a STOPPED buffer that is filled does, by the amplifier (R148, R185, R186). -/
structure Tested (a b : Vks) : Prop where
  on : b.power.amp = .on → a.mixer.playing = true ∧ a.mixer.lowArmed = true
  off : b.power.amp = .off → b.params.ampWarmup ≠ 0 →
    a.mixer.playing = false ∧ a.power.amp = .warming ∧ a.power.warmup = some b.params.ampWarmup
  short : b.power.amp = .off → b.params.ampWarmup = 0 → a.mixer.playing = true ∧ a.power.amp = .on
  warming : b.power.amp = .warming → a.mixer.playing = false ∧ a.power.amp = .warming ∧ a.power.warmup = b.power.warmup

theorem testPlayout_tested (v : Vks) (hstopped : v.mixer.playing = false)
    (hfill : max 1 v.params.playoutMark ≤ v.mixer.samples.length) : Tested (testPlayout v) v := by
  have hready : playoutReady v = true := (playoutReady_iff v).mpr ⟨hstopped, hfill⟩
  constructor
  · intro hon
    simp [testPlayout, hready, hon, startPlayout]
  · intro hoff hlong
    simp [testPlayout, hready, hoff, askAmp, hlong, hstopped]
  · intro hoff hshort
    have hon : testPlayout v = ampBecomesOn v := by simp [testPlayout, hready, hoff, askAmp, hshort]
    have hsteady : AmpSteady (releaseVoice .echo (releaseVoice .main
        { v with power := { v.power with amp := .on, warmup := none, standby := 0 } }))
        { v with power := { v.power with amp := .on, warmup := none, standby := 0 } } :=
      moves_ampSteady ((releaseVoice_moves _ _).trans (releaseVoice_moves _ _))
    rw [hon]
    refine ⟨startPlayout_playing _ (by rw [hsteady.params, hsteady.samples]; exact hfill), ?_⟩
    exact (moves_ampSteady (startPlayout_moves _ (by simp))).on (hsteady.on rfl)
  · intro hwarming
    simp [testPlayout, hready, hwarming, hstopped]

/-- What follows in the event keeps what the test did. -/
theorem Tested.steady {a b c : Vks} (h : AmpSteady a b) (k : Tested b c) : Tested a c where
  on hc := by
    obtain ⟨hplaying, hlow⟩ := k.on hc
    obtain ⟨ha, hlow'⟩ := h.playing hplaying
    exact ⟨ha, hlow'.trans hlow⟩
  off hc hlong := by
    obtain ⟨hstopped, hamp, hwarmup⟩ := k.off hc hlong
    obtain ⟨hamp', hwarmup'⟩ := h.warming hamp
    exact ⟨(h.notOn (by simp [hamp]) (by simp [hamp])).trans hstopped, hamp', hwarmup'.trans hwarmup⟩
  short hc hshort := by
    obtain ⟨hplaying, hamp⟩ := k.short hc hshort
    exact ⟨(h.playing hplaying).1, h.on hamp⟩
  warming hc := by
    obtain ⟨hstopped, hamp, hwarmup⟩ := k.warming hc
    obtain ⟨hamp', hwarmup'⟩ := h.warming hamp
    exact ⟨(h.notOn (by simp [hamp]) (by simp [hamp])).trans hstopped, hamp', hwarmup'.trans hwarmup⟩

/-! ### The AUDIO slot (R147) -/

/-- The part with the reply NONE, the samples that fit appended, and a discard reported. -/
def audioTaken (last : Bool) (samples : List Sample) (v : Vks) : Vks :=
  reportOverrun (samples.length - min (playoutRoom v) samples.length) (appendAudio last samples (setReplyNone v))

theorem takeAudio_eq (last : Bool) (samples : List Sample) (v : Vks) : takeAudio last samples (setReplyNone v)
    = if last ∨ min (playoutRoom v) samples.length ≠ 0 then testAfterAudio (audioTaken last samples v)
      else audioTaken last samples v := rfl

theorem reportOverrun_eq (lost : Nat) (v : Vks) : reportOverrun lost v = if lost = 0 then v
    else raiseNotice (.audioOverrun lost v.mixer.samples.length)
      { v with port := { v.port with latches := { v.port.latches with overrun := true } } } := rfl

/-- R147, R168: a discard reaches the notice queue and the latches alone. -/
structure OnlyTold (a b : Vks) : Prop where
  words : a.words = b.words
  attempt : a.attempt = b.attempt
  lesson : a.lesson = b.lesson
  keys : a.keys = b.keys
  mixer : a.mixer = b.mixer
  reply : a.port.reply = b.port.reply
  power : a.power = b.power
  params : a.params = b.params

theorem reportOverrun_onlyTold (lost : Nat) (v : Vks) : OnlyTold (reportOverrun lost v) v := by
  rw [reportOverrun_eq]
  split
  · constructor <;> rfl
  · unfold raiseNotice
    split <;> constructor <;> rfl

theorem reportOverrun_overrun (lost : Nat) (v : Vks) :
    (reportOverrun lost v).port.latches.overrun = (v.port.latches.overrun || decide (lost ≠ 0)) := by
  rw [reportOverrun_eq]
  split
  · next h => simp [h]
  · next h =>
    rw [(raiseNotice_untouched _ _).overrun]
    simp [h]

theorem testAfterAudio_untouched (v : Vks) : Untouched (testAfterAudio v) v := by
  unfold testAfterAudio
  simp only
  split
  · exact (lowCompare_untouched _).trans (testPlayout_untouched v)
  · exact testPlayout_untouched v

theorem testAfterAudio_join (v : Vks) : NoticesJoin (testAfterAudio v) v :=
  moves_join (l := 2) (Invariants.testAfterAudio_moves v)

theorem testAfterAudio_of_playing (v : Vks) (h : v.mixer.playing = true) : testAfterAudio v = lowCompare v := by
  simp only [testAfterAudio, testPlayout_of_playing v h, h, if_true]

theorem testAfterAudio_of_not_ready (v : Vks) (hstopped : v.mixer.playing = false)
    (h : v.mixer.samples.length < max 1 v.params.playoutMark) : testAfterAudio v = v := by
  have hready : playoutReady v = false := Bool.eq_false_iff.mpr fun hr => by have := ((playoutReady_iff v).mp hr).2; omega
  simp [testAfterAudio, testPlayout_of_not_ready v hready, hstopped]

theorem testAfterAudio_tested (v : Vks) (hstopped : v.mixer.playing = false)
    (hfill : max 1 v.params.playoutMark ≤ v.mixer.samples.length) : Tested (testAfterAudio v) v := by
  have htest := testPlayout_tested v hstopped hfill
  have hframe := testPlayout_untouched v
  unfold testAfterAudio
  simp only
  split
  · next hplaying =>
    rw [lowCompare_of_filled _ (by rw [hframe.params, hframe.samples]; omega)]
    exact ⟨fun hon => ⟨(htest.on hon).1, rfl⟩, htest.off, htest.short, htest.warming⟩
  · exact htest

/-- R148, R149: what becomes of the buffer and the amplifier in the event of an AUDIO slot. -/
theorem settle_takeAudio_steady (tested : Prop) [Decidable tested] (a : Vks) :
    let t := settle (if tested then testAfterAudio a else a)
    (tested → a.mixer.playing = false → max 1 a.params.playoutMark ≤ a.mixer.samples.length → Tested t a)
    ∧ (a.mixer.playing = false → a.mixer.samples.length < max 1 a.params.playoutMark → t.mixer.playing = false)
    ∧ (a.mixer.playing = true → t.mixer.playing = true)
    ∧ (tested → a.mixer.playing = true → t.mixer.lowArmed = (lowCompare a).mixer.lowArmed) := by
  intro t
  have hend := settle_ampSteady (if tested then testAfterAudio a else a)
  refine ⟨fun htest hstopped hfill => ?_, fun hstopped hfill => ?_, fun hplaying => ?_, fun htest hplaying => ?_⟩
  · rw [if_pos htest] at hend
    exact (testAfterAudio_tested a hstopped hfill).steady (by simpa only [t, if_pos htest] using hend)
  · have hkept : (if tested then testAfterAudio a else a) = a := by rw [testAfterAudio_of_not_ready a hstopped hfill, ite_self]
    rw [hkept] at hend
    exact (congrArg (fun v => (settle v).mixer.playing) hkept).trans ((hend.notReady hfill).trans hstopped)
  · refine (hend.playing ?_).1
    split
    · rw [testAfterAudio_of_playing a hplaying, lowCompare_playing, hplaying]
    · exact hplaying
  · have hcompared : (if tested then testAfterAudio a else a) = lowCompare a := by
      rw [if_pos htest, testAfterAudio_of_playing a hplaying]
    rw [hcompared] at hend
    exact (congrArg (fun v => (settle v).mixer.lowArmed) hcompared).trans
      (hend.playing (by rw [lowCompare_playing, hplaying])).2

theorem exec_audioSlot (s : State) (last : Bool) (samples : List Sample) (hawake : Awake s) (hfits : samples.length ≤ 29) :
    exec (.audioSlot last samples) s = .next (withPart s (settle (takeAudio last samples (setReplyNone s.vks)))) := by
  show Host.Outcome.next (withPart s (audioSlot last samples s.vks)) = _
  rw [audioSlot, wakeByLink_awake s.vks hawake, if_neg (by omega)]

theorem audioTaken_onlyTold (last : Bool) (samples : List Sample) (v : Vks) :
    OnlyTold (audioTaken last samples v) (appendAudio last samples (setReplyNone v)) :=
  reportOverrun_onlyTold _ _

/-- R147: the fill after an AUDIO slot. -/
theorem audioTaken_fill (last : Bool) (samples : List Sample) (v : Vks) (hold : v.mixer.samples.length ≤ v.mixer.sizeInForce) :
    (audioTaken last samples v).mixer.samples.length
      = min v.mixer.sizeInForce (v.mixer.samples.length + samples.length) := by
  rw [(audioTaken_onlyTold last samples v).mixer]
  simp only [appendAudio, setReplyNone, playoutRoom, List.length_append, List.length_map, List.length_take]
  omega

theorem audioTaken_fits (last : Bool) (samples : List Sample) (v : Vks)
    (h : v.mixer.samples.length + samples.length ≤ v.mixer.sizeInForce) :
    audioTaken last samples v = appendAudio last samples (setReplyNone v) := by
  have hlost : samples.length - min (playoutRoom v) samples.length = 0 := by unfold playoutRoom; omega
  rw [audioTaken, hlost, reportOverrun_eq, if_pos rfl]

/-- R147, R168: a discard latches OVERRUN and raises AUDIO_OVERRUN with the number of samples lost and the full buffer. -/
theorem audioTaken_discards (last : Bool) (samples : List Sample) (v : Vks) {t : Vks}
    (hold : v.mixer.samples.length ≤ v.mixer.sizeInForce)
    (h : v.mixer.sizeInForce < v.mixer.samples.length + samples.length) (hjoin : NoticesJoin t (audioTaken last samples v))
    (hroom : v.notices.queue.length < 16) : ∃ later, t.notices.queue = v.notices.queue
      ++ .audioOverrun (v.mixer.samples.length + samples.length - v.mixer.sizeInForce) v.mixer.sizeInForce :: later := by
  have hlost : samples.length - min (playoutRoom v) samples.length
      = v.mixer.samples.length + samples.length - v.mixer.sizeInForce := by unfold playoutRoom; omega
  have hfull : (appendAudio last samples (setReplyNone v)).mixer.samples.length = v.mixer.sizeInForce := by
    rw [← (audioTaken_onlyTold last samples v).mixer, audioTaken_fill last samples v hold]
    omega
  rw [audioTaken, hlost, reportOverrun_eq, if_neg (by omega), hfull] at hjoin
  exact hjoin.raised _ hroom

/-- Settles O7: what fits is appended and a discard reported; what the tests do to the buffer then holds to the end of the
event, which leaves the rest as it was. -/
theorem audioSlotAppendsWhatFits : Obligations.AudioSlotAppendsWhatFits := by
  intro s last samples hawake hfits hold size old fill mark
  have hrow := exec_audioSlot s last samples hawake hfits
  have htold := audioTaken_onlyTold last samples s.vks
  have hfill : (audioTaken last samples s.vks).mixer.samples.length = fill := audioTaken_fill last samples s.vks hold
  have hoverrun : (audioTaken last samples s.vks).port.latches.overrun = _ := reportOverrun_overrun _ _
  have hdiscards := fun t => audioTaken_discards last samples s.vks (t := t) hold
  have hkept := audioTaken_fits last samples s.vks
  rw [takeAudio_eq] at hrow
  generalize audioTaken last samples s.vks = a at hrow htold hfill hoverrun hdiscards hkept
  have hroom : playoutRoom s.vks = size - old := rfl
  have htested : (last = true ∨ old < fill) → last = true ∨ min (playoutRoom s.vks) samples.length ≠ 0 :=
    Or.imp id fun (h : old < min size (old + samples.length)) => by omega
  have hframe : Untouched (settle (if last = true ∨ min (playoutRoom s.vks) samples.length ≠ 0 then testAfterAudio a else a)) a := by
    refine (settle_untouched _).trans ?_
    split
    · exact testAfterAudio_untouched a
    · exact .refl a
  have hjoin : NoticesJoin (settle (if last = true ∨ min (playoutRoom s.vks) samples.length ≠ 0 then testAfterAudio a else a)) a := by
    refine (settle_join _).trans ?_
    split
    · exact testAfterAudio_join a
    · exact .refl a
  have hlowJoin (hplaying : a.mixer.playing = true) (htest : last = true ∨ old < fill) : NoticesJoin
      (settle (if last = true ∨ min (playoutRoom s.vks) samples.length ≠ 0 then testAfterAudio a else a)) (lowCompare a) := by
    rw [if_pos (htested htest), testAfterAudio_of_playing a hplaying]
    exact settle_join _
  obtain ⟨hready, hstill, hplays, hlow⟩ :=
    settle_takeAudio_steady (last = true ∨ min (playoutRoom s.vks) samples.length ≠ 0) a
  generalize settle (if last = true ∨ min (playoutRoom s.vks) samples.length ≠ 0 then testAfterAudio a else a) = t
    at hrow hframe hjoin hlowJoin hready hstill hplays hlow
  have hplaying : a.mixer.playing = s.vks.mixer.playing := by rw [htold.mixer]; rfl
  have harmed : a.mixer.lowArmed = s.vks.mixer.lowArmed := by rw [htold.mixer]; rfl
  have hpower : a.power = s.vks.power := htold.power
  have hparams : a.params = s.vks.params := htold.params
  have hmark : a.mixer.endMark = endMarkAfter last (samples.take (playoutRoom s.vks)).length s.vks.mixer.endMark :=
    congrArg Mixer.endMark htold.mixer
  have hsamples : a.mixer.samples = s.vks.mixer.samples ++ (samples.take (size - old)).map BitVec.toInt :=
    congrArg Mixer.samples htold.mixer
  refine ⟨_, hrow, rfl, rfl, hframe.samples.trans hsamples, (congrArg List.length hframe.samples).trans hfill,
    fun hlast => ?set, fun hlast hsome hroom => ?cleared, fun hlast hnone => ?kept, fun hmany => ⟨?overrun, fun hroom => ?told⟩,
    fun hfew => ?clear, fun htest hstopped hone hmark => ?ready, fun hstopped hshort => ?notReady, fun h => ?plays,
    fun htest h => ⟨fun hmark => ?armed, fun hbelow hlowArmed hend => ⟨?crossed, fun hfew hroom => ?low⟩⟩,
    hframe.reply.trans htold.reply, hframe.words.trans htold.words, hframe.ctx.trans (congrArg AttemptUnit.ctx htold.attempt),
    hframe.state.trans (congrArg AttemptUnit.state htold.attempt), hframe.lesson.trans htold.lesson,
    hframe.keys.trans htold.keys, hframe.params.trans htold.params⟩
  case set => exact hframe.endMark.trans (hmark.trans (by simp [endMarkAfter, hlast]))
  case cleared =>
    have hfit : (samples.take (playoutRoom s.vks)).length ≠ 0 := by
      have hpos := List.length_pos_of_ne_nil hsome
      rw [List.length_take]
      omega
    exact hframe.endMark.trans (hmark.trans (by simp only [endMarkAfter, hlast, hfit]; rfl))
  case kept => exact hframe.endMark.trans (hmark.trans (by simp [endMarkAfter, hlast, hnone]))
  case overrun =>
    have hlost : samples.length - min (playoutRoom s.vks) samples.length ≠ 0 := by omega
    exact hframe.overrun.trans (hoverrun.trans (by simp [hlost]))
  case told => exact hdiscards t hmany hjoin hroom
  case clear =>
    exact hframe.overrun.trans (by rw [hkept hfew]; rfl)
  case ready =>
    have htest := hready (htested htest) (hplaying.trans hstopped) (by rw [hparams, hfill]; omega)
    obtain ⟨hon, hoff, hshort, hwarming⟩ := htest
    rw [hpower, hparams] at *
    exact ⟨hon, hoff, hshort, hwarming⟩
  case notReady => exact hstill (hplaying.trans hstopped) (by rw [hparams, hfill]; omega)
  case plays => exact hplays (hplaying.trans h)
  case armed =>
    exact (hlow (htested htest) (hplaying.trans h)).trans
      (by rw [lowCompare_of_filled a (by rw [hparams, hfill]; exact hmark)])
  case crossed =>
    exact (hlow (htested htest) (hplaying.trans h)).trans
      (by rw [lowCompare_of_crossing a (by rw [hparams, hfill]; exact hbelow) (harmed.trans hlowArmed)
        (hframe.endMark.symm.trans hend), raiseNotice_mixer])
  case low =>
    have hjoined := hlowJoin (hplaying.trans h) htest
    rw [lowCompare_of_crossing a (by rw [hparams, hfill]; exact hbelow) (harmed.trans hlowArmed)
      (hframe.endMark.symm.trans hend), hfill, hparams] at hjoined
    have hqueue : a.notices.queue = s.vks.notices.queue := by rw [hkept hfew]; rfl
    obtain ⟨later, hlater⟩ := hjoined.raised _ (by rw [← hqueue] at hroom; exact hroom)
    exact ⟨later, hlater.trans (by rw [← hqueue])⟩

end Sys2Proof.AudioAndSet
end

section
/-! SUPPORT. The word requests (R8 to R13). -/

namespace Sys2Proof.Words

open Sys2Proof.Machine Sys2Proof.Link Sys2Proof.ArgBytes

/-! ### What a request answers -/

/-- R165: a request in a part that is awake, by what its owner gives. -/
theorem exec_answered (i : Instr) (code tag : Byte) (arg : List Byte) (hd : Handler) (s : State) (v : Vks) (result : Result)
    (data want bulk : List Byte) (hrow : exec i s = .next (withPart s (takeControl code tag arg hd s.vks))) (hawake : Awake s)
    (hfits : arg.length ≤ 58) (hanswer : hd arg s.vks = (v, ⟨result, data, bulk⟩)) (hdata : padTo 4 data = want) :
    exec i s = .next (withPart s (replying code tag result want bulk v)) := by
  rw [exec_request_awake i code tag arg hd s hrow hawake hfits, hanswer, ← hdata]
  rfl

theorem padTo_of_length {n : Nat} {bs : List Byte} (h : bs.length = n) : padTo n bs = bs := by simp [padTo, h]

theorem padTo_four_one (x : Nat) : padTo 4 (leBytes 1 x) = [BitVec.ofNat 8 x, 0#8, 0#8, 0#8] := by simp [padTo, leBytes]

theorem padTo_four_bytes (a b c d : Nat) : padTo 4 (leBytes 1 a ++ leBytes 1 b ++ leBytes 1 c ++ leBytes 1 d)
    = [BitVec.ofNat 8 a, BitVec.ofNat 8 b, BitVec.ofNat 8 c, BitVec.ofNat 8 d] := by simp [padTo, leBytes]

/-- R171: a request whose argument has none of the causes but one is BAD_ARGS with it. -/
theorem checked_badArgs (checks : List (Bool × Nat)) (v : Vks) (f : Vks × Answer) (n : Nat) (h : firstCause checks = some n) :
    checked checks v f = (v, ⟨.badArgs, leBytes 1 n, []⟩) := checked_fail checks v f n h

/-! ### The holder and the pool (R5, R8) -/

theorem wordHolder_eq (w : Nat) (v : Vks) : wordHolder w v =
    (if (v.attempt.state = .prompting ∨ v.attempt.state = .listening ∨ v.attempt.state = .responding) ∧ v.attempt.ctx.word = w
      then 1 else 0) + (if v.attempt.shelf.map Context.word = some w then 2 else 0) := by
  unfold wordHolder
  cases v.attempt.shelf <;> simp

theorem withPool_of_short {w : Nat} {e : WordEntry} {v : Vks} (f : Vks × Answer)
    (h : v.words.freeItems + entryItems (v.entry w) < e.items) :
    withPool w e v f
      = (v, ⟨.tableFull, leBytes 2 e.items ++ leBytes 2 (v.words.freeItems + entryItems (v.entry w)), []⟩) := if_neg (by omega)

theorem withPool_of_room {w : Nat} {e : WordEntry} {v : Vks} (f : Vks × Answer)
    (h : e.items ≤ v.words.freeItems + entryItems (v.entry w)) : withPool w e v f = f := if_pos h

/-! ### WORD DROP (R12) -/

theorem field_two (w : Nat) (h : w < 65536) : fieldAt (leBytes 2 w) 0 2 = w := by simp [Nat.mod_eq_of_lt h]

theorem field_two_front (w : Nat) (rest : List Byte) (h : w < 65536) : fieldAt (leBytes 2 w ++ rest) 0 2 = w := by
  simp [Nat.mod_eq_of_lt h]

/-- Settles O22: the four cases of a WORD DROP. -/
theorem wordDropInvalidatesTheEntry : Obligations.WordDropInvalidatesTheEntry := by
  intro s tag hawake
  have hpass (w : Nat) (hw : w < 512) :
      ∀ c ∈ [(decide ((leBytes 2 w).length ≠ 2), 1), (decide (Config.words ≤ fieldAt (leBytes 2 w) 0 2), 2)], c.1 = false := by
    simp [Nat.mod_eq_of_lt (show w < 65536 by omega), Config.words, hw]
  refine ⟨fun w hw hfree => ?taken, fun w hw hheld => ?held, fun w hlow hw => ?index, fun arg hlen hfits => ?length⟩
  case taken =>
    refine exec_answered _ 0x12#8 tag _ handleWordDrop s _ .ok _ _ [] rfl hawake (by simp) ?_ (padTo_of_length (by simp))
    rw [handleWordDrop, checked_pass _ _ _ (hpass w hw), field_two w (by omega)]
    simp only [hfree, ne_eq, not_true_eq_false, if_false]
    rfl
  case held =>
    refine exec_answered _ 0x12#8 tag _ handleWordDrop s _ .inUse _ _ [] rfl hawake (by simp) ?_ (padTo_four_one _)
    rw [handleWordDrop, checked_pass _ _ _ (hpass w hw), field_two w (by omega)]
    simp only [ne_eq, hheld, not_false_eq_true, if_true]
    rfl
  case index =>
    refine exec_answered _ 0x12#8 tag _ handleWordDrop s _ .badArgs _ _ [] rfl hawake (by simp) ?_ (padTo_four_one 2)
    exact checked_badArgs _ _ _ 2 (by simp [firstCause, Nat.mod_eq_of_lt hw, Config.words, hlow])
  case length =>
    refine exec_answered _ 0x12#8 tag _ handleWordDrop s _ .badArgs _ _ [] rfl hawake hfits ?_ (padTo_four_one 1)
    exact checked_badArgs _ _ _ 1 (by simp [firstCause, hlen])

/-! ### WORD GET (R13) -/

/-- R13: a well-formed WORD GET reads the part it names. -/
theorem exec_wordGet (s : State) (tag part : Byte) (w : Nat) (hawake : Awake s) (hw : w < 512) (hpart : part.toNat ≤ 1) :
    exec (.wordGet tag (leBytes 2 w ++ [part])) s = .next (withPart s (replying 0x13#8 tag .ok
      ([flagByte (s.vks.entry w).isSome] ++ leBytes 1 (match s.vks.entry w with | some e => e.letters.length | none => 0)
        ++ leBytes 2 s.vks.words.freeItems) (if part = 0#8 then wordBulk w s.vks else overrideBulk w s.vks) s.vks)) := by
  refine exec_answered _ 0x13#8 tag _ handleWordGet s _ .ok _ _ _ rfl hawake (by simp) ?_ (padTo_of_length (by simp))
  have hbyte : byteAt (leBytes 2 w ++ [part]) 2 = part.toNat := rfl
  have hzero : part.toNat = 0 ↔ part = 0#8 := (BitVec.toNat_eq (y := 0#8)).symm
  rw [handleWordGet, checked_pass _ _ _ (by
      simp [field_two_front w [part] (by omega), Config.words, hw, hbyte, hpart]),
    field_two_front w [part] (by omega), hbyte]
  simp only [hzero]
  rfl

/-- Settles O23: a valid entry and an invalid one, read by part. -/
theorem wordGetReturnsTheEntry : Obligations.WordGetReturnsTheEntry := by
  intro s tag w hawake hw
  refine ⟨fun e hentry => ⟨?entry, ?overrides⟩, fun hnone => ?absent⟩
  case entry =>
    rw [exec_wordGet s tag 0#8 w hawake hw (by decide), if_pos rfl, wordBulk, hentry]
    rfl
  case overrides =>
    rw [exec_wordGet s tag 1#8 w hawake hw (by decide), if_neg (by decide), overrideBulk, hentry]
    rfl
  case absent =>
    rw [exec_wordGet s tag 0#8 w hawake hw (by decide), if_pos rfl, wordBulk, hnone]
    rfl

/-! ### WORD SOUNDS (R11) -/

theorem overrideField_lt {items : List (Option Nat)} (h : ∀ x, some x ∈ items → x < 2048) :
    ∀ x ∈ items, overrideField x < 2048 ∨ overrideField x = 0xFFFE
  | some x, hx => .inl (h x hx)
  | none, _ => .inr rfl

theorem overrideOf_overrideField {items : List (Option Nat)} (h : ∀ x, some x ∈ items → x < 2048) :
    ∀ x ∈ items, overrideOf (overrideField x) = x
  | some x, hx => if_neg (by have := h x hx; simp only [overrideField]; omega)
  | none, _ => rfl

/-- R11: the override items of a WORD SOUNDS argument are read back. -/
theorem wordSounds_fields (w : Nat) (items : List (Option Nat)) (hitems : ∀ x, some x ∈ items → x < 2048) :
    fieldsAt (leBytes 2 w ++ leBytes 1 items.length ++ items.flatMap (fun x => leBytes 2 (overrideField x))) 3 items.length
      = items.map overrideField := by
  have hread := fieldsAt_of_drop (p := 3) (xs := items.map overrideField) (rest := [])
    (arg := leBytes 2 w ++ leBytes 1 items.length ++ items.flatMap (fun x => leBytes 2 (overrideField x)))
    (by rw [List.drop_append_of_le_length (by simp)]; simp [List.flatMap_map, leBytes])
    (by
      intro y hy
      obtain ⟨x, hx, rfl⟩ := List.mem_map.mp hy
      rcases overrideField_lt hitems x hx with h | h <;> omega)
  simpa using hread

/-- Settles O21: the holder, the pool and the list, on an argument that passes. -/
theorem wordSoundsReplacesTheOverrides : Obligations.WordSoundsReplacesTheOverrides := by
  intro s tag w e items hawake hw hentry hcount hfew hitems
  simp only []
  set arg := leBytes 2 w ++ leBytes 1 items.length ++ items.flatMap (fun x => leBytes 2 (overrideField x)) with harg
  have hlen : arg.length = 3 + 2 * items.length := by
    simp only [harg, List.length_append, leBytes_length,
      flatMap_block_length (fun x => leBytes 2 (overrideField x)) 2 items (by simp)]
  have hword : fieldAt arg 0 2 = w := by rw [harg, List.append_assoc]; exact field_two_front w _ (by omega)
  have hn : byteAt arg 2 = items.length := by
    rw [harg, List.append_assoc]
    simp [Nat.mod_eq_of_lt (show items.length < 256 by omega)]
  have hfields : fieldsAt arg 3 items.length = items.map overrideField := wordSounds_fields w items hitems
  have hread : (items.map overrideField).map overrideOf = items := by
    rw [List.map_map, List.map_congr_left (f := overrideOf ∘ overrideField) (g := id) (overrideOf_overrideField hitems), List.map_id]
  have hpass : ∀ c ∈ wordSoundsChecks arg s.vks, c.1 = false := by
    have hgood : ∀ x ∈ items, 2048 ≤ overrideField x → overrideField x = 0xFFFE := fun x hx => by
      rcases overrideField_lt hitems x hx with h | h <;> omega
    simpa [wordSoundsChecks, hword, hn, hlen, hfields, hentry, ← hcount, Config.words, hw, badSegmentId, Config.segments]
      using hgood
  have hhandled : handleWordSounds arg s.vks
      = (if wordHolder w s.vks ≠ 0 then (s.vks, answerRefused .inUse (leBytes 1 (wordHolder w s.vks)))
         else withPool w { e with overrides := some items } s.vks
          (let v1 := setEntry w (some { e with overrides := some items }) s.vks
           (v1, answerOk (leBytes 2 v1.words.freeItems ++ leBytes 1 e.letters.length)))) := by
    rw [handleWordSounds, checked_pass _ _ _ hpass, hword, hentry]
    simp only [hn, hfields, hread]
  have hneeded : WordEntry.items { e with overrides := some items } = 2 * e.letters.length + e.prompts.length := by
    simp only [WordEntry.items, hcount]
    omega
  have havailable : entryItems (s.vks.entry w) = e.items := by rw [hentry]; rfl
  refine ⟨fun hheld => ?held, fun hfree hshort => ?short, fun hfree hroom => ?taken⟩
  case held =>
    refine exec_answered _ 0x11#8 tag _ handleWordSounds s _ .inUse _ _ [] rfl hawake (by omega) ?_ (padTo_four_one _)
    rw [hhandled, if_pos hheld]
    rfl
  case short =>
    refine exec_answered _ 0x11#8 tag _ handleWordSounds s s.vks .tableFull _ _ [] rfl hawake (by omega) ?_
      (padTo_of_length (by simp))
    rw [hhandled, if_neg (by simp [hfree]), withPool_of_short _ (by rw [hneeded, havailable]; exact hshort), hneeded, havailable]
  case taken =>
    refine exec_answered _ 0x11#8 tag _ handleWordSounds s _ .ok
      (leBytes 2 (s.vks.words.freeItems + e.items - (2 * e.letters.length + e.prompts.length)) ++ leBytes 1 e.letters.length)
      _ [] rfl hawake (by omega) ?_ (by simp [padTo, leBytes])
    · rw [hhandled, if_neg (by simp [hfree]), withPool_of_room _ (by rw [hneeded, havailable]; exact hroom)]
      simp only [setEntry, writeAt, entryItems, hentry, hneeded]
      rfl

/-! ### WORD PUT (R9, R10) -/

/-- The options byte of a WORD PUT: fresh, mode, barge-in and echo style. -/
def optionsOf (fresh barge : Bool) (mode : CheckMode) (echo : EchoStyle) : Nat :=
  (if fresh then 1 else 0) + 2 * mode.bit + (if barge then 4 else 0) + 8 * echo.code

/-- The argument of a WORD PUT, field behind field. -/
def putForm (w options tries mistakes hints segment : Nat) (letters prompts : List Nat) : List Byte :=
  leBytes 2 w ++ (leBytes 1 options ++ (leBytes 1 tries ++ (leBytes 1 mistakes ++ (leBytes 1 hints ++ (leBytes 2 segment
    ++ (leBytes 1 letters.length ++ (leBytes 1 prompts.length ++ (letters.flatMap (leBytes 1)
    ++ prompts.flatMap (leBytes 2)))))))))

/-- Every option of the options byte is read back. -/
theorem options_read (fresh barge : Bool) (mode : CheckMode) (echo : EchoStyle) :
    let o := optionsOf fresh barge mode echo
    o % 256 = o ∧ bitOf o 0 = fresh ∧ bitOf o 1 = decide (mode = .deferred) ∧ bitOf o 2 = barge ∧ o / 8 % 4 = echo.code := by
  cases mode <;> cases echo <;> revert fresh barge <;> decide

/-- R10: a mark of three clamped limits. -/
theorem bitsValue_marks (a b c a' b' c' : Nat) : bitsValue [decide (a ≠ a'), decide (b ≠ b'), decide (c ≠ c')]
    = (if a = a' then 0 else 1) + (if b = b' then 0 else 2) + (if c = c' then 0 else 4) := by
  by_cases ha : a = a' <;> by_cases hb : b = b' <;> by_cases hc : c = c' <;> simp [bitsValue, ha, hb, hc]

theorem clamp_eq_max_min (lo hi n : Nat) (h : lo ≤ hi) : clamp lo hi n = max lo (min hi n) := by
  unfold clamp
  grind

theorem segmentField_lt {segment : Option Nat} (h : ∀ x, segment = some x → x < 2048) :
    segmentField segment < 2048 ∨ segmentField segment = 0xFFFF := by
  cases segment with
  | none => exact .inr rfl
  | some x => exact .inl (h x rfl)

theorem segmentOf_segmentField {segment : Option Nat} (h : ∀ x, segment = some x → x < 2048) :
    segmentOf (segmentField segment) = segment := by
  cases segment with
  | none => rfl
  | some x => exact if_neg (by have := h x rfl; simp only [segmentField]; omega)

section
variable {w tries mistakes hints : Nat} {letters prompts : List Nat} {segment : Option Nat} {fresh barge : Bool}
  {mode : CheckMode} {echo : EchoStyle} {arg : List Byte}

/-- R9: the fields of a WORD PUT argument are read back. -/
theorem putForm_read
    (harg : arg = putForm w (optionsOf fresh barge mode echo) tries mistakes hints (segmentField segment) letters prompts)
    (hw : w < 512) (htries : tries < 256) (hmistakes : mistakes < 256) (hhints : hints < 256) (hlen : letters.length ≤ 16)
    (hletters : ∀ c ∈ letters, 1 ≤ c ∧ c ≤ 48) (hfew : prompts.length ≤ 4) (hprompts : ∀ p ∈ prompts, p < 2048)
    (hsegment : ∀ x, segment = some x → x < 2048) :
    arg.length = 10 + letters.length + 2 * prompts.length ∧ fieldAt arg 0 2 = w
      ∧ byteAt arg 2 = optionsOf fresh barge mode echo ∧ byteAt arg 3 = tries ∧ byteAt arg 4 = mistakes
      ∧ byteAt arg 5 = hints ∧ fieldAt arg 6 2 = segmentField segment ∧ byteAt arg 8 = letters.length
      ∧ byteAt arg 9 = prompts.length ∧ bytesAt arg 10 letters.length = letters
      ∧ fieldsAt arg (10 + letters.length) prompts.length = prompts := by
  have hoptions := (options_read fresh barge mode echo).1
  have hfield : segmentField segment < 65536 := by rcases segmentField_lt hsegment with h | h <;> omega
  have hl : letters.length < 256 := by omega
  have hp : prompts.length < 256 := by omega
  subst harg
  have hdrop : (putForm w (optionsOf fresh barge mode echo) tries mistakes hints (segmentField segment) letters prompts).drop 10
      = letters.flatMap (leBytes 1) ++ prompts.flatMap (leBytes 2) := rfl
  refine ⟨?_, ?_, ?_, ?_, ?_, ?_, ?_, ?_, ?_, bytesAt_of_drop hdrop ?_, fieldsAt_of_drop (rest := []) ?_ ?_⟩
  · simp only [putForm, List.length_append, leBytes_length, flatMap_block_length (leBytes 1) 1 letters (by simp),
      flatMap_block_length (leBytes 2) 2 prompts (by simp)]
    omega
  · exact field_two_front w _ (by omega)
  · simpa [putForm] using hoptions
  · simpa [putForm] using htries
  · simpa [putForm] using hmistakes
  · simpa [putForm] using hhints
  · simpa [putForm] using hfield
  · simpa [putForm] using hl
  · simpa [putForm] using hp
  · exact fun c hc => by have := hletters c hc; omega
  · rw [← List.drop_drop, hdrop, List.drop_append]
    simp [flatMap_block_length (leBytes 1) 1 letters (by simp)]
  · exact fun p hp => by have := hprompts p hp; omega

end

/-- Settles O20: the holder, the pool and the entry, on an argument that passes. -/
theorem wordPutReplacesTheEntry : Obligations.WordPutReplacesTheEntry := by
  intro s tag w tries mistakes hints letters prompts segment fresh barge mode echo hawake hw htries hmistakes hhints hone hlen
    hletters hfew hprompts hsegment
  simp only []
  set e : WordEntry := ⟨letters, segment, prompts, none,
    ⟨mode, echo, barge, max 1 (min 3 tries), max 1 (min 9 mistakes), min 3 hints⟩⟩ with he
  have hform : leBytes 2 w
        ++ leBytes 1 ((if fresh then 1 else 0) + 2 * mode.bit + (if barge then 4 else 0) + 8 * echo.code)
        ++ leBytes 1 tries ++ leBytes 1 mistakes ++ leBytes 1 hints ++ leBytes 2 (segmentField segment)
        ++ leBytes 1 letters.length ++ leBytes 1 prompts.length
        ++ letters.flatMap (leBytes 1) ++ prompts.flatMap (leBytes 2)
      = putForm w (optionsOf fresh barge mode echo) tries mistakes hints (segmentField segment) letters prompts := by
    simp only [putForm, optionsOf, List.append_assoc]
  rw [hform]
  generalize harg : putForm w (optionsOf fresh barge mode echo) tries mistakes hints (segmentField segment) letters prompts = arg
  obtain ⟨hlength, hword, hopt, ht, hm, hh, hseg, hl, hp, hbytes, hfields⟩ :=
    putForm_read harg.symm hw htries hmistakes hhints hlen hletters hfew hprompts hsegment
  obtain ⟨-, hfresh, hmode, hbarge, hecho⟩ := options_read fresh barge mode echo
  have hsettings : wordSettings arg = e.settings := by
    simp only [wordSettings, hopt, ht, hm, hh, hmode, hbarge, hecho, he, clamp_eq_max_min 1 3 _ (by decide),
      clamp_eq_max_min 1 9 _ (by decide), clamp_eq_max_min 0 3 _ (by decide), Nat.zero_max]
    cases mode <;> cases echo <;> rfl
  have hentry : wordEntryOf arg = e := by
    simp only [wordEntryOf, hl, hp, hbytes, hfields, hseg, segmentOf_segmentField hsegment, hsettings, he]
  have hpass : ∀ c ∈ wordPutChecks arg, c.1 = false := by
    have hcode : echo.code ≠ 3 := by cases echo <;> decide
    have hsegs : 2048 ≤ segmentField segment → segmentField segment = 65535 := by
      rcases segmentField_lt hsegment with h | h <;> omega
    have hone' : letters ≠ [] := List.ne_nil_of_length_pos hone
    have hgood : 10 ≤ 10 + letters.length + 2 * prompts.length ∧ w < 512 ∧ (letters ≠ [] ∧ letters.length ≤ 16)
        ∧ prompts.length ≤ 4 ∧ (∀ c ∈ letters, c ≠ 0 ∧ c ≤ 48) ∧ (2048 ≤ segmentField segment → segmentField segment = 65535)
        ∧ ∀ x ∈ prompts, x < 2048 :=
      ⟨by omega, hw, ⟨hone', hlen⟩, hfew, fun c hc => ⟨by have := hletters c hc; omega, (hletters c hc).2⟩, hsegs, hprompts⟩
    simpa [wordPutChecks, hlength, hword, hopt, hseg, hl, hp, hentry, he, hecho, hcode, Config.words, Config.segments,
      Config.letters, badLetter, badSegmentField, badSegmentId] using hgood
  have hhandled : handleWordPut arg s.vks
      = (if wordHolder w s.vks ≠ 0 then (s.vks, answerRefused .inUse (leBytes 1 (wordHolder w s.vks)))
         else withPool w e s.vks
          (let v1 := setEntry w (some e) s.vks
           (if fresh then clearProgress w v1 else v1,
            answerOk (leBytes 1 e.settings.tries ++ leBytes 1 e.settings.mistakeLimit ++ leBytes 1 e.settings.hintLimit
              ++ leBytes 1 (wordClampMark arg))))) := by
    rw [handleWordPut, checked_pass _ _ _ hpass, hword, hentry, hopt, hfresh]
  have hfits : arg.length ≤ 58 := by omega
  have hneeded : e.items = letters.length + prompts.length := rfl
  have hmark : wordClampMark arg = (if e.settings.tries = tries then 0 else 1)
      + (if e.settings.mistakeLimit = mistakes then 0 else 2) + (if e.settings.hintLimit = hints then 0 else 4) := by
    rw [wordClampMark, hsettings, ht, hm, hh, bitsValue_marks]
  refine ⟨wordHolder_eq w s.vks, fun hheld => ?held, fun hfree hshort => ?short, fun hfree hroom => ?taken⟩
  case held =>
    refine exec_answered _ 0x10#8 tag _ handleWordPut s _ .inUse _ _ [] rfl hawake hfits ?_ (padTo_four_one _)
    rw [hhandled, if_pos hheld]
    rfl
  case short =>
    refine exec_answered _ 0x10#8 tag _ handleWordPut s s.vks .tableFull _ _ [] rfl hawake hfits ?_
      (padTo_of_length (by simp))
    rw [hhandled, if_neg (by simp [hfree]), withPool_of_short _ (by rw [hneeded]; exact hshort), hneeded]
  case taken =>
    refine exec_answered _ 0x10#8 tag _ handleWordPut s _ .ok (leBytes 1 e.settings.tries ++ leBytes 1 e.settings.mistakeLimit
      ++ leBytes 1 e.settings.hintLimit ++ leBytes 1 (wordClampMark arg)) _ [] rfl hawake hfits ?_ ?_
    · rw [hhandled, if_neg (by simp [hfree]), withPool_of_room _ (by rw [hneeded]; exact hroom)]
      cases fresh <;> rfl
    · rw [hmark]
      exact padTo_four_bytes _ _ _ _

end Sys2Proof.Words
end

section
/-! SUPPORT. The requests that write and read the tables: alphabet (R14), keymap (R82), TABLE GET (R15, R83, R96), the lesson
list (R54, R55, R72), the progress records and the review list (R67 to R71). -/

namespace Sys2Proof.Tables

open Sys2Proof.Machine Sys2Proof.Link Sys2Proof.ArgBytes Sys2Proof.Words

/-- Blocks read one by one from an argument give what was written, in order. -/
theorem blocks_read {α β : Type} {arg : List Byte} {p : Nat} {f : α → List Byte} {k : Nat} {xs : List α} {rest : List Byte}
    {read : List Byte → β} {h : α → β} {g : Nat → β} (hdrop : arg.drop p = xs.flatMap f ++ rest)
    (hg : ∀ j, g j = read ((arg.drop p).drop (k * j))) (hk : ∀ x ∈ xs, (f x).length = k)
    (hread : ∀ x ∈ xs, ∀ more, read (f x ++ more) = h x) : (List.range xs.length).map g = xs.map h := by
  rw [← map_range_blocks f k xs rest read h hk hread, ← hdrop]
  exact List.map_congr_left fun j _ => hg j

theorem readAt_writeAt_same {α : Type} (t : List α) (i : Nat) (x d : α) (h : i < t.length) : readAt (writeAt t i x) i d = x := by
  simp [readAt, writeAt, List.getD_eq_getElem?_getD, h]

theorem readAt_writeAt_other {α : Type} (t : List α) (i j : Nat) (x d : α) (h : i ≠ j) :
    readAt (writeAt t i x) j d = readAt t j d := by
  simp [readAt, writeAt, List.getD_eq_getElem?_getD, h]

/-! ### ALPHABET PUT (R14) -/

/-- The form of one alphabet item. -/
def itemForm (x : AlphabetItem) : List Byte := leBytes 1 x.code ++ leBytes 1 x.selection ++ leBytes 2 x.name ++ leBytes 2 x.sound

/-- What R14 asks of an item. -/
structure ItemFits (x : AlphabetItem) : Prop where
  low : 1 ≤ x.code
  high : x.code ≤ 48
  some_side : 1 ≤ x.selection
  sides : x.selection ≤ 3
  name : x.name < 2048 ∨ x.name = 0xFFFF
  sound : x.sound < 2048 ∨ x.sound = 0xFFFF

theorem itemForm_length (x : AlphabetItem) : (itemForm x).length = 6 := by simp [itemForm]

/-- R14: the items of an argument are read back. -/
theorem alphabetItems_read (items : List AlphabetItem) (hlen : items.length < 256) (hfit : ∀ x ∈ items, ItemFits x) :
    alphabetItems (leBytes 1 items.length ++ items.flatMap itemForm) = items := by
  have hread := blocks_read (arg := leBytes 1 items.length ++ items.flatMap itemForm) (p := 1) (f := itemForm) (k := 6)
    (xs := items) (rest := []) (h := id)
    (read := fun bs => AlphabetItem.mk (byteAt bs 0) (byteAt bs 1) (fieldAt bs 2 2) (fieldAt bs 4 2))
    (g := fun j => let arg := leBytes 1 items.length ++ items.flatMap itemForm
      ⟨byteAt arg (1 + 6 * j), byteAt arg (2 + 6 * j), fieldAt arg (3 + 6 * j) 2, fieldAt arg (5 + 6 * j) 2⟩)
    (by rw [List.append_nil]; rfl)
    (fun j => by simp only [byteAt_drop, fieldAt_drop]; grind)
    (fun x _ => itemForm_length x)
    (fun x hx more => by
      obtain ⟨hlow, hhigh, _, hsides, hname, hsound⟩ := hfit x hx
      have hc : x.code < 256 := by omega
      have hs : x.selection < 256 := by omega
      have hn : x.name < 65536 := by omega
      have hd : x.sound < 65536 := by omega
      simp [itemForm, List.append_assoc, Nat.mod_eq_of_lt, hc, hs, hn, hd])
  rw [List.map_id] at hread
  rw [alphabetItems, byteAt_one_front, Nat.mod_eq_of_lt hlen]
  exact hread

/-- R14: one item sets the sides it selects of its letter, and no other letter. -/
theorem writeLetter_letter (v : Vks) (x : AlphabetItem) (c : Nat) (hsize : v.words.alphabet.length = 48) (hx : ItemFits x)
    (hc : 1 ≤ c) : (writeLetter v x).letter c = if x.code = c then
      ⟨if x.selection ≠ 2 then segmentOf x.name else (v.letter c).name,
        if x.selection ≠ 1 then segmentOf x.sound else (v.letter c).sound⟩ else v.letter c := by
  obtain ⟨hlow, hhigh, hone, hthree, -, -⟩ := hx
  have hname : x.hasName = decide (x.selection ≠ 2) := by
    simp only [AlphabetItem.hasName]
    grind
  have hsound : x.hasSound = decide (x.selection ≠ 1) := by
    simp only [AlphabetItem.hasSound]
    grind
  have hzero : c ≠ 0 := by omega
  by_cases hsame : x.code = c
  · subst hsame
    rw [if_pos rfl, Vks.letter, if_neg hzero]
    refine (readAt_writeAt_same _ _ _ _ (by omega)).trans ?_
    simp [hname, hsound]
  · rw [if_neg hsame, Vks.letter, if_neg hzero, Vks.letter, if_neg hzero]
    exact readAt_writeAt_other _ _ _ _ _ (by omega)

theorem writeLetter_size (v : Vks) (x : AlphabetItem) : (writeLetter v x).words.alphabet.length = v.words.alphabet.length :=
  List.length_set

/-- R14: items written in order change the alphabet and nothing else. -/
theorem writeLetters_frame (items : List AlphabetItem) (v : Vks) :
    items.foldl writeLetter v = { v with words := { v.words with alphabet := (items.foldl writeLetter v).words.alphabet } } := by
  induction items generalizing v with
  | nil => rfl
  | cons x xs ih =>
    rw [List.foldl_cons, ih (writeLetter v x)]
    rfl

/-- In a row of writes the last that sets a reading gives it. -/
theorem last_write_wins {σ α β : Type} (write : σ → α → σ) (ok : σ → Prop) (read : σ → β) (sets : α → Bool) (value : α → β)
    (items : List α) (v : σ) (hv : ok v) (hok : ∀ v x, ok v → ok (write v x))
    (hwrite : ∀ v, ok v → ∀ x ∈ items, read (write v x) = if sets x then value x else read v) :
    read (items.foldl write v) = (items.filter sets).getLast?.elim (read v) value := by
  induction items generalizing v with
  | nil => rfl
  | cons x xs ih =>
    rw [List.foldl_cons, ih (write v x) (hok v x hv) fun w hw y hy => hwrite w hw y (List.mem_cons_of_mem _ hy),
      hwrite v hv x (by simp)]
    cases hsets : sets x with
    | false => simp [hsets]
    | true => cases hlast : (xs.filter sets).getLast? <;> simp [hsets, List.getLast?_cons, hlast]

/-- R14: of the items written in order the last that selects a side of a letter gives it. -/
theorem writeLetters_letter (items : List AlphabetItem) (v : Vks) (c : Nat) (hsize : v.words.alphabet.length = 48)
    (hfit : ∀ x ∈ items, ItemFits x) (hc : 1 ≤ c) :
    ((items.foldl writeLetter v).letter c).name = (match (items.filter (fun x => x.code = c ∧ x.selection ≠ 2)).getLast? with
        | some x => segmentOf x.name
        | none => (v.letter c).name)
    ∧ ((items.foldl writeLetter v).letter c).sound = (match (items.filter (fun x => x.code = c ∧ x.selection ≠ 1)).getLast? with
        | some x => segmentOf x.sound
        | none => (v.letter c).sound) := by
  have hkept : ∀ (v : Vks) (x : AlphabetItem), v.words.alphabet.length = 48 → (writeLetter v x).words.alphabet.length = 48 :=
    fun v x h => (writeLetter_size v x).trans h
  constructor
  · refine (last_write_wins writeLetter (fun v => v.words.alphabet.length = 48) (fun v => (v.letter c).name)
      (fun x => decide (x.code = c ∧ x.selection ≠ 2))      (fun x => segmentOf x.name) items v hsize hkept fun v hv x hx => ?_).trans ?_
    · simp only [writeLetter_letter v x c hv (hfit x hx) hc]
      grind
    · cases (items.filter _).getLast? <;> rfl
  · refine (last_write_wins writeLetter (fun v => v.words.alphabet.length = 48) (fun v => (v.letter c).sound)
      (fun x => decide (x.code = c ∧ x.selection ≠ 1))      (fun x => segmentOf x.sound) items v hsize hkept fun v hv x hx => ?_).trans ?_
    · simp only [writeLetter_letter v x c hv (hfit x hx) hc]
      grind
    · cases (items.filter _).getLast? <;> rfl

theorem badSegmentField_eq_false {x : Nat} (h : x < 2048 ∨ x = 0xFFFF) : badSegmentField x = false := by
  simp only [badSegmentField, badSegmentId, Config.segments]
  grind

/-- Settles O24: the items are read back, and their writes folded. -/
theorem alphabetPutWritesItsItems : Obligations.AlphabetPutWritesItsItems := by
  intro s tag items hawake hsized hone hnine hitems
  have hfit : ∀ x ∈ items, ItemFits x := fun x hx => by
    obtain ⟨h1, h2, h3, h4, h5, h6⟩ := hitems x hx
    exact ⟨h1, h2, h3, h4, h5, h6⟩
  show ∃ t, exec (.alphabetPut tag (leBytes 1 items.length ++ items.flatMap itemForm)) s = .next t ∧ _
  have hread := alphabetItems_read items (by omega) hfit
  have hbyte : byteAt (leBytes 1 items.length ++ items.flatMap itemForm) 0 = items.length := by
    rw [byteAt_one_front, Nat.mod_eq_of_lt (by omega)]
  have hlen : (leBytes 1 items.length ++ items.flatMap itemForm).length = 1 + 6 * items.length := by
    rw [List.length_append, leBytes_length, flatMap_block_length itemForm 6 items fun x _ => itemForm_length x]
  generalize leBytes 1 items.length ++ items.flatMap itemForm = arg at hread hbyte hlen
  have hpass : ∀ c ∈ alphabetChecks arg, c.1 = false := by
    have hletter (x) (hx : x ∈ items) : badLetter x.code = false := by
      obtain ⟨hlow, hhigh, -, -, -, -⟩ := hfit x hx
      simp [badLetter, Config.letters, hhigh]
      omega
    have hside (x) (hx : x ∈ items) : (x.hasName || x.hasSound) = true := by
      obtain ⟨-, -, hlow, hhigh, -, -⟩ := hfit x hx
      simp only [AlphabetItem.hasName, AlphabetItem.hasSound]
      grind
    have hsegment (x) (hx : x ∈ items) :
        ((x.hasName && badSegmentField x.name) || (x.hasSound && badSegmentField x.sound)) = false := by
      rw [badSegmentField_eq_false (hfit x hx).name, badSegmentField_eq_false (hfit x hx).sound]
      simp
    simp only [alphabetChecks, hread, hlen, hbyte, List.forall_mem_cons, List.any_eq_false]
    refine ⟨by simp, ?_, ?_, ?_, ?_, by simp⟩
    · simp only [Bool.or_eq_false_iff, decide_eq_false_iff_not]
      omega
    · exact fun x hx => by simp [hletter x hx]
    · exact fun x hx => by simp [hside x hx]
    · exact fun x hx => by simp [hsegment x hx]
  have hexec : exec (.alphabetPut tag arg) s = .next (withPart s (replying 0x14#8 tag .ok
      [BitVec.ofNat 8 items.length, 0#8, 0#8, 0#8] [] (items.foldl writeLetter s.vks))) := by
    refine exec_answered _ 0x14#8 tag _ handleAlphabetPut s _ .ok (leBytes 1 items.length) _ [] rfl hawake (by omega) ?_
      (padTo_four_one _)
    rw [handleAlphabetPut, checked_pass _ _ _ hpass, hread, hbyte]
    rfl
  refine ⟨_, hexec, fun c hc _ => writeLetters_letter items s.vks c hsized.alphabet hfit hc, ?_⟩
  exact congrArg (fun v => withPart s (replying 0x14#8 tag .ok [BitVec.ofNat 8 items.length, 0#8, 0#8, 0#8] [] v))
    (writeLetters_frame items s.vks)

/-! ### KEYMAP PUT (R82) -/

/-- A row of writes from place `start` on: each place it names holds what was written there. -/
theorem readAt_writes {α : Type} (t : List α) (start n : Nat) (f : Nat → α) (p : Nat) (d : α) (hroom : start + n ≤ t.length) :
    readAt ((List.range n).foldl (fun t j => writeAt t (start + j) (f j)) t) p d
      = if start ≤ p ∧ p < start + n then f (p - start) else readAt t p d := by
  induction n with
  | zero => rw [if_neg (by omega)]; rfl
  | succ n ih =>
    have hlen : ((List.range n).foldl (fun t j => writeAt t (start + j) (f j)) t).length = t.length :=
      List.foldlRecOn (motive := fun u : List α => u.length = t.length) _ _ rfl fun u hu j _ => List.length_set.trans hu
    rw [List.range_succ, List.foldl_append, List.foldl_cons, List.foldl_nil]
    by_cases hlast : start + n = p
    · subst hlast
      rw [readAt_writeAt_same _ _ _ _ (by omega), if_pos (by omega), Nat.add_sub_cancel_left]
    · rw [readAt_writeAt_other _ _ _ _ _ hlast, ih (by omega)]
      grind

/-- R82: the entries written change the keymap and nothing else. -/
theorem setKeymap_row (start n : Nat) (f : Nat → KeymapEntry) (v : Vks) :
    (List.range n).foldl (fun v j => setKeymapAt (start + j) (f j) v) v
      = { v with keys := { v.keys with
            keymap := (List.range n).foldl (fun t j => writeAt t (start + j) (f j)) v.keys.keymap } } := by
  induction n with
  | zero => rfl
  | succ n ih =>
    rw [List.range_succ, List.foldl_append, List.foldl_append, ih]
    rfl

/-- R82: what is stored of an entry: letter code 0 for a class other than LETTER. -/
def storedEntry (e : KeymapEntry) : KeymapEntry := { e with letter := if e.cls = .letter then e.letter else 0 }

theorem KeymapEntry_bytes_length (e : KeymapEntry) : e.bytes.length = 4 := by simp [KeymapEntry.bytes]

theorem KeyClass_ofCode_code (k : KeyClass) : KeyClass.ofCode k.code = some k := by cases k <;> rfl

theorem KeyClass_code_le (k : KeyClass) : k.code ≤ 6 := by cases k <;> decide

theorem KeyClass_code_letter (k : KeyClass) : k.code = 1 ↔ k = .letter := by cases k <;> decide

section
variable {arg : List Byte} {entries : List KeymapEntry}

/-- R82: the entries of an argument are read back as they are stored. -/
theorem keymapEntries_read (hdrop : arg.drop 2 = entries.flatMap KeymapEntry.bytes) (hsmall : ∀ e ∈ entries, e.letter < 256) :
    (List.range entries.length).map (fun j => keymapEntryAt arg (2 + 4 * j)) = entries.map storedEntry :=
  blocks_read (rest := []) (read := fun bs => keymapEntryAt bs 0) (by rw [hdrop, List.append_nil])
    (fun j => by simp only [keymapEntryAt, byteAt_drop]; grind)
    (fun e _ => KeymapEntry_bytes_length e)
    (fun e he more => by
      have hc := Nat.mod_eq_of_lt (show e.cls.code < 256 by have := KeyClass_code_le e.cls; omega)
      have hl := Nat.mod_eq_of_lt (hsmall e he)
      simp [keymapEntryAt, storedEntry, KeymapEntry.bytes, hc, hl, KeyClass_ofCode_code, byteAt, leBytes])

/-- R82: the class and letter codes of an argument are read back. -/
theorem keymapForms_read (hdrop : arg.drop 2 = entries.flatMap KeymapEntry.bytes) (hsmall : ∀ e ∈ entries, e.letter < 256) :
    (List.range entries.length).map (fun j => (byteAt arg (2 + 4 * j), byteAt arg (3 + 4 * j)))
      = entries.map (fun e => (e.cls.code, e.letter)) :=
  blocks_read (rest := []) (read := fun bs => (byteAt bs 0, byteAt bs 1)) (by rw [hdrop, List.append_nil])
    (fun j => by simp only [byteAt_drop]; grind)
    (fun e _ => KeymapEntry_bytes_length e)
    (fun e he more => by
      have hc := Nat.mod_eq_of_lt (show e.cls.code < 256 by have := KeyClass_code_le e.cls; omega)
      have hl := Nat.mod_eq_of_lt (hsmall e he)
      simp [KeymapEntry.bytes, hc, hl, byteAt, leBytes])

end

/-- Settles O25: the entries are read back, and their writes folded. -/
theorem keymapPutWritesItsPositions : Obligations.KeymapPutWritesItsPositions := by
  intro s tag start entries hawake hsized hone hfew hroom hentries
  show ∃ t, exec (.keymapPut tag (leBytes 1 start ++ leBytes 1 entries.length ++ entries.flatMap KeymapEntry.bytes)) s = .next t ∧ _
  have hsmall : ∀ e ∈ entries, e.letter < 256 := fun e he => (hentries e he).1
  have hstart : byteAt (leBytes 1 start ++ leBytes 1 entries.length ++ entries.flatMap KeymapEntry.bytes) 0 = start := by
    simp [List.append_assoc, Nat.mod_eq_of_lt (show start < 256 by omega)]
  have hn : byteAt (leBytes 1 start ++ leBytes 1 entries.length ++ entries.flatMap KeymapEntry.bytes) 1 = entries.length := by
    simp [List.append_assoc, Nat.mod_eq_of_lt (show entries.length < 256 by omega)]
  have hlen : (leBytes 1 start ++ leBytes 1 entries.length ++ entries.flatMap KeymapEntry.bytes).length
      = 2 + 4 * entries.length := by
    simp only [List.length_append, leBytes_length,
      flatMap_block_length KeymapEntry.bytes 4 entries fun e _ => KeymapEntry_bytes_length e]
  have hdrop : (leBytes 1 start ++ leBytes 1 entries.length ++ entries.flatMap KeymapEntry.bytes).drop 2
      = entries.flatMap KeymapEntry.bytes := rfl
  generalize leBytes 1 start ++ leBytes 1 entries.length ++ entries.flatMap KeymapEntry.bytes = arg at hstart hn hlen hdrop
  have hpass : ∀ c ∈ keymapPutChecks arg, c.1 = false := by
    have hclass (e) (he : e ∈ entries) : ¬ 6 < e.cls.code := Nat.not_lt.mpr (KeyClass_code_le e.cls)
    have hletter (e) (he : e ∈ entries) : ¬ (e.cls.code = 1 ∧ badLetter e.letter = true) := fun ⟨hcode, hbad⟩ => by
      obtain ⟨hlow, hhigh⟩ := (hentries e he).2 ((KeyClass_code_letter e.cls).mp hcode)
      simp [badLetter, Config.letters] at hbad
      omega
    simp only [keymapPutChecks, hstart, hn, hlen, keymapForms_read hdrop hsmall, List.forall_mem_cons, List.any_map,
      List.any_eq_false, Function.comp_apply, Bool.or_eq_false_iff, decide_eq_false_iff_not, decide_eq_true_eq, Bool.and_eq_true]
    exact ⟨⟨by omega, by omega⟩, ⟨by omega, by omega⟩, ⟨by omega, by omega⟩, hclass, hletter, by simp⟩
  have hexec : exec (.keymapPut tag arg) s = .next (withPart s (replying 0x15#8 tag .ok
      [BitVec.ofNat 8 start, BitVec.ofNat 8 entries.length, 0#8, 0#8] []
      { s.vks with keys := { s.vks.keys with
          keymap := (List.range entries.length).foldl
            (fun t j => writeAt t (start + j) (keymapEntryAt arg (2 + 4 * j))) s.vks.keys.keymap } })) := by
    refine exec_answered _ 0x15#8 tag _ handleKeymapPut s _ .ok (leBytes 1 start ++ leBytes 1 entries.length) _ [] rfl hawake
      (by omega) ?_ (by simp [padTo, leBytes])
    rw [handleKeymapPut, checked_pass _ _ _ hpass, hn, hstart, setKeymap_row]
    rfl
  refine ⟨_, hexec, fun p hp => ?_, rfl⟩
  refine (readAt_writes s.vks.keys.keymap start entries.length _ p _ (by rw [hsized.keymap]; omega)).trans ?_
  by_cases hin : start ≤ p ∧ p < start + entries.length
  · have hj : p - start < entries.length := by omega
    have hget := List.getElem_of_eq (keymapEntries_read hdrop hsmall) (i := p - start) (by simpa using hj)
    simp only [List.getElem_map, List.getElem_range] at hget
    rw [if_pos hin, if_pos hin, hget, List.getD_eq_getElem?_getD, List.getElem?_eq_getElem hj]
    rfl
  · rw [if_neg hin, if_neg hin]
    rfl

end Sys2Proof.Tables
end

section
/-! SUPPORT. TABLE GET (R15, R83, R96), the lesson list (R54, R55, R72), the progress records and the review list (R67 to R71). -/

namespace Sys2Proof.Lists

open Sys2Proof.Machine Sys2Proof.Link Sys2Proof.ArgBytes Sys2Proof.Words Sys2Proof.Tables

/-! ### TABLE GET (R15, R83, R96) -/

theorem tableGet_arg_start (a b : Nat) (h : b < 256) : byteAt (leBytes 1 a ++ leBytes 1 b) 1 = b := by
  simp [byteAt, leBytes, Nat.mod_eq_of_lt h]

theorem tableGet_arg_selector (a b : Nat) (h : a < 256) : byteAt (leBytes 1 a ++ leBytes 1 b) 0 = a := by
  simp [Nat.mod_eq_of_lt h]

/-- R171: a TABLE GET whose start is in range passes. -/
theorem tableGetChecks_pass (a b : Nat) (bad : Bool) (ha : a ≤ 2) (hbad : bad = false) :
    ∀ c ∈ tableGetChecks (leBytes 1 a ++ leBytes 1 b) bad, c.1 = false := by
  simp [tableGetChecks, tableGet_arg_selector a b (by omega), ha, hbad]

/-- R171: a TABLE GET out of range is cause 14. -/
theorem tableGetChecks_start (a b : Nat) (ha : a ≤ 2) :
    firstCause (tableGetChecks (leBytes 1 a ++ leBytes 1 b) true) = some 14 := by
  simp [tableGetChecks, firstCause, tableGet_arg_selector a b (by omega), ha]

theorem window_length {α : Type} (l : List α) (i n : Nat) : (window l i n).length = min n (l.length - i) := by simp [window]

theorem padTo_four_three (a b c : Nat) : padTo 4 (leBytes 1 a ++ leBytes 1 b ++ leBytes 1 c)
    = [BitVec.ofNat 8 a, BitVec.ofNat 8 b, BitVec.ofNat 8 c, 0#8] := by simp [padTo, leBytes]

/-- Settles O27: each table from a start in range, and the refusals by cause. -/
theorem tableGetReturnsTheTables : Obligations.TableGetReturnsTheTables := by
  intro s tag start hawake hsized
  have hgood (x : Nat) : badLetter x = false ↔ 1 ≤ x ∧ x ≤ 48 := by simp [badLetter, Config.letters]; omega
  refine ⟨fun hlow hhigh => ?alphabet, fun hhigh => ?keymap, fun hhigh => ?responses, fun hsmall =>
    ⟨fun hbad => ?_, fun hbad => ?_, fun hbad => ?_, fun selector hlow hhigh => ?_, fun arg hlen hfits => ?_⟩⟩
  case alphabet =>
    have hstart := tableGet_arg_start 0 start (by omega)
    refine exec_answered _ 0x17#8 tag _ handleTableGetAlphabet s _ .ok _ _ _ rfl hawake (by simp) ?_
      (padTo_four_three 0 start (min 12 (49 - start)))
    rw [handleTableGetAlphabet, hstart,
      checked_pass _ _ _ (tableGetChecks_pass 0 start _ (by decide) ((hgood start).mpr ⟨hlow, hhigh⟩))]
    simp only [window_length, hsized.alphabet, show 48 - (start - 1) = 49 - start by omega]
    rfl
  case keymap =>
    have hstart := tableGet_arg_start 1 start (by omega)
    refine exec_answered _ 0x17#8 tag _ handleTableGetKeymap s _ .ok _ _ _ rfl hawake (by simp) ?_
      (padTo_four_three 1 start (min 12 (80 - start)))
    rw [handleTableGetKeymap, hstart, checked_pass _ _ _ (tableGetChecks_pass 1 start _ (by decide) (by simpa using hhigh))]
    simp only [window_length, hsized.keymap]
    rfl
  case responses =>
    have hstart := tableGet_arg_start 2 start (by omega)
    refine exec_answered _ 0x17#8 tag _ handleTableGetResponses s _ .ok _ _ _ rfl hawake (by simp) ?_
      (padTo_four_three 2 start (min 2 (16 - start)))
    rw [handleTableGetResponses, hstart, checked_pass _ _ _ (tableGetChecks_pass 2 start _ (by decide) (by simpa using hhigh))]
    simp only [window_length, hsized.rows]
    rfl
  · refine exec_answered _ 0x17#8 tag _ handleTableGetAlphabet s _ .badArgs _ _ [] rfl hawake (by simp) ?_ (padTo_four_one 14)
    have hbad' : badLetter start = true := by simp [badLetter, Config.letters]; omega
    rw [handleTableGetAlphabet, tableGet_arg_start 0 start hsmall, hbad']
    exact checked_badArgs _ _ _ 14 (tableGetChecks_start 0 start (by decide))
  · refine exec_answered _ 0x17#8 tag _ handleTableGetKeymap s _ .badArgs _ _ [] rfl hawake (by simp) ?_ (padTo_four_one 14)
    rw [handleTableGetKeymap, tableGet_arg_start 1 start hsmall, decide_eq_true hbad]
    exact checked_badArgs _ _ _ 14 (tableGetChecks_start 1 start (by decide))
  · refine exec_answered _ 0x17#8 tag _ handleTableGetResponses s _ .badArgs _ _ [] rfl hawake (by simp) ?_ (padTo_four_one 14)
    rw [handleTableGetResponses, tableGet_arg_start 2 start hsmall, decide_eq_true hbad]
    exact checked_badArgs _ _ _ 14 (tableGetChecks_start 2 start (by decide))
  · refine exec_answered _ 0x17#8 tag _ handleTableGetAlphabet s _ .badArgs _ _ [] rfl hawake (by simp) ?_ (padTo_four_one 7)
    exact checked_badArgs _ _ _ 7 (by simp [tableGetChecks, firstCause, tableGet_arg_selector selector start hhigh, hlow])
  · refine exec_answered _ 0x17#8 tag _ handleTableGetAlphabet s _ .badArgs _ _ [] rfl hawake hfits ?_ (padTo_four_one 1)
    exact checked_badArgs _ _ _ 1 (by simp [tableGetChecks, firstCause, hlen])

/-! ### The lesson list (R54, R55, R72) -/

/-- The form of one lesson item: the word and its retries. -/
def lessonForm (x : Nat × Nat) : List Byte := leBytes 2 x.1 ++ leBytes 1 x.2

theorem lessonForm_length (x : Nat × Nat) : (lessonForm x).length = 3 := rfl

section
variable {arg : List Byte} {items : List (Nat × Nat)}

/-- R54: the entries of an argument are read back, retries clamped. -/
theorem lessonEntries_read (hdrop : arg.drop 1 = items.flatMap lessonForm) (hn : byteAt arg 0 = items.length)
    (hsmall : ∀ x ∈ items, x.1 < 512 ∧ x.2 < 256) :
    lessonEntriesOf arg = items.map (fun x => LessonEntry.mk x.1 (min 3 x.2)) := by
  rw [lessonEntriesOf, hn]
  exact blocks_read (rest := []) (k := 3) (read := fun bs => LessonEntry.mk (fieldAt bs 0 2) (min 3 (byteAt bs 2)))
    (by rw [hdrop, List.append_nil])
    (fun j => by simp only [byteAt_drop, fieldAt_drop]; grind)
    (fun x _ => lessonForm_length x)
    (fun x hx more => by
      have hw := Nat.mod_eq_of_lt (show x.1 < 65536 by have := (hsmall x hx).1; omega)
      have hr := Nat.mod_eq_of_lt (hsmall x hx).2
      simp [lessonForm, List.append_assoc, hw, hr])

/-- R54: the retries of an argument are read back. -/
theorem lessonRetries_read (hdrop : arg.drop 1 = items.flatMap lessonForm) (hsmall : ∀ x ∈ items, x.1 < 512 ∧ x.2 < 256) :
    (List.range items.length).map (fun j => byteAt arg (3 + 3 * j)) = items.map Prod.snd :=
  blocks_read (rest := []) (k := 3) (read := fun bs => byteAt bs 2) (by rw [hdrop, List.append_nil])
    (fun j => by simp only [byteAt_drop]; grind)
    (fun x _ => lessonForm_length x)
    (fun x hx more => by simp [lessonForm, List.append_assoc, Nat.mod_eq_of_lt (hsmall x hx).2])

end

/-- R54, R72: what joins the lesson list, counted. -/
theorem appendLesson_answer (es : List LessonEntry) (v : Vks) :
    (appendLesson es v).lesson.entries.length - v.lesson.entries.length = (es.take (32 - v.lesson.entries.length)).length
    ∧ (appendLesson es v).lesson.entries.length
      = v.lesson.entries.length + (es.take (32 - v.lesson.entries.length)).length := by
  have htotal : (appendLesson es v).lesson.entries.length
      = v.lesson.entries.length + (es.take (32 - v.lesson.entries.length)).length := List.length_append
  exact ⟨by rw [htotal, Nat.add_sub_cancel_left], htotal⟩

theorem startChecks_pass (start : Nat) (h : start ≤ 31) : ∀ c ∈ startChecks (leBytes 1 start), c.1 = false := by
  simp [startChecks, Nat.mod_eq_of_lt (show start < 256 by omega), h]

theorem byteAt_start (start : Nat) (h : start ≤ 31) : byteAt (leBytes 1 start) 0 = start := by
  simp [Nat.mod_eq_of_lt (show start < 256 by omega)]

/-- R54: LESSON ADD on an argument that passes. -/
theorem exec_lessonAdd (s : State) (tag : Byte) (items : List (Nat × Nat)) (hawake : Awake s) (hone : 1 ≤ items.length)
    (hfew : items.length ≤ 18) (hsmall : ∀ x ∈ items, x.1 < 512 ∧ x.2 < 256) :
    let fit := (items.map (fun x => LessonEntry.mk x.1 (min 3 x.2))).take (32 - s.vks.lesson.entries.length)
    exec (.lessonAdd tag (leBytes 1 items.length ++ items.flatMap lessonForm)) s
      = .next (withPart s (replying 0x28#8 tag .ok
          [BitVec.ofNat 8 fit.length, BitVec.ofNat 8 (s.vks.lesson.entries.length + fit.length),
            if ∃ x ∈ items, 3 < x.2 then 1#8 else 0#8, 0#8] []
          { s.vks with lesson := { s.vks.lesson with entries := s.vks.lesson.entries ++ fit } })) := by
  intro fit
  have hn : byteAt (leBytes 1 items.length ++ items.flatMap lessonForm) 0 = items.length := by
    rw [byteAt_one_front, Nat.mod_eq_of_lt (by omega)]
  have hlen : (leBytes 1 items.length ++ items.flatMap lessonForm).length = 1 + 3 * items.length := by
    rw [List.length_append, leBytes_length, flatMap_block_length lessonForm 3 items fun x _ => lessonForm_length x]
  have hdrop : (leBytes 1 items.length ++ items.flatMap lessonForm).drop 1 = items.flatMap lessonForm := rfl
  generalize leBytes 1 items.length ++ items.flatMap lessonForm = arg at hn hlen hdrop
  have hread := lessonEntries_read hdrop hn hsmall
  have hpass : ∀ c ∈ lessonAddChecks arg, c.1 = false := by
    have hword (x) (hx : x ∈ items) : ¬ 512 ≤ x.1 := Nat.not_le.mpr (hsmall x hx).1
    simp only [lessonAddChecks, hread, hlen, hn, List.forall_mem_cons, List.any_map, List.any_eq_false, Function.comp_apply,
      Bool.or_eq_false_iff, decide_eq_false_iff_not, decide_eq_true_eq, Config.words]
    exact ⟨⟨by omega, by omega⟩, ⟨by omega, by omega⟩, hword, by simp⟩
  have hmark : flagByte ((List.range items.length).any (fun j => decide (3 < byteAt arg (3 + 3 * j))))
      = if ∃ x ∈ items, 3 < x.2 then 1#8 else 0#8 := by
    have hany : (List.range items.length).any (fun j => decide (3 < byteAt arg (3 + 3 * j)))
        = (items.map Prod.snd).any (fun r => decide (3 < r)) := by
      rw [← lessonRetries_read hdrop hsmall, List.any_map]
      rfl
    have hexists : (items.map Prod.snd).any (fun r => decide (3 < r)) = true ↔ ∃ x ∈ items, 3 < x.2 := by
      simp [List.any_eq_true]
    rw [hany, flagByte]
    simp only [hexists]
  obtain ⟨hcount, htotal⟩ := appendLesson_answer (items.map fun x => LessonEntry.mk x.1 (min 3 x.2)) s.vks
  refine exec_answered _ 0x28#8 tag _ handleLessonAdd s _ .ok (leBytes 1 fit.length
    ++ leBytes 1 (s.vks.lesson.entries.length + fit.length) ++ [if ∃ x ∈ items, 3 < x.2 then 1#8 else 0#8]) _ [] rfl hawake
    (by omega) ?_ (by simp [padTo, leBytes])
  rw [handleLessonAdd, checked_pass _ _ _ hpass, hread, hn, hmark]
  dsimp only
  rw [hcount, htotal]
  rfl

/-- Settles O28: the four requests of the lesson list. -/
theorem lessonListRequests : Obligations.LessonListRequests := by
  intro s tag hawake
  refine ⟨fun items hone hfew hsmall => exec_lessonAdd s tag items hawake hone hfew hsmall, ?clear, ?review,
    fun start hstart => ?get⟩
  case clear =>
    refine exec_answered _ 0x29#8 tag _ handleLessonClear s _ .ok _ _ [] rfl hawake (Nat.zero_le _) ?_ (padTo_four_one _)
    rw [handleLessonClear, withoutArgument_nil]
    rfl
  case review =>
    obtain ⟨hcount, htotal⟩ := appendLesson_answer (s.vks.lesson.review.map fun w => LessonEntry.mk w 0) s.vks
    refine exec_answered _ 0x2A#8 tag _ handleLessonFromReview s _ .ok (leBytes 1
      ((s.vks.lesson.review.map (fun w => LessonEntry.mk w 0)).take (32 - s.vks.lesson.entries.length)).length
      ++ leBytes 1 (s.vks.lesson.entries.length
        + ((s.vks.lesson.review.map (fun w => LessonEntry.mk w 0)).take (32 - s.vks.lesson.entries.length)).length)) _ [] rfl
      hawake (Nat.zero_le _) ?_ (by simp [padTo, leBytes])
    rw [handleLessonFromReview, withoutArgument_nil]
    dsimp only
    rw [hcount, htotal]
    rfl
  case get =>
    refine exec_answered _ 0x2D#8 tag _ handleLessonGet s _ .ok (leBytes 1 s.vks.lesson.entries.length ++ leBytes 1 start
      ++ leBytes 1 (min 16 (s.vks.lesson.entries.length - start)) ++ [flagByte s.vks.lesson.auto]) _ _ rfl hawake (by simp) ?_
      (by simp [padTo, leBytes, flagByte])
    rw [handleLessonGet, checked_pass _ _ _ (startChecks_pass start hstart), byteAt_start start hstart]
    simp only [window_length]
    rfl

/-! ### Progress and review (R67 to R71) -/

/-- The argument of a PROGRESS PUT, field behind field. -/
def progressForm (w attempts passes assisted misses streak slips verdict mastery : Nat) : List Byte :=
  leBytes 2 w ++ (leBytes 2 attempts ++ (leBytes 2 passes ++ (leBytes 2 assisted ++ (leBytes 2 misses ++ (leBytes 1 streak
    ++ (leBytes 1 slips ++ (leBytes 1 verdict ++ leBytes 1 mastery)))))))

theorem Mastery_ofCode_code (m : Mastery) : Mastery.ofCode m.code = m := by cases m <;> rfl

theorem Mastery_code_le (m : Mastery) : m.code ≤ 3 := by cases m <;> decide

theorem Mastery_code_zero (m : Mastery) : m.code = 0 ↔ m = .new := by cases m <;> decide

/-- R68: PROGRESS PUT on an argument that passes. -/
theorem exec_progressPut (s : State) (tag : Byte) (w attempts passes assisted misses streak slips verdict : Nat) (m : Mastery)
    (hawake : Awake s) (hw : w < 512) (ha : attempts < 65536) (hp : passes < 65536) (hs : assisted < 65536)
    (hm : misses < 65536) (hstreak : streak < 256) (hslips : slips ≤ 2) (hverdict : verdict ≤ 7)
    (hsum : attempts < 65535 → passes + assisted + misses = attempts) (hnew : m = .new ↔ attempts = 0) :
    exec (.progressPut tag (progressForm w attempts passes assisted misses streak slips verdict m.code)) s
      = .next (withPart s (replying 0x31#8 tag .ok
        [BitVec.ofNat 8 m.code, if m = .slipping then 1#8 else 0#8,
          if slips = (if m = .slipping then 1 else 0) then 0#8 else 1#8, 0#8] []
        { s.vks with lesson := { s.vks.lesson with records := s.vks.lesson.records.set w (ProgressRecord.mk
            attempts passes assisted misses streak (if m = .slipping then 1 else 0) verdict m) } })) := by
  have hcode := Mastery_code_le m
  have hlen : (progressForm w attempts passes assisted misses streak slips verdict m.code).length = 14 := by simp [progressForm]
  have hread : let arg := progressForm w attempts passes assisted misses streak slips verdict m.code
      fieldAt arg 0 2 = w ∧ fieldAt arg 2 2 = attempts ∧ fieldAt arg 4 2 = passes ∧ fieldAt arg 6 2 = assisted
        ∧ fieldAt arg 8 2 = misses ∧ byteAt arg 10 = streak ∧ byteAt arg 11 = slips ∧ byteAt arg 12 = verdict
        ∧ byteAt arg 13 = m.code := by
    have h256 (x : Nat) (h : x < 256) : x % 256 = x := Nat.mod_eq_of_lt h
    have h65536 (x : Nat) (h : x < 65536) : x % 65536 = x := Nat.mod_eq_of_lt h
    simp [progressForm, h65536 w (by omega), h65536 attempts ha, h65536 passes hp, h65536 assisted hs, h65536 misses hm,
      h256 streak hstreak, h256 slips (by omega), h256 verdict (by omega), h256 m.code (by omega)]
  generalize progressForm w attempts passes assisted misses streak slips verdict m.code = arg at hlen hread
  obtain ⟨h0, h2, h4, h6, h8, h10, h11, h12, h13⟩ := hread
  have hpass : ∀ c ∈ progressPutChecks arg, c.1 = false := by
    have hagree : decide (m.code = 0) = decide (attempts = 0) := by rw [decide_eq_decide, Mastery_code_zero, hnew]
    have hadds : ¬ (attempts < 65535 ∧ passes + assisted + misses ≠ attempts) := fun h => h.2 (hsum h.1)
    simp only [progressPutChecks, hlen, h0, h2, h4, h6, h8, h11, h12, h13, hagree, List.forall_mem_cons, Bool.or_eq_false_iff,
      decide_eq_false_iff_not, Config.words, bne_self_eq_false, Bool.and_eq_false_iff]
    exact ⟨by omega, by omega, by omega, by omega, trivial, by simp⟩
  refine exec_answered _ 0x31#8 tag _ handleProgressPut s _ .ok (leBytes 1 m.code ++ leBytes 1 (if m = .slipping then 1 else 0)
    ++ [flagByte (decide ((if m = .slipping then 1 else 0) ≠ slips))]) _ [] rfl hawake (by omega) ?_ ?_
  · rw [handleProgressPut, checked_pass _ _ _ hpass]
    simp only [progressRecordOf, h0, h2, h4, h6, h8, h10, h11, h12, h13, Mastery_ofCode_code]
    rfl
  · have hflag (a b : Nat) : flagByte (decide (a ≠ b)) = if b = a then 0#8 else 1#8 := by
      by_cases h : a = b <;> simp [flagByte, h, eq_comm]
    rw [hflag]
    by_cases hslipping : m = .slipping <;> simp [padTo, leBytes, hslipping]

/-- Settles O30: the requests of the progress records and the review list. -/
theorem progressAndReviewRequests : Obligations.ProgressAndReviewRequests := by
  intro s tag hawake hsized
  refine ⟨fun w n hw hone hfour => ?get, fun w attempts passes assisted misses streak slips verdict m hw ha hp hs hm hstreak
    hslips hverdict hsum hnew => ?put, fun w hw => ?clear, fun x => ?clearAll, fun start hstart => ?review, ?reviewClear⟩
  case get =>
    have hword : fieldAt (leBytes 2 w ++ leBytes 1 n) 0 2 = w := field_two_front w _ (by omega)
    have hcount : byteAt (leBytes 2 w ++ leBytes 1 n) 2 = n := by
      simp [Nat.mod_eq_of_lt (show n < 256 by omega)]
    refine exec_answered _ 0x30#8 tag _ handleProgressGet s _ .ok (leBytes 2 w ++ leBytes 1 (min n (512 - w))) _ _ rfl hawake
      (by simp) ?_ (by simp [padTo, leBytes])
    rw [handleProgressGet, checked_pass _ _ _ (by simp [hword, hcount, Config.words]; omega), hword, hcount]
    simp only [window_length, hsized.records]
    rfl
  case put =>
    have hform : leBytes 2 w ++ leBytes 2 attempts ++ leBytes 2 passes ++ leBytes 2 assisted ++ leBytes 2 misses
          ++ leBytes 1 streak ++ leBytes 1 slips ++ leBytes 1 verdict ++ leBytes 1 m.code
        = progressForm w attempts passes assisted misses streak slips verdict m.code := by
      simp only [progressForm, List.append_assoc]
    rw [hform]
    exact exec_progressPut s tag w attempts passes assisted misses streak slips verdict m hawake hw ha hp hs hm hstreak hslips
      hverdict hsum hnew
  case clear =>
    have hword : fieldAt (leBytes 2 w) 0 2 = w := field_two w (by omega)
    refine exec_answered _ 0x32#8 tag _ handleProgressClear s _ .ok _ _ [] rfl hawake (by simp) ?_ (padTo_four_one _)
    rw [handleProgressClear, checked_pass _ _ _ (by simp [hword, hw, Config.words, byteAt])]
    simp only [List.singleton_append, fieldAt_cons, hword, show byteAt (0#8 :: leBytes 2 w) 0 = 0 from rfl, if_true]
    rfl
  case clearAll =>
    refine exec_answered _ 0x32#8 tag _ handleProgressClear s _ .ok _ _ [] rfl hawake (by simp) ?_ (padTo_four_one _)
    rw [handleProgressClear, checked_pass _ _ _ (by simp [byteAt])]
    rfl
  case review =>
    refine exec_answered _ 0x33#8 tag _ handleReviewGet s _ .ok _ _ _ rfl hawake (by simp) ?_
      (padTo_four_three s.vks.lesson.review.length start (min 24 (s.vks.lesson.review.length - start)))
    rw [handleReviewGet, checked_pass _ _ _ (startChecks_pass start hstart), byteAt_start start hstart]
    simp only [window_length]
    rfl
  case reviewClear =>
    refine exec_answered _ 0x34#8 tag _ handleReviewClear s _ .ok _ _ [] rfl hawake (Nat.zero_le _) ?_ (padTo_four_one _)
    rw [handleReviewClear, withoutArgument_nil]
    rfl

end Sys2Proof.Lists
end

section
/-! SUPPORT. Grading (R34), closes counted in the record (R60, R63 to R65, R70, R71), and the mix (R154). -/

namespace Sys2Proof.Grading

open Sys2Proof.Machine Sys2Proof.EventMoves

/-! ### Where two lists differ (R34) -/

theorem letterAt_of_gt {l : List Nat} {p : Nat} (h : l.length < p) : letterAt l p = none := by
  rw [letterAt, if_neg (by omega), List.getElem?_eq_none (by omega)]

/-- Positions beyond both lists, and position 0, do not differ. -/
theorem mem_differences_iff (a t : List Nat) (p : Nat) : p ∈ differences a t ↔ letterAt a p ≠ letterAt t p := by
  simp only [differences, List.mem_filter, List.mem_map, List.mem_range, decide_eq_true_eq, ne_eq, and_iff_right_iff_imp]
  intro hne
  have hzero : p ≠ 0 := fun h => hne (by rw [h]; rfl)
  have hle : p ≤ max a.length t.length := by
    by_contra hgt
    exact hne (by rw [letterAt_of_gt (by omega), letterAt_of_gt (by omega)])
  exact ⟨p - 1, by omega, by omega⟩

theorem differences_pairwise (a t : List Nat) : (differences a t).Pairwise (· < ·) :=
  (List.pairwise_lt_range.map _ fun _ _ h => Nat.succ_lt_succ h).filter _

/-- The positions of difference are known by their members. -/
theorem differences_eq {a t l : List Nat} (hl : l.Pairwise (· < ·)) (h : ∀ p, letterAt a p ≠ letterAt t p ↔ p ∈ l) :
    differences a t = l :=
  (differences_pairwise a t).eq_of_mem_iff hl fun p => (mem_differences_iff a t p).trans (h p)

theorem ext_letterAt {a t : List Nat} (h : ∀ p, letterAt a p = letterAt t p) : a = t :=
  List.ext_getElem? fun i => by simpa [letterAt] using h (i + 1)

/-- R34: the smallest position whose removal gives the other list. -/
theorem firstRemoval_eq_some {long short : List Nat} {p : Nat}
    (hp : 1 ≤ p ∧ p ≤ long.length ∧ long.eraseIdx (p - 1) = short)
    (hfirst : ∀ q, q < p → ¬ (1 ≤ q ∧ q ≤ long.length ∧ long.eraseIdx (q - 1) = short)) :
    firstRemoval long short = some p := by
  obtain ⟨hlow, hhigh, hgives⟩ := hp
  rw [firstRemoval, List.find?_range_eq_some.mpr
    (⟨by simpa using hgives, by rw [List.mem_range]; omega, fun j hj => ?_⟩ : _ ∧ p - 1 ∈ _ ∧ _), Option.map_some]
  · exact congrArg some (by omega)
  · simpa using fun heq => hfirst (j + 1) (by omega) ⟨by omega, by omega, heq⟩

theorem firstRemoval_eq_none {long short : List Nat}
    (h : ∀ p, ¬ (1 ≤ p ∧ p ≤ long.length ∧ long.eraseIdx (p - 1) = short)) : firstRemoval long short = none := by
  rw [firstRemoval, List.find?_range_eq_none.mpr fun i hi => ?_, Option.map_none]
  simpa using fun heq => h (i + 1) ⟨by omega, by omega, heq⟩

theorem length_of_removal {long short : List Nat} {p : Nat} (h : 1 ≤ p ∧ p ≤ long.length ∧ long.eraseIdx (p - 1) = short) :
    short.length + 1 = long.length := by
  obtain ⟨hlow, hhigh, rfl⟩ := h
  rw [List.length_eraseIdx, if_pos (by omega)]
  omega

/-! ### The six rules (R34) -/

theorem grade_of_equal_length {a t : List Nat} (hne : a ≠ t) (hlen : a.length = t.length) : grade a t =
    (match differences a t with
     | [p] => (.substitution, p)
     | [p, q] =>
       if q = p + 1 ∧ letterAt a p = letterAt t q ∧ letterAt a q = letterAt t p then (.swap, p) else (.wrong, 0)
     | _ => (.wrong, 0)) :=
  (if_neg hne).trans (if_pos hlen)

theorem grade_of_one_short {a t : List Nat} (hlen : a.length + 1 = t.length) :
    grade a t = (match firstRemoval t a with | some i => (.missing, i) | none => (.wrong, 0)) :=
  (if_neg fun h => by subst h; omega).trans ((if_neg (by omega)).trans (if_pos hlen))

theorem grade_of_one_long {a t : List Nat} (hlen : t.length + 1 = a.length) :
    grade a t = (match firstRemoval a t with | some i => (.extra, i) | none => (.wrong, 0)) :=
  (if_neg fun h => by subst h; omega).trans ((if_neg (by omega)).trans ((if_neg (by omega)).trans (if_pos hlen.symm)))

theorem grade_of_other_length {a t : List Nat} (hlen : a.length ≠ t.length) (hshort : a.length + 1 ≠ t.length)
    (hlong : t.length + 1 ≠ a.length) : grade a t = (.wrong, 0) := by
  rw [Machine.grade, if_neg (fun h => hlen (by rw [h])), if_neg hlen, if_neg hshort, if_neg (Ne.symm hlong)]

/-- Settles O35: one rule after the other, the equal-length ones by the positions of difference. -/
theorem gradingFollowsTheSixRules : Obligations.GradingFollowsTheSixRules := by
  intro a t oneOff swapped missing extra
  refine ⟨fun heq => if_pos heq, fun hlen p hp => ?substitution, fun hlen p hp => ?swap, fun p hp hfirst => ?missing,
    fun p hp hfirst => ?extra, fun hne hequal hmissing hextra => ?wrong⟩
  case substitution =>
    obtain ⟨-, -, hdiff, hsame⟩ := hp
    have hne : a ≠ t := fun h => hdiff (by rw [h])
    have hone : differences a t = [p] := differences_eq (List.pairwise_singleton _ _) fun q => by
      rw [List.mem_singleton]
      exact ⟨fun h => by_contra fun hq => h (hsame q hq), fun h => h ▸ hdiff⟩
    rw [grade_of_equal_length hne hlen, hone]
  case swap =>
    obtain ⟨-, -, hdiff, hleft, hright, hsame⟩ := hp
    have hne : a ≠ t := fun h => hdiff (by rw [h])
    have hnext : letterAt a (p + 1) ≠ letterAt t (p + 1) := by rw [hright, ← hleft]; exact Ne.symm hdiff
    have htwo : differences a t = [p, p + 1] := differences_eq (by simp) fun q => by
      rw [List.mem_pair]
      exact ⟨fun h => by_contra fun hq => h (hsame q (fun e => hq (.inl e)) fun e => hq (.inr e)), fun h => by
        rcases h with rfl | rfl
        · exact hdiff
        · exact hnext⟩
    rw [grade_of_equal_length hne hlen, htwo]
    exact if_pos ⟨rfl, hleft, hright⟩
  case missing =>
    rw [grade_of_one_short (length_of_removal hp), firstRemoval_eq_some hp hfirst]
  case extra =>
    rw [grade_of_one_long (length_of_removal hp), firstRemoval_eq_some hp hfirst]
  case wrong =>
    by_cases hlen : a.length = t.length
    · have hmem := mem_differences_iff a t
      have hrange (p) (hp : letterAt a p ≠ letterAt t p) : 1 ≤ p ∧ p ≤ t.length := by
        refine ⟨Nat.one_le_iff_ne_zero.mpr fun h => hp (by rw [h]; rfl), ?_⟩
        by_contra hgt
        exact hp (by rw [letterAt_of_gt (by omega), letterAt_of_gt (by omega)])
      rw [grade_of_equal_length hne hlen]
      rcases hd : differences a t with _ | ⟨p, _ | ⟨q, _ | ⟨r, rest⟩⟩⟩
      · rfl
      · rw [hd] at hmem
        have hp : letterAt a p ≠ letterAt t p := (hmem p).mp (by simp)
        exact absurd ⟨hlen, .inl ⟨(hrange p hp).1, (hrange p hp).2, hp, fun i hi =>
          by_contra fun h => hi (by simpa using (hmem i).mpr h)⟩⟩ (hequal p)
      · rw [hd] at hmem
        have hp : letterAt a p ≠ letterAt t p := (hmem p).mp (by simp)
        have hq : letterAt a q ≠ letterAt t q := (hmem q).mp (by simp)
        refine if_neg fun ⟨hnext, hleft, hright⟩ => ?_
        subst hnext
        exact hequal p ⟨hlen, .inr ⟨(hrange p hp).1, (hrange _ hq).2, hp, hleft, hright, fun i hi hi' =>
          by_contra fun h => by
            rcases List.mem_pair.mp ((hmem i).mpr h) with e | e
            · exact hi e
            · exact hi' e⟩⟩
      · rfl
    · by_cases hshort : a.length + 1 = t.length
      · rw [grade_of_one_short hshort, firstRemoval_eq_none hmissing]
      · by_cases hlong : t.length + 1 = a.length
        · rw [grade_of_one_long hlong, firstRemoval_eq_none hextra]
        · exact grade_of_other_length hlen hshort hlong

/-! ### The mix (R154) -/

theorem abs_mul_le {x g : Int} (hx : |x| ≤ 32768) (h0 : 0 ≤ g) (h1 : g ≤ 16384) : |x * g| ≤ 536870912 := by
  rw [abs_mul, abs_of_nonneg h0]
  calc |x| * g ≤ 32768 * 16384 := Int.mul_le_mul hx h1 h0 (by decide)
    _ = 536870912 := by decide

/-- R154: rounded to nearest, ties away from zero. -/
theorem roundMix_nearest (acc : Int) :
    |acc - 16384 * roundMix acc| ≤ 8192 ∧ (|acc - 16384 * roundMix acc| = 8192 → |acc| < |16384 * roundMix acc|) := by
  unfold roundMix
  split
  · refine ⟨by rw [abs_le]; omega, fun h => ?_⟩
    rw [abs_of_nonneg (by omega), abs_of_nonneg (by omega)]
    rcases abs_eq (by decide) |>.mp h with h | h <;> omega
  · refine ⟨by rw [abs_le]; omega, fun h => ?_⟩
    rw [abs_of_nonpos (by omega), abs_of_nonpos (by omega)]
    rcases abs_eq (by decide) |>.mp h with h | h <;> omega

/-- Settles O51: the bound term by term, and the rounded sum as the witness. -/
theorem mixIsRoundedOnceAndLimited : Obligations.MixIsRoundedOnceAndLimited := by
  refine ⟨fun h m e gh gm ge hh hm he gh0 gh1 gm0 gm1 ge0 ge1 => ?bound, fun acc => ?rounded⟩
  case bound =>
    calc |h * gh + m * gm + e * ge| ≤ |h * gh| + |m * gm| + |e * ge| := abs_add_three _ _ _
      _ ≤ 536870912 + 536870912 + 536870912 := by
        have := abs_mul_le hh gh0 gh1
        have := abs_mul_le hm gm0 gm1
        have := abs_mul_le he ge0 ge1
        omega
      _ = 1610612736 := by decide
  case rounded =>
    obtain ⟨hnear, htie⟩ := roundMix_nearest acc
    refine ⟨roundMix acc, hnear, htie, fun hhigh => ?_, fun hlow => ?_, fun _ _ => ?_⟩
    · have hout : mixOutput acc = 32767 := by
        rw [mixOutput, limitSample, if_neg (by omega), if_pos hhigh]
      exact ⟨hout, decide_eq_true (by rw [hout]; omega)⟩
    · have hout : mixOutput acc = -32768 := by rw [mixOutput, limitSample, if_pos hlow]
      exact ⟨hout, decide_eq_true (by rw [hout]; omega)⟩
    · have hout : mixOutput acc = roundMix acc := by
        rw [mixOutput, limitSample, if_neg (by omega), if_neg (by omega)]
      exact ⟨hout, decide_eq_false (by rw [hout]; simp)⟩

/-! ### Counted closes (R60, R63 to R65, R70, R71) -/

theorem satSucc_eq {bound n : Nat} (h : n ≤ bound) : satSucc bound n = min bound (n + 1) := by
  unfold satSucc
  split <;> omega

/-- The record a counted close writes. -/
theorem record_countClose_same (v : Vks) (w : Nat) (verdict : Verdict) (cls : CloseClass) (origin : Origin)
    (hsize : v.lesson.records.length = 512) (hw : w < 512) :
    (countClose w verdict cls origin v).record w = (v.record w).count v.params.knownStreak verdict cls := by
  have hwrite := Tables.readAt_writeAt_same v.lesson.records w ((v.record w).count v.params.knownStreak verdict cls)
    ProgressRecord.zero (by omega)
  unfold countClose
  dsimp only
  split
  · exact hwrite
  · simpa [Vks.record, raiseNotice_lesson] using hwrite

theorem record_countClose_other (v : Vks) (w x : Nat) (verdict : Verdict) (cls : CloseClass) (origin : Origin) (hx : x ≠ w) :
    (countClose w verdict cls origin v).record x = v.record x := by
  have hwrite := Tables.readAt_writeAt_other v.lesson.records w x ((v.record w).count v.params.knownStreak verdict cls)
    ProgressRecord.zero (Ne.symm hx)
  unfold countClose
  dsimp only
  split
  · exact hwrite
  · simpa [Vks.record] using hwrite

/-- The lists after a counted close. -/
theorem countClose_lists (v : Vks) (w : Nat) (verdict : Verdict) (cls : CloseClass) (origin : Origin) :
    (countClose w verdict cls origin v).lesson.review
        = reviewAfter w cls (v.record w).mastery ((v.record w).count v.params.knownStreak verdict cls).mastery v.lesson.review
    ∧ (countClose w verdict cls origin v).lesson.entries = requeueAfter w cls origin v.lesson.entries
    ∧ (countClose w verdict cls origin v).lesson.auto = v.lesson.auto
    ∧ (countClose w verdict cls origin v).lesson.gapTimer = v.lesson.gapTimer
    ∧ (countClose w verdict cls origin v).attempt = v.attempt := by
  unfold countClose
  dsimp only
  split
  · exact ⟨rfl, rfl, rfl, rfl, rfl⟩
  · simp

/-- R65: MASTERY is raised where the mastery changed. -/
theorem countClose_notices (v : Vks) (w : Nat) (verdict : Verdict) (cls : CloseClass) (origin : Origin) :
    let r := v.record w
    let r' := r.count v.params.knownStreak verdict cls
    (r'.mastery = r.mastery → (countClose w verdict cls origin v).notices = v.notices)
    ∧ (r'.mastery ≠ r.mastery → v.notices.queue.length < 16 → (countClose w verdict cls origin v).notices
      = { v.notices with queue := v.notices.queue ++ [.mastery w r.mastery.code r'.mastery.code r'.streak] }) := by
  refine ⟨fun hsame => ?_, fun hchanged hroom => ?_⟩
  · unfold countClose
    simp only [hsame, if_true]
  · unfold countClose
    simp only [if_neg hchanged, raiseNotice, Config.queuePlaces, if_pos hroom]

/-- R64: the mastery and the slips of a counted close, row by row. -/
theorem count_mastery (known : Nat) (verdict : Verdict) (cls : CloseClass) (r : ProgressRecord) (hr : r.streak ≤ 255) :
    let streak := if cls = .pass then min 255 (r.streak + 1) else 0
    let t := r.count known verdict cls
    t.streak = streak
      ∧ (r.mastery = .new ∨ r.mastery = .learning → t.slips = r.slips
        ∧ t.mastery = if cls = .pass ∧ known ≤ streak then .known else .learning)
      ∧ (r.mastery = .known → cls = .pass → t.mastery = .known ∧ t.slips = r.slips)
      ∧ (r.mastery = .known → cls ≠ .pass → t.mastery = .slipping ∧ t.slips = 1)
      ∧ (r.mastery = .slipping → cls = .pass → known ≤ streak → t.mastery = .known ∧ t.slips = 0)
      ∧ (r.mastery = .slipping → cls = .pass → streak < known → t.mastery = .slipping ∧ t.slips = r.slips)
      ∧ (r.mastery = .slipping → cls ≠ .pass → r.slips = 0 → t.mastery = .slipping ∧ t.slips = 1)
      ∧ (r.mastery = .slipping → cls ≠ .pass → 1 ≤ r.slips → t.mastery = .learning ∧ t.slips = 0) := by
  intro streak t
  have hstreak : t.streak = streak := by
    simp only [t, streak, ProgressRecord.count, satSucc_eq hr]
  have hstep : (t.mastery, t.slips) = masteryStep known cls streak (masteryFirst r.mastery) r.slips := by
    rw [← hstreak]
    rfl
  have hmastery : t.mastery = (masteryStep known cls streak (masteryFirst r.mastery) r.slips).1 := by rw [← hstep]
  have hslips : t.slips = (masteryStep known cls streak (masteryFirst r.mastery) r.slips).2 := by rw [← hstep]
  refine ⟨hstreak, fun h => ?_, fun h hp => ?_, fun h hp => ?_, fun h hp hk => ?_, fun h hp hk => ?_, fun h hp hs => ?_,
    fun h hp hs => ?_⟩ <;> rw [hmastery, hslips]
  · have hfirst : masteryFirst r.mastery = .learning := by rcases h with h | h <;> rw [h] <;> rfl
    rw [hfirst, masteryStep]
    split <;> exact ⟨rfl, rfl⟩
  · simp [h, masteryFirst, masteryStep, hp]
  · simp [h, masteryFirst, masteryStep, hp]
  · simp [h, masteryFirst, masteryStep, hp, hk]
  · simp [h, masteryFirst, masteryStep, hp, Nat.not_le.mpr hk]
  · simp [h, masteryFirst, masteryStep, hp, hs]
  · simp [h, masteryFirst, masteryStep, hp, hs]

/-- Settles O38: the record, the notice and the lists of a counted close, and the classes and rows by cases. -/
theorem closesAreCountedInTheRecord : Obligations.ClosesAreCountedInTheRecord := by
  refine ⟨fun v w verdict cls origin hsized hw => ?counted, fun c verdict => ⟨if_pos rfl, fun hne => if_neg hne⟩, rfl, rfl, rfl, rfl⟩
  have hrecord := record_countClose_same v w verdict cls origin hsized.records hw
  obtain ⟨hreview, hentries, hauto, hgap, hattempt⟩ := countClose_lists v w verdict cls origin
  obtain ⟨hquiet, hraised⟩ := countClose_notices v w verdict cls origin
  have houtside := countClose_outside w verdict cls origin v
  have hmastery := count_mastery v.params.knownStreak verdict cls (v.record w)
  intro r t streak others
  rw [show t.record w = r.count v.params.knownStreak verdict cls from hrecord]
  refine ⟨fun x hx => record_countClose_other v w x verdict cls origin hx, fun h => satSucc_eq h, fun h => ?_, fun h => ?_,
    fun h => ?_, rfl, hmastery, hquiet, hraised, fun hc => ?_, fun hc hk hb => ?_, fun hc hk => ?_, fun k ho hc hroom => ?_,
    fun hstay => ?_, hauto, hgap, hattempt, houtside⟩
  · simp only [ProgressRecord.count, satSucc_eq h]
  · simp only [ProgressRecord.count, satSucc_eq h]
  · simp only [ProgressRecord.count, satSucc_eq h]
  · rw [show t.lesson.review = _ from hreview, reviewAfter, if_pos hc]
    rfl
  · rw [show t.lesson.review = _ from hreview, reviewAfter, if_neg (not_not.mpr hc), if_pos ⟨hk, hb⟩]
  · rw [show t.lesson.review = _ from hreview, reviewAfter, if_neg (not_not.mpr hc),
      if_neg fun h => hk.elim (fun k => k h.1) fun k => h.2 k]
  · rw [show t.lesson.entries = _ from hentries, ho]
    exact if_pos ⟨hc, hroom⟩
  · rw [show t.lesson.entries = _ from hentries]
    unfold requeueAfter
    split
    · refine if_neg fun ⟨hne, hroom⟩ => ?_
      simp only [Config.listPlaces] at hroom
      rcases hstay with h | h | h | h | h
      · exact hne h
      · cases h
      · cases h
      · cases h
      · omega
    · rfl

end Sys2Proof.Grading
end

section
/-! SUPPORT. RESPONSE PUT and the items its parts give (R94, R95, R97 to R101), and ATTEMPT GET (R50). -/

namespace Sys2Proof.Expansions

open Sys2Proof.Machine Sys2Proof.Link Sys2Proof.ArgBytes Sys2Proof.Words Sys2Proof.Tables Sys2Proof.Lists

/-! ### RESPONSE PUT (R94, R95) -/

/-- The form of one part: kind code and value. -/
def partForm (p : Nat × Nat) : List Byte := leBytes 1 p.1 ++ leBytes 2 p.2

theorem partForm_length (p : Nat × Nat) : (partForm p).length = 3 := rfl

/-- What R94 asks of a part. -/
structure PartFits (p : Nat × Nat) : Prop where
  low : 1 ≤ p.1
  high : p.1 ≤ 9
  value : p.2 < 65536
  segment : p.1 = 1 → p.2 < 2048
  tone : p.1 = 2 → p.2 ≤ 2

theorem PartFits_good {p : Nat × Nat} (h : PartFits p) : badPartSegment p = false ∧ badPartKind p = false := by
  obtain ⟨hlow, hhigh, -, hsegment, htone⟩ := h
  constructor
  · simp only [badPartSegment, badSegmentId, Config.segments, Bool.and_eq_false_iff, decide_eq_false_iff_not]
    by_cases hone : p.1 = 1
    · exact .inr (Nat.not_le.mpr (hsegment hone))
    · exact .inl hone
  · simp only [badPartKind, Bool.or_eq_false_iff, Bool.and_eq_false_iff, decide_eq_false_iff_not]
    refine ⟨⟨by omega, by omega⟩, ?_⟩
    by_cases htwo : p.1 = 2
    · exact .inr (Nat.not_lt.mpr (htone htwo))
    · exact .inl htwo

/-- R94: the parts of an argument are read back. -/
theorem partFields_read {arg : List Byte} {parts : List (Nat × Nat)} (hdrop : arg.drop 2 = parts.flatMap partForm)
    (hn : byteAt arg 1 = parts.length) (hfit : ∀ p ∈ parts, PartFits p) : partFields arg = parts := by
  have hread := blocks_read (arg := arg) (p := 2) (f := partForm) (k := 3) (xs := parts) (rest := []) (h := id)
    (read := fun bs => (byteAt bs 0, fieldAt bs 1 2)) (g := partFieldsAt arg) (by rw [hdrop, List.append_nil])
    (fun j => by simp only [partFieldsAt, byteAt_drop, fieldAt_drop]; grind)
    (fun p _ => partForm_length p)
    (fun p hp more => by
      have hkind := Nat.mod_eq_of_lt (show p.1 < 256 by have := (hfit p hp).high; omega)
      have hvalue := Nat.mod_eq_of_lt (hfit p hp).value
      simp [partForm, List.append_assoc, hkind, hvalue])
  rw [List.map_id] at hread
  rw [partFields, hn, hread]

theorem clamp_ne_iff (lo hi n : Nat) : clamp lo hi n ≠ n ↔ n < lo ∨ hi < n := by
  unfold clamp
  split_ifs <;> omega

/-- R95: RESPONSE PUT on an argument that passes. -/
theorem exec_responsePut (s : State) (tag : Byte) (row : Nat) (parts : List (Nat × Nat)) (hawake : Awake s) (hrow : row ≤ 15)
    (hfew : parts.length ≤ 6) (hfit : ∀ p ∈ parts, PartFits p) :
    exec (.responsePut tag (leBytes 1 row ++ leBytes 1 parts.length ++ parts.flatMap partForm)) s
      = .next (withPart s (replying 0x16#8 tag .ok
          [BitVec.ofNat 8 row, BitVec.ofNat 8 parts.length,
            if ∃ p ∈ parts, p.1 = 3 ∧ (p.2 < 10 ∨ 2000 < p.2) then 1#8 else 0#8, 0#8] []
          { s.vks with sched := { s.vks.sched with rows := s.vks.sched.rows.set row (parts.map partOf) } })) := by
  have hzero : byteAt (leBytes 1 row ++ leBytes 1 parts.length ++ parts.flatMap partForm) 0 = row := by
    simp [List.append_assoc, Nat.mod_eq_of_lt (show row < 256 by omega)]
  have hn : byteAt (leBytes 1 row ++ leBytes 1 parts.length ++ parts.flatMap partForm) 1 = parts.length := by
    simp [List.append_assoc, Nat.mod_eq_of_lt (show parts.length < 256 by omega)]
  have hlen : (leBytes 1 row ++ leBytes 1 parts.length ++ parts.flatMap partForm).length = 2 + 3 * parts.length := by
    simp only [List.length_append, leBytes_length, flatMap_block_length partForm 3 parts fun p _ => partForm_length p]
  have hdrop : (leBytes 1 row ++ leBytes 1 parts.length ++ parts.flatMap partForm).drop 2 = parts.flatMap partForm := rfl
  generalize leBytes 1 row ++ leBytes 1 parts.length ++ parts.flatMap partForm = arg at hzero hn hlen hdrop
  have hread := partFields_read hdrop hn hfit
  have hpass : ∀ c ∈ responsePutChecks arg, c.1 = false := by
    simp only [responsePutChecks, hread, hlen, hn, hzero, List.forall_mem_cons, List.any_eq_false, Bool.or_eq_false_iff,
      decide_eq_false_iff_not]
    exact ⟨⟨by omega, by omega⟩, fun p hp => by simp [(PartFits_good (hfit p hp)).1],
      fun p hp => by simp [(PartFits_good (hfit p hp)).2], by omega, by omega, by simp⟩
  have hmark : parts.any pauseClamped = true ↔ ∃ p ∈ parts, p.1 = 3 ∧ (p.2 < 10 ∨ 2000 < p.2) := by
    simp only [List.any_eq_true, pauseClamped, Bool.and_eq_true, decide_eq_true_eq, clamp_ne_iff]
  refine exec_answered _ 0x16#8 tag _ handleResponsePut s _ .ok (leBytes 1 row ++ leBytes 1 parts.length
    ++ [if ∃ p ∈ parts, p.1 = 3 ∧ (p.2 < 10 ∨ 2000 < p.2) then 1#8 else 0#8]) _ [] rfl hawake (by omega) ?_
    (by simp [padTo, leBytes])
  rw [handleResponsePut, checked_pass _ _ _ hpass, hread, hzero, hn]
  simp only [flagByte, hmark]
  rfl

/-! ### What the parts give (R97, R98) -/

theorem segmentOrClick_eq (o : Option Nat) : segmentOrClick o = (match o with | some n => Item.seg n | none => .tone .click) := by
  cases o <;> rfl

/-- R98: the names of a letter list with a pause between two. -/
theorem spell_items (v : Vks) (l : List Nat) : (spell v l).length = 2 * l.length - 1
    ∧ ∀ i, i < l.length → (spell v l)[2 * i]? = (l[i]?).map (nameItem v)
      ∧ (i + 1 < l.length → (spell v l)[2 * i + 1]? = some (.pause 100)) := by
  refine ⟨by simp [spell], fun i _ => ⟨by simp [spell], fun hnext => ?_⟩⟩
  rw [spell]
  exact List.getElem?_intersperse_two_mul_add_one (by simpa using hnext)

theorem letterAt_outside {l : List Nat} {p : Nat} (h : p = 0 ∨ l.length < p) : letterAt l p = none := by
  rcases h with rfl | h
  · rfl
  · exact Grading.letterAt_of_gt h

theorem letterAt_inside {l : List Nat} {p : Nat} (h : 1 ≤ p) : letterAt l p = l[p - 1]? := if_neg (by omega)

section
variable (v : Vks) (x : Expansion) (e : WordEntry)

theorem expandPart_letterNameAt (hentry : x.entry = some e) : expandPart v x .letterNameAt
    = ((letterAt (if x.verdict = some .extra then x.snapshot else e.letters) x.position).map (nameItem v)).toList := by
  rw [expandPart, hentry]

theorem expandPart_letterSoundAt (hentry : x.entry = some e) : expandPart v x .letterSoundAt
    = if x.verdict = some .extra then ((letterAt x.snapshot x.position).map (soundItem v)).toList
      else ((letterAt e.letters x.position).map (targetSound v e x.position)).toList := by
  rw [expandPart, hentry]

theorem targetSound_plain {e : WordEntry} (p c : Nat) (h : e.overrides = none) : targetSound v e p c = soundItem v c := by
  rw [targetSound, h]

theorem targetSound_override {e : WordEntry} {o : List (Option Nat)} (p c : Nat) (h : e.overrides = some o) :
    targetSound v e p c = (match o[p - 1]? with | some (some n) => .seg n | _ => soundItem v c) := by
  rw [targetSound, h]
  simp only [readAt, List.getD_eq_getElem?_getD]
  rcases o[p - 1]? with _ | (_ | n) <;> rfl

/-- R98: a position outside the list named gives nothing. -/
theorem expandPart_letter_outside (hentry : x.entry = some e)
    (hout : x.position = 0 ∨ (if x.verdict = some .extra then x.snapshot else e.letters).length < x.position) :
    expandPart v x .letterNameAt = [] ∧ expandPart v x .letterSoundAt = [] := by
  rw [expandPart_letterNameAt v x e hentry, expandPart_letterSoundAt v x e hentry, letterAt_outside hout]
  refine ⟨rfl, ?_⟩
  by_cases hextra : x.verdict = some .extra
  · rw [if_pos hextra] at hout ⊢
    rw [letterAt_outside hout]
    rfl
  · rw [if_neg hextra] at hout ⊢
    rw [letterAt_outside hout]
    rfl

/-- R7, R98: the letter at a position: its name, and its sound from the overrides or the alphabet. -/
theorem expandPart_letter_inside {c : Nat} (hentry : x.entry = some e) (hpos : 1 ≤ x.position)
    (hc : (if x.verdict = some .extra then x.snapshot else e.letters)[x.position - 1]? = some c) :
    expandPart v x .letterNameAt = [nameItem v c]
    ∧ ((x.verdict = some .extra ∨ e.overrides = none) → expandPart v x .letterSoundAt = [soundItem v c])
    ∧ (∀ o, e.overrides = some o → x.verdict ≠ some .extra →
        expandPart v x .letterSoundAt = [match o[x.position - 1]? with | some (some n) => .seg n | _ => soundItem v c]) := by
  rw [expandPart_letterNameAt v x e hentry, expandPart_letterSoundAt v x e hentry, letterAt_inside hpos, hc,
    letterAt_inside hpos, letterAt_inside hpos]
  refine ⟨rfl, fun hplain => ?_, fun o ho hne => ?_⟩
  · by_cases hextra : x.verdict = some .extra
    · rw [if_pos hextra] at hc ⊢
      rw [hc]
      rfl
    · rw [if_neg hextra] at hc ⊢
      have hnone : e.overrides = none := hplain.resolve_left hextra
      rw [hc, Option.map_some, targetSound_plain v x.position c hnone]
      rfl
  · rw [if_neg hne] at hc ⊢
    rw [hc, Option.map_some, targetSound_override v x.position c ho]
    rfl

end

theorem nextIdentity_eq {n : Nat} (h : n ≤ 65535) : nextIdentity n = if n = 65535 then 1 else n + 1 := by
  unfold nextIdentity
  grind

theorem isOpen_eq_true_iff (a : AttemptState) : a.isOpen = true ↔ (a = .prompting ∨ a = .listening ∨ a = .responding) := by
  cases a <;> decide

/-- Settles O26: the request, each kind of part, and the utterance and the context they are used with. -/
theorem responsePutReplacesTheRow : Obligations.ResponsePutReplacesTheRow := by
  refine ⟨fun s tag row parts hawake hrow hfew hparts => ?put, fun n => ⟨rfl, rfl, rfl, rfl, rfl, rfl, rfl, rfl⟩, ⟨rfl, rfl, rfl⟩,
    fun v x => ?parts, fun v source tag items hlow hhigh => ?utterance, fun v => ⟨fun hopen => ?opened, fun hclosed => ?closed⟩⟩
  case put =>
    exact exec_responsePut s tag row parts hawake hrow hfew fun p hp =>
      let ⟨h1, h2, h3, h4, h5⟩ := hparts p hp
      ⟨h1, h2, h3, h4, h5⟩
  case parts =>
    have hname : (fun c : Nat => match (v.letter c).name with | some n => Item.seg n | none => Item.tone .click) = nameItem v :=
      funext fun c => (segmentOrClick_eq _).symm
    have hsound : (fun c : Nat => match (v.letter c).sound with | some n => Item.seg n | none => Item.tone .click)
        = soundItem v := funext fun c => (segmentOrClick_eq _).symm
    intro named sounded spelled
    have hnamed : named = nameItem v := hname
    have hsounded : sounded = soundItem v := hsound
    refine ⟨fun n => rfl, fun k => rfl, fun ms => rfl, fun hnone p hp => ?_, fun e hentry => ⟨?_, ?_, ?_, ?_, ?_, ?_⟩, rfl,
      fun p l => rfl⟩
    · simp only [List.mem_cons, List.not_mem_nil, or_false] at hp
      rcases hp with rfl | rfl | rfl | rfl | rfl | rfl <;> simp [expandPart, hnone]
    · simp only [expandPart, hentry]
      rcases e.wordSegment with _ | n <;> rfl
    · rw [expandPart, hentry]
    · rw [expandPart, hentry]
      simp only [spelled, hnamed]
      exact spell_items v e.letters
    · rw [expandPart, hentry]
      simp only [spelled, hnamed]
      exact spell_items v x.snapshot
    · exact expandPart_letter_outside v x e hentry
    · intro c hc hpos
      simp only [hnamed, hsounded]
      obtain ⟨hn, hplain, hover⟩ := expandPart_letter_inside v x e hentry hpos hc
      exact ⟨hn, hplain, fun o ho hne _ => hover o ho hne⟩
  case utterance =>
    simp only [makeUtterance, nextIdentity_eq hhigh]
    rfl
  case opened =>
    rw [sayExpansion, if_pos ((isOpen_eq_true_iff _).mpr hopen)]
    rfl
  case closed =>
    have hnot : ¬ v.attempt.state.isOpen = true := by rcases hclosed with h | h <;> rw [h] <;> decide
    rw [sayExpansion, if_neg hnot]

/-! ### ATTEMPT GET (R50) -/

/-- The first 15 bytes of the ATTEMPT GET bulk: the context up to its verdict. -/
def contextBytes (v : Vks) : List Byte :=
  let c := v.attempt.ctx
  leBytes 2 c.word ++ leBytes 1 v.attempt.state.code
    ++ leBytes 1 (c.settings.checkMode.bit + (if c.settings.barge then 2 else 0) + 4 * c.settings.echoStyle.code
        + (if c.nudged then 16 else 0) + (if c.closed then 32 else 0) + 64 * c.origin.code)
    ++ leBytes 1 c.settings.tries ++ leBytes 1 c.tryNumber ++ leBytes 1 c.settings.mistakeLimit ++ leBytes 1 c.mistakes
    ++ leBytes 1 c.settings.hintLimit ++ leBytes 1 c.hintsUsed ++ leBytes 1 c.hintStage ++ leBytes 1 c.hintPosition
    ++ leBytes 1 c.origin.retries ++ leBytes 1 (verdictCode c.verdict) ++ leBytes 1 c.verdictPosition

/-- The next 5 bytes: what is outstanding and awaited, the time left, and the buffer's length. -/
def waitingBytes (v : Vks) : List Byte :=
  leBytes 1 v.attempt.ctx.outstanding.length ++ leBytes 1 (awaitedCode v.attempt.ctx.awaited) ++ leBytes 2 (inactivityUnits v)
    ++ leBytes 1 v.attempt.ctx.buffer.length

/-- The shelf's summary, the last 7 bytes. -/
def shelfSummary (v : Vks) : List Byte :=
  match v.attempt.shelf with
  | some k => [1#8] ++ leBytes 2 k.word ++ leBytes 1 k.tryNumber ++ leBytes 1 k.buffer.length
      ++ leBytes 1 k.hintsUsed ++ leBytes 1 k.mistakes
  | none => leBytes 7 0

theorem attemptBulk_eq (v : Vks) : attemptBulk v
    = contextBytes v ++ (waitingBytes v ++ (padTo 18 (v.attempt.ctx.buffer.flatMap (leBytes 1)) ++ shelfSummary v)) := by
  unfold attemptBulk shelfSummary
  cases v.attempt.shelf <;> simp only [contextBytes, waitingBytes, List.append_assoc]

theorem contextBytes_length (v : Vks) : (contextBytes v).length = 15 := by simp [contextBytes]

theorem waitingBytes_length (v : Vks) : (waitingBytes v).length = 5 := by simp [waitingBytes]

theorem shelfSummary_length (v : Vks) : (shelfSummary v).length = 7 := by
  unfold shelfSummary
  cases v.attempt.shelf <;> rfl

theorem flatMap_one (l : List Nat) : l.flatMap (leBytes 1) = l.map (BitVec.ofNat 8) := by
  induction l with
  | nil => rfl
  | cons x xs ih => rw [List.flatMap_cons, ih]; rfl

/-- Settles O34: the bulk by its four parts. -/
theorem attemptGetReturnsTheContext : Obligations.AttemptGetReturnsTheContext := by
  refine ⟨fun s tag hawake hbuffer => ?bulk, rfl, rfl, fun r => ⟨rfl, rfl, rfl, rfl, rfl, rfl⟩, rfl, rfl, rfl⟩
  have hcontext := contextBytes_length s.vks
  have hwaiting := waitingBytes_length s.vks
  have hbytes : padTo 18 (s.vks.attempt.ctx.buffer.flatMap (leBytes 1)) = s.vks.attempt.ctx.buffer.map (BitVec.ofNat 8)
      ++ List.replicate (18 - s.vks.attempt.ctx.buffer.length) 0#8 := by rw [flatMap_one, padTo, List.length_map]
  have hmiddle : (padTo 18 (s.vks.attempt.ctx.buffer.flatMap (leBytes 1))).length = 18 :=
    padTo_length 18 _ (by rw [flatMap_one]; simpa using hbuffer)
  have hfifteen : (attemptBulk s.vks).drop 15
      = waitingBytes s.vks ++ (padTo 18 (s.vks.attempt.ctx.buffer.flatMap (leBytes 1)) ++ shelfSummary s.vks) := by
    rw [attemptBulk_eq, List.drop_left' hcontext]
  have htwenty : (attemptBulk s.vks).drop 20
      = padTo 18 (s.vks.attempt.ctx.buffer.flatMap (leBytes 1)) ++ shelfSummary s.vks := by
    rw [show 20 = 15 + 5 from rfl, ← List.drop_drop, hfifteen, List.drop_left' hwaiting]
  refine ⟨attemptBulk s.vks, ?_, ?_, ?_, ?_, ?_, ?_⟩
  · rw [attemptBulk_eq, List.length_append, List.length_append, List.length_append, hmiddle, hcontext, hwaiting,
      shelfSummary_length]
  · refine exec_answered _ 0x24#8 tag _ handleAttemptGet s _ .ok _ _ _ rfl hawake (Nat.zero_le _) ?_ (padTo_four_one _)
    rw [handleAttemptGet, withoutArgument_nil]
    rfl
  · have hbit (m : CheckMode) : m.bit = if m = .deferred then 1 else 0 := by cases m <;> rfl
    rw [attemptBulk_eq, List.take_left' hcontext, contextBytes]
    simp only [hbit]
    simp [leBytes]
  · rw [hfifteen, List.take_left' hwaiting, waitingBytes, inactivityUnits]
    rcases s.vks.attempt.ctx.awaited with _ | ⟨_ | _ | _, _⟩ <;> rfl
  · rw [htwenty, List.take_left' hmiddle, hbytes]
  · rw [show 38 = 20 + 18 from rfl, ← List.drop_drop, htwenty, List.drop_left' hmiddle, shelfSummary]
    cases s.vks.attempt.shelf <;> simp [leBytes]

end Sys2Proof.Expansions
end

section
/-! SUPPORT. Voices going on (R124, R127, R130, R186): what the readings and the amplifier do to a voice, and what the starts of
waiting utterances add (R107, R110). -/

namespace Sys2Proof.VoiceFrames

open Sys2Proof.Machine Sys2Proof.EventMoves Sys2Proof.EventFrames

/-! ### One voice -/

theorem voice_setVoice_same (i : VoiceId) (w : Voice) (v : Vks) : (setVoice i w v).voice i = w := by cases i <;> rfl

theorem voice_setVoice_other {i j : VoiceId} (w : Voice) (v : Vks) (h : j ≠ i) : (setVoice i w v).voice j = v.voice j := by
  cases i <;> cases j <;> first | rfl | exact absurd rfl h

/-- The reading of a voice has reached a read of the engine, or is done (R128, R130). -/
def Voice.readingRests (w : Voice) : Prop := w.state = .playing ∧ (w.phase = .needEntry ∨ w.phase = .blocks ∨ w.readItem = 0)

/-- A voice goes on: it keeps its utterance, plays on, and its ring only gains samples; an IDLE one, and one whose reading has
reached a read of the engine or is done, stays as it is. -/
structure VoiceGoesOn (a b : Voice) : Prop where
  still : b.state = .idle ∨ Voice.readingRests b → a = b
  on : b.state ≠ .idle → a.state ≠ .idle ∧ a.utterance = b.utterance
  playing : b.state = .playing → a.state = .playing
  ring : ∃ more, a.ring = b.ring ++ more
  begun : b.state = .playing → b.leadIn = false → a.leadIn = false

theorem VoiceGoesOn.refl (w : Voice) : VoiceGoesOn w w where
  still _ := rfl
  on h := ⟨h, rfl⟩
  playing := id
  ring := ⟨[], (List.append_nil _).symm⟩
  begun _ := id

theorem VoiceGoesOn.trans {a b c : Voice} (h : VoiceGoesOn a b) (k : VoiceGoesOn b c) : VoiceGoesOn a c where
  still hc := by
    have hbc := k.still hc
    exact (h.still (by rw [hbc]; exact hc)).trans hbc
  on hc := by
    obtain ⟨hb, hub⟩ := k.on hc
    obtain ⟨ha, hua⟩ := h.on hb
    exact ⟨ha, hua.trans hub⟩
  playing := h.playing ∘ k.playing
  ring := by
    obtain ⟨x, hx⟩ := h.ring
    obtain ⟨y, hy⟩ := k.ring
    exact ⟨y ++ x, by rw [hx, hy, List.append_assoc]⟩
  begun hc hl := h.begun (k.playing hc) (k.begun hc hl)

/-- A PLAYING voice whose reading does not rest goes on where its utterance stays and its ring only gains samples. -/
theorem VoiceGoesOn.of_reading {a b : Voice} (hplaying : b.state = .playing) (hphase : b.phase ≠ .needEntry ∧ b.phase ≠ .blocks ∧ b.readItem ≠ 0)
    (hstate : a.state = .playing) (hutterance : a.utterance = b.utterance) (hring : ∃ more, a.ring = b.ring ++ more)
    (hbegun : b.leadIn = false → a.leadIn = false) : VoiceGoesOn a b where
  still h := by
    rcases h with h | ⟨-, h | h | h⟩
    · cases hplaying.symm.trans h
    · exact absurd h hphase.1
    · exact absurd h hphase.2.1
    · exact absurd h hphase.2.2
  on h := ⟨by rw [hstate]; decide, hutterance⟩
  playing _ := hstate
  ring := hring
  begun _ := hbegun

theorem enter_keeps (w : Voice) (values : List Int) (begins level : Option Nat) :
    (w.enter values begins level).state = w.state ∧ (w.enter values begins level).utterance = w.utterance
      ∧ (∃ more, (w.enter values begins level).ring = w.ring ++ more)
      ∧ (w.leadIn = false → (w.enter values begins level).leadIn = false) := by
  cases values with
  | nil => exact ⟨rfl, rfl, ⟨[], (List.append_nil _).symm⟩, id⟩
  | cons x xs => exact ⟨rfl, rfl, ⟨_, rfl⟩, fun _ => rfl⟩

theorem pourFill_keeps (w : Voice) (f : Fill) (capacity : Nat) :
    (w.pourFill f capacity).state = w.state ∧ (w.pourFill f capacity).utterance = w.utterance
      ∧ (∃ more, (w.pourFill f capacity).ring = w.ring ++ more)
      ∧ (w.leadIn = false → (w.pourFill f capacity).leadIn = false) := enter_keeps w _ _ _

/-! ### The part -/

/-- Both voices go on, nothing joins or leaves a queue, and an engine at work keeps its read. -/
structure GoesOn (a b : Vks) : Prop where
  voices : ∀ i, VoiceGoesOn (a.voice i) (b.voice i)
  sched : a.sched = b.sched
  engine : b.reader.engine ≠ .idle → a.reader.engine = b.reader.engine

theorem GoesOn.refl (v : Vks) : GoesOn v v := ⟨fun _ => .refl _, rfl, fun _ => rfl⟩

theorem GoesOn.trans {a b c : Vks} (h : GoesOn a b) (k : GoesOn b c) : GoesOn a c where
  voices i := (h.voices i).trans (k.voices i)
  sched := h.sched.trans k.sched
  engine hc := (h.engine (by rw [k.engine hc]; exact hc)).trans (k.engine hc)

/-- A change outside voices, queues and engine. -/
theorem GoesOn.of_same {a b : Vks} (hreader : a.reader = b.reader) (hsched : a.sched = b.sched) : GoesOn a b where
  voices i := by
    have hvoice : a.voice i = b.voice i := by cases i <;> simp [Vks.voice, hreader]
    rw [hvoice]
    exact .refl _
  sched := hsched
  engine _ := by rw [hreader]

@[simp] theorem raiseNotice_reader (n : Notice) (v : Vks) : (raiseNotice n v).reader = v.reader := by
  unfold raiseNotice
  split <;> rfl

theorem raiseNotice_goesOn (n : Notice) (v : Vks) : GoesOn (raiseNotice n v) v :=
  .of_same (raiseNotice_reader n v) (raiseNotice_sched n v)

theorem setVoice_goesOn {i : VoiceId} {w : Voice} {v : Vks} (h : VoiceGoesOn w (v.voice i)) : GoesOn (setVoice i w v) v where
  voices j := by
    by_cases hj : j = i
    · subst hj
      rwa [voice_setVoice_same]
    · rw [voice_setVoice_other w v hj]
      exact .refl _
  sched := by cases i <;> rfl
  engine _ := by cases i <;> rfl

/-- R127, R130: a stage of a reading lets its voice go on. -/
theorem readStage_goesOn (i : VoiceId) (v : Vks) : GoesOn (readStage i v).1 v := by
  unfold readStage
  simp only
  split
  · exact .refl v
  · next hreading =>
    have hplaying : (v.voice i).state = .playing := by
      by_contra h
      exact hreading (.inl h)
    have hitems : (v.voice i).readItem ≠ 0 := fun h => hreading (.inr h)
    have hfill (f : Fill) (hphase : (v.voice i).phase ≠ .needEntry ∧ (v.voice i).phase ≠ .blocks ∧ (v.voice i).readItem ≠ 0) :
        VoiceGoesOn ((v.voice i).beginFill f) (v.voice i) :=
      .of_reading hplaying hphase hplaying rfl ⟨[], (List.append_nil _).symm⟩ id
    split
    · next hitem =>
      have hphase : (v.voice i).phase ≠ .needEntry ∧ (v.voice i).phase ≠ .blocks ∧ (v.voice i).readItem ≠ 0 :=
        ⟨by rw [hitem]; nofun, by rw [hitem]; nofun, hitems⟩
      split
      · exact .refl v
      · exact setVoice_goesOn (hfill _ hphase)
      · exact setVoice_goesOn (hfill _ hphase)
      · split
        · split
          · exact setVoice_goesOn (.of_reading hplaying hphase hplaying rfl ⟨[], (List.append_nil _).symm⟩ id)
          · exact (raiseNotice_goesOn _ _).trans (setVoice_goesOn (hfill _ hphase))
        · exact .refl v
    · next f hfilling =>
      have hphase : (v.voice i).phase ≠ .needEntry ∧ (v.voice i).phase ≠ .blocks ∧ (v.voice i).readItem ≠ 0 :=
        ⟨by rw [hfilling]; nofun, by rw [hfilling]; nofun, hitems⟩
      obtain ⟨hstate, hutterance, hring, hbegun⟩ := pourFill_keeps (v.voice i) f v.ringCapacity
      split
      · exact setVoice_goesOn (.of_reading hplaying hphase (hstate.trans hplaying) hutterance hring hbegun)
      · exact setVoice_goesOn (.of_reading hplaying hphase (hstate.trans hplaying) hutterance hring hbegun)
    · exact .refl v
    · exact .refl v

theorem readStages_goesOn (n : Nat) (i : VoiceId) (v : Vks) : GoesOn (readStages n i v) v := by
  induction n generalizing v with
  | zero => exact .refl v
  | succ n ih =>
    have hstage := readStage_goesOn i v
    unfold readStages
    split
    · next hgo => rw [hgo] at hstage; exact (ih _).trans hstage
    · next hstop => rw [hstop] at hstage; exact hstage

theorem readAhead_goesOn (i : VoiceId) (v : Vks) : GoesOn (readAhead i v) v := readStages_goesOn 82 i v

theorem startRead_goesOn (v : Vks) : GoesOn (startRead v) v := by
  unfold startRead
  split
  · next hidle =>
    split
    · exact ⟨fun i => by cases i <;> exact .refl _, rfl, fun h => absurd hidle h⟩
    · exact .refl v
  · exact .refl v

/-- R127, R129: the readings at an event's end. -/
theorem settleReads_goesOn (v : Vks) : GoesOn (settleReads v) v :=
  (startRead_goesOn _).trans ((readAhead_goesOn _ _).trans (readAhead_goesOn _ v))

/-- R124: a voice that waits for the amplifier becomes PLAYING with its utterance. -/
theorem becomePlaying_goesOn (i : VoiceId) (v : Vks) (hwaits : (v.voice i).state = .waitingAmp) : GoesOn (becomePlaying i v) v := by
  refine (readAhead_goesOn i _).trans (setVoice_goesOn ?_)
  refine ⟨fun h => ?_, fun _ => ⟨nofun, rfl⟩, fun _ => rfl, ⟨[], (List.append_nil _).symm⟩, fun h => ?_⟩
  · rcases h with h | ⟨h, -⟩ <;> cases hwaits.symm.trans h
  · cases hwaits.symm.trans h

theorem releaseVoice_goesOn (i : VoiceId) (v : Vks) : GoesOn (releaseVoice i v) v := by
  unfold releaseVoice
  split
  · next hwaits => exact becomePlaying_goesOn i v hwaits
  · exact .refl v

theorem startPlayout_goesOn (v : Vks) : GoesOn (startPlayout v) v := by
  unfold startPlayout
  split
  · exact .of_same rfl rfl
  · exact .refl v

/-- R186: the waiting voices play. -/
theorem ampBecomesOn_goesOn (v : Vks) : GoesOn (ampBecomesOn v) v :=
  (startPlayout_goesOn _).trans ((releaseVoice_goesOn _ _).trans ((releaseVoice_goesOn _ _).trans (.of_same rfl rfl)))

theorem askAmp_goesOn (v : Vks) : GoesOn (askAmp v) v := by
  unfold askAmp
  split
  · split
    · exact ampBecomesOn_goesOn v
    · exact .of_same rfl rfl
  · exact .refl v

theorem testPlayout_goesOn (v : Vks) : GoesOn (testPlayout v) v := by
  unfold testPlayout
  repeat' split
  · exact startPlayout_goesOn v
  · exact askAmp_goesOn v
  · exact .refl v
  · exact .refl v

/-! ### Starts (R107, R110, R124) -/

/-- An utterance as a voice starts it: its play position is at the beginning. -/
def begun (u : Utterance) : Utterance := { u with playItem := 1, playSamples := 0 }

/-- A voice as it is handed an utterance. -/
def handed (u : Utterance) : Voice := { Voice.idle with state := .waitingAmp, utterance := some (begun u) }

theorem startVoice_goesOn (i : VoiceId) (u : Utterance) (v : Vks) : GoesOn (startVoice i u v) (setVoice i (handed u) v) := by
  unfold startVoice
  simp only
  split
  · exact becomePlaying_goesOn i _ (by rw [voice_setVoice_same])
  · exact askAmp_goesOn _

theorem startMainHead_of_closed (v : Vks) (h : v.storeOpen = false) : startMainHead v = v := by simp [startMainHead, h]

theorem startMainHead_of_busy (v : Vks) (h : v.reader.mainVoice.state ≠ .idle) : startMainHead v = v := by
  simp [startMainHead, h]

theorem startMainHead_of_nil (v : Vks) (h : v.sched.queue = []) : startMainHead v = v := by simp [startMainHead, h]

/-- R107: a free main voice takes the head. -/
theorem startMainHead_of_cons (v : Vks) {u : Utterance} {q : List Utterance} (hidle : v.reader.mainVoice.state = .idle)
    (hopen : v.storeOpen = true) (hqueue : v.sched.queue = u :: q) : startMainHead v = startVoice .main u (setQueue q v) := by
  simp [startMainHead, hidle, hopen, hqueue]

theorem startEchoHead_of_busy (v : Vks) (h : v.reader.echoVoice.state ≠ .idle) : startEchoHead v = v := by
  simp [startEchoHead, h]

theorem startEchoHead_of_none (v : Vks) (h : v.sched.echoLine = none) : startEchoHead v = v := by simp [startEchoHead, h]

/-- R110: a free echo voice takes a waiting echo the line admits, and no other. -/
theorem startEchoHead_of_some (v : Vks) {u : Utterance} (hidle : v.reader.echoVoice.state = .idle)
    (hline : v.sched.echoLine = some u) :
    startEchoHead v = if admitsEcho v u then startVoice .echo u (setEchoLine none v) else v := by
  simp [startEchoHead, hidle, hline]

/-- The start of a waiting echo leaves the main voice's side alone, but for a voice that goes on. -/
theorem startEchoHead_main (v : Vks) : VoiceGoesOn ((startEchoHead v).voice .main) (v.voice .main)
    ∧ (startEchoHead v).sched.queue = v.sched.queue
    ∧ (v.reader.engine ≠ .idle → (startEchoHead v).reader.engine = v.reader.engine) := by
  by_cases hidle : v.reader.echoVoice.state = .idle
  · cases hline : v.sched.echoLine with
    | none =>
      rw [startEchoHead_of_none v hline]
      exact ⟨.refl _, rfl, fun _ => rfl⟩
    | some u =>
      rw [startEchoHead_of_some v hidle hline]
      split
      · have hstart := startVoice_goesOn .echo u (setEchoLine none v)
        exact ⟨hstart.voices .main, by rw [hstart.sched]; rfl, hstart.engine⟩
      · exact ⟨.refl _, rfl, fun _ => rfl⟩
  · rw [startEchoHead_of_busy v hidle]
    exact ⟨.refl _, rfl, fun _ => rfl⟩

/-- The start of the head leaves the echo voice's side alone, but for a voice that goes on. -/
theorem startMainHead_echo (v : Vks) : VoiceGoesOn ((startMainHead v).voice .echo) (v.voice .echo)
    ∧ (startMainHead v).sched.echoLine = v.sched.echoLine
    ∧ (v.reader.engine ≠ .idle → (startMainHead v).reader.engine = v.reader.engine) := by
  unfold startMainHead
  split
  · split
    · next u q hqueue =>
      have hstart := startVoice_goesOn .main u (setQueue q v)
      exact ⟨hstart.voices .echo, by rw [hstart.sched]; rfl, hstart.engine⟩
    · exact ⟨.refl _, rfl, fun _ => rfl⟩
  · exact ⟨.refl _, rfl, fun _ => rfl⟩

/-! ### The end of an event -/

@[simp] theorem settleAttn_sched (v : Vks) : (settleAttn v).sched = v.sched := by
  unfold settleAttn dropAttn
  repeat' split
  all_goals rfl

theorem settle_sched (v : Vks) : (settle v).sched = (settleReads (startHeads v)).sched := by
  simp [settle, settleSleepTimer, settleLamps, settleInactivity]

/-- Timers, ATTN and lamps aside, an event ends with the starts and the readings. -/
theorem settle_goesOn (v : Vks) : GoesOn (settle v) (startHeads v) :=
  (GoesOn.of_same (settle_reader v) (settle_sched v)).trans (settleReads_goesOn _)

/-- An engine at work when the event ends keeps its read. -/
theorem settle_engine (v : Vks) (h : v.reader.engine ≠ .idle) : (settle v).reader.engine = v.reader.engine := by
  have hmain := (startMainHead_echo v).2.2 h
  have hheads : (startHeads v).reader.engine = v.reader.engine :=
    ((startEchoHead_main (startMainHead v)).2.2 (by rw [hmain]; exact h)).trans hmain
  exact ((settle_goesOn v).engine (by rw [hheads]; exact h)).trans hheads

/-- With nothing for the main voice to take, its side goes on. -/
theorem settle_main_of_no_start (v : Vks) (h : startMainHead v = v) :
    VoiceGoesOn ((settle v).voice .main) (v.voice .main) ∧ (settle v).sched.queue = v.sched.queue := by
  have hecho := startEchoHead_main v
  have hend := settle_goesOn v
  rw [startHeads, h] at hend
  exact ⟨(hend.voices .main).trans hecho.1, (congrArg Scheduler.queue hend.sched).trans hecho.2.1⟩

/-- With nothing waiting for the echo voice, its side goes on. -/
theorem settle_echo_of_no_line (v : Vks) (h : v.sched.echoLine = none) :
    VoiceGoesOn ((settle v).voice .echo) (v.voice .echo) ∧ (settle v).sched.echoLine = none := by
  obtain ⟨hvoice, hline, -⟩ := startMainHead_echo v
  have hend := settle_goesOn v
  rw [startHeads, startEchoHead_of_none _ (hline.trans h)] at hend
  exact ⟨(hend.voices .echo).trans hvoice, (congrArg Scheduler.echoLine hend.sched).trans (hline.trans h)⟩

/-- A voice that is not IDLE takes nothing from a queue: at an event's end it goes on. -/
theorem settle_voice_goesOn (i : VoiceId) (v : Vks) (hbusy : (v.voice i).state ≠ .idle) :
    VoiceGoesOn ((settle v).voice i) (v.voice i) := by
  cases i with
  | main => exact (settle_main_of_no_start v (startMainHead_of_busy v hbusy)).1
  | echo =>
    obtain ⟨hvoice, -, -⟩ := startMainHead_echo v
    have hend := (settle_goesOn v).voices .echo
    rw [startHeads, startEchoHead_of_busy _ (hvoice.on hbusy).1] at hend
    exact hend.trans hvoice

theorem VoiceGoesOn.of_idle {a b : Voice} (h : VoiceGoesOn a b) (hidle : b.state = .idle) : a = b := h.still (.inl hidle)

end Sys2Proof.VoiceFrames
end

section
/-! SUPPORT. The store requests: claim and release (R135 to R137), the link operations (R138 to R141), the fetch (R141) and
the fault record (R133). -/

namespace Sys2Proof.Stores

open Sys2Proof.Machine Sys2Proof.EventMoves Sys2Proof.EventFrames Sys2Proof.ArgBytes Sys2Proof.Words Sys2Proof.Lists
  Sys2Proof.VoiceFrames Sys2Proof.Resets

/-! ### FAULT GET and STORE FETCH (R133, R141) -/

theorem accumulated_eq (r : Reader) : r.accumulated = (if r.accRetry then 1 else 0) + (if r.accFail then 2 else 0) := by
  cases h : r.accRetry <;> cases k : r.accFail <;> simp [Reader.accumulated, bitsValue, h, k]

theorem readInFlight_of_read {v : Vks} {a n : Nat} (h : v.reader.engine = .link (.read a n)) : v.readInFlight = true := by
  rw [Vks.readInFlight, h]

theorem readInFlight_of_no_read {v : Vks} (h : ∀ a n, v.reader.engine ≠ .link (.read a n)) : v.readInFlight = false := by
  unfold Vks.readInFlight
  split
  · next a n hread => exact absurd hread (h a n)
  · rfl

/-- Settles O44: the holding area and the fault record are read, the record emptied. -/
theorem fetchAndFaultGetReturnWhatIsHeld : Obligations.FetchAndFaultGetReturnWhatIsHeld := by
  intro s tag hawake
  refine ⟨fun ⟨a, n, hread⟩ => ?busy, fun hfree => ⟨fun h hheld => ?held, fun hnone => ?nothing⟩, ?fault⟩
  case busy =>
    refine exec_answered _ 0x45#8 tag _ handleStoreFetch s _ .busy [] _ [] rfl hawake (Nat.zero_le _) ?_ rfl
    rw [handleStoreFetch, withoutArgument_nil, if_pos (readInFlight_of_read hread)]
    rfl
  case held =>
    refine exec_answered _ 0x45#8 tag _ handleStoreFetch s _ .ok (leBytes 3 h.address ++ leBytes 1 h.bytes.length) _ _ rfl hawake
      (Nat.zero_le _) ?_ (by simp [padTo, leBytes])
    rw [handleStoreFetch, withoutArgument_nil, if_neg (by simp [readInFlight_of_no_read hfree]), hheld]
    rfl
  case nothing =>
    refine exec_answered _ 0x45#8 tag _ handleStoreFetch s _ .ok [] _ [] rfl hawake (Nat.zero_le _) ?_ rfl
    rw [handleStoreFetch, withoutArgument_nil, if_neg (by simp [readInFlight_of_no_read hfree]), hnone]
    rfl
  case fault =>
    refine exec_answered _ 0x46#8 tag _ handleFaultGet s _ .ok ([flagByte s.vks.reader.fault.full]
      ++ leBytes 1 s.vks.reader.fault.more ++ leBytes 1 s.vks.reader.accumulated ++ storeByte s.vks) _ _ rfl hawake
      (Nat.zero_le _) ?_ (by rw [accumulated_eq]; simp [padTo, leBytes, flagByte, storeByte])
    rw [handleFaultGet, withoutArgument_nil]
    have hbulk : faultBulk s.vks.reader = [if s.vks.reader.fault.full then 1#8 else 0#8] ++ leBytes 2 s.vks.reader.fault.segment
        ++ [BitVec.ofNat 8 s.vks.reader.fault.block] ++ leBytes 3 s.vks.reader.fault.address
        ++ [BitVec.ofNat 8 s.vks.reader.fault.more, BitVec.ofNat 8 s.vks.reader.lastResult.code,
          BitVec.ofNat 8 ((if s.vks.reader.accRetry then 1 else 0) + (if s.vks.reader.accFail then 2 else 0)),
          BitVec.ofNat 8 s.vks.reader.store.code, BitVec.ofNat 8 s.vks.reader.headerOutcome.code]
        ++ leBytes 2 s.vks.reader.segmentCount := by
      rw [faultBulk, accumulated_eq]
      simp [leBytes, flagByte]
    rw [hbulk]
    rfl

/-! ### The link operations (R138 to R141) -/

theorem storeBusy_of_link {v : Vks} {op : LinkOp} (h : v.reader.engine = .link op) : v.storeBusy = true := by
  rw [Vks.storeBusy, h]

theorem storeBusy_of_no_link {v : Vks} (h : ∀ op, v.reader.engine ≠ .link op) : v.storeBusy = false := by
  unfold Vks.storeBusy
  split
  · next op hlink => exact absurd hlink (h op)
  · rfl

/-- The holding area after a link operation is taken (R141). -/
def heldAfter (op : LinkOp) (v : Vks) : Option Holding :=
  match op with
  | .read _ _ => none
  | _ => v.reader.holding

theorem beginLinkOp_eq (op : LinkOp) (v : Vks) : beginLinkOp op v
    = { v with reader := { v.reader with engine := .link op, holding := heldAfter op v } } := by
  cases op <;> rfl

theorem beginLinkOp_untouched (op : LinkOp) (v : Vks) :
    Untouched (beginLinkOp op v) { v with reader := { v.reader with holding := heldAfter op v } } := by
  rw [beginLinkOp_eq]
  constructor <;> rfl

/-- R138: a link operation whose argument passes, by the store and the engine. -/
theorem linkRequest_taken (s : State) (code tag : Byte) (arg : List Byte) (c : Instr) (hd : Handler) (op : LinkOp)
    (hrow : exec c s = .next (withPart s (takeControl code tag arg hd s.vks))) (hawake : Awake s) (hfits : arg.length ≤ 58)
    (hhandled : hd arg s.vks = linkRequest op s.vks) :
    (s.vks.reader.store ≠ .claimed →
        exec c s = .next (withPart s (replying code tag .notClaimed [0#8, 0#8, 0#8, 0#8] [] s.vks)))
      ∧ (s.vks.reader.store = .claimed → (∃ o, s.vks.reader.engine = .link o) →
        exec c s = .next (withPart s (replying code tag .busy [0#8, 0#8, 0#8, 0#8] [] s.vks)))
      ∧ (s.vks.reader.store = .claimed → (∀ o, s.vks.reader.engine ≠ .link o) →
        ∃ t, exec c s = .next t ∧ t.flash = s.flash ∧ t.pending = s.pending ∧ t.vks.reader.engine = .link op
          ∧ Untouched t.vks (replying code tag .accepted [0#8, 0#8, 0#8, 0#8] []
              { s.vks with reader := { s.vks.reader with holding := heldAfter op s.vks } })) := by
  refine ⟨fun hstore => ?_, fun hstore ⟨o, hlink⟩ => ?_, fun hstore hfree => ?_⟩
  · refine exec_answered c code tag arg hd s s.vks .notClaimed [] _ [] hrow hawake hfits ?_ rfl
    rw [hhandled, linkRequest, if_pos hstore]
    rfl
  · refine exec_answered c code tag arg hd s s.vks .busy [] _ [] hrow hawake hfits ?_ rfl
    rw [hhandled, linkRequest, if_neg (not_not.mpr hstore), if_pos (storeBusy_of_link hlink)]
    rfl
  · have hexec := exec_answered c code tag arg hd s (settle (beginLinkOp op s.vks)) .accepted [] _ [] hrow hawake hfits
      (by rw [hhandled, linkRequest, if_neg (not_not.mpr hstore), if_neg (by simp [storeBusy_of_no_link hfree])]) rfl
    have hengine : (settle (beginLinkOp op s.vks)).reader.engine = .link op := by
      rw [settle_engine _ (by rw [beginLinkOp_eq]; nofun), beginLinkOp_eq]
    have hframe := (settle_untouched (beginLinkOp op s.vks)).trans (beginLinkOp_untouched op s.vks)
    generalize settle (beginLinkOp op s.vks) = v at hexec hengine hframe
    exact ⟨_, hexec, rfl, rfl, hengine, replying_untouched _ _ _ _ _ hframe⟩

/-- R171: a request that finds a cause first is BAD_ARGS with it. -/
theorem exec_badArgs (s : State) (code tag : Byte) (arg : List Byte) (c : Instr) (hd : Handler) (n : Nat)
    (hrow : exec c s = .next (withPart s (takeControl code tag arg hd s.vks))) (hawake : Awake s) (hfits : arg.length ≤ 58)
    (hhandled : hd arg s.vks = (s.vks, answerBadArgs n)) :
    exec c s = .next (withPart s (replying code tag .badArgs [BitVec.ofNat 8 n, 0#8, 0#8, 0#8] [] s.vks)) :=
  exec_answered c code tag arg hd s s.vks .badArgs (leBytes 1 n) _ [] hrow hawake hfits hhandled (padTo_four_one n)

/-- R139: a STORE WRITE argument, read back. -/
theorem handleStoreWrite_eq (v : Vks) (a : Nat) (d : List Byte) (ha : a < 0x1000000) (hd : d.length ≤ 54) :
    handleStoreWrite (leBytes 3 a ++ leBytes 1 d.length ++ d) v
      = checked [(decide (d.length < 1) || decide (32 < d.length), 11), (decide (0xFEFFFF < a), 14),
          (decide (256 < a % 256 + d.length), 15)] v (linkRequest (.write a d) v) := by
  have hlen : (leBytes 3 a ++ leBytes 1 d.length ++ d).length = 4 + d.length := by
    simp only [List.length_append, leBytes_length]
  have haddr : fieldAt (leBytes 3 a ++ leBytes 1 d.length ++ d) 0 3 = a := by
    simp [List.append_assoc, Nat.mod_eq_of_lt ha]
  have hn : byteAt (leBytes 3 a ++ leBytes 1 d.length ++ d) 3 = d.length := by
    simp [List.append_assoc, Nat.mod_eq_of_lt (show d.length < 256 by omega)]
  have hdata : (leBytes 3 a ++ leBytes 1 d.length ++ d).drop 4 = d := rfl
  rw [handleStoreWrite, storeWriteChecks, hlen, haddr, hn, hdata]
  simp [checked, firstCause]

/-- R140: a STORE ERASE argument, read back. -/
theorem handleStoreErase_eq (v : Vks) (a : Nat) (ha : a < 0x1000000) : handleStoreErase (leBytes 3 a) v
    = checked [(decide (0xFEFFFF < a), 14), (decide (a % 4096 ≠ 0), 15)] v (linkRequest (.erase a) v) := by
  have haddr : fieldAt (leBytes 3 a) 0 3 = a := by simp [Nat.mod_eq_of_lt ha]
  rw [handleStoreErase, storeEraseChecks, haddr]
  simp [checked, firstCause]

/-- R141: a STORE READ argument, read back. -/
theorem handleStoreRead_eq (v : Vks) (a n : Nat) (ha : a < 0x1000000) (hn : n < 256) :
    handleStoreRead (leBytes 3 a ++ leBytes 1 n) v
      = checked [(decide (n < 1) || decide (48 < n), 11), (decide (0xFF0000 < a + n), 14)] v (linkRequest (.read a n) v) := by
  have haddr : fieldAt (leBytes 3 a ++ leBytes 1 n) 0 3 = a := by simp [Nat.mod_eq_of_lt ha]
  have hcount : byteAt (leBytes 3 a ++ leBytes 1 n) 3 = n := by
    rw [show leBytes 3 a ++ leBytes 1 n = leBytes 3 a ++ (leBytes 1 n ++ []) by simp]
    simp [Nat.mod_eq_of_lt hn]
  rw [handleStoreRead, storeReadChecks, haddr, hcount]
  simp [checked, firstCause]

/-- Settles O43: the arguments are read back, and the causes taken in their order. -/
theorem linkOperationsNeedAClaim : Obligations.LinkOperationsNeedAClaim := by
  intro s tag hawake taken refused
  refine ⟨fun a d ha hd => ?write, fun a ha => ?erase, fun a n ha hn => ?read⟩
  case write =>
    have hlen : (leBytes 3 a ++ leBytes 1 d.length ++ d).length ≤ 58 := by
      simp only [List.length_append, leBytes_length]
      omega
    have heq := handleStoreWrite_eq s.vks a d ha hd
    have hbad (n : Nat) (h : firstCause [(decide (d.length < 1) || decide (32 < d.length), 11), (decide (0xFEFFFF < a), 14),
        (decide (256 < a % 256 + d.length), 15)] = some n) :=
      exec_badArgs s 0x42#8 tag _ (.storeWrite tag _) handleStoreWrite n rfl hawake hlen (heq.trans (checked_fail _ _ _ n h))
    refine ⟨fun hone hfew hlow hpage => ?_, fun hcount => hbad 11 ?_, fun hone hfew hhigh => hbad 14 ?_,
      fun hone hfew hlow hpage => hbad 15 ?_⟩
    · exact linkRequest_taken s 0x42#8 tag _ (.storeWrite tag _) handleStoreWrite (.write a d) rfl hawake hlen
        (heq.trans (checked_pass _ _ _ (by simp [List.ne_nil_of_length_pos hone, hfew, hlow, hpage])))
    · have hany : d.length < 1 ∨ 32 < d.length := hcount.imp_left fun h => by simp [h]
      simp only [firstCause, Bool.or_eq_true, decide_eq_true_eq, if_pos hany]
    · have hnone : ¬ (d.length < 1 ∨ 32 < d.length) := by omega
      simp only [firstCause, Bool.or_eq_true, decide_eq_true_eq, if_neg hnone, if_pos hhigh]
    · have hnone : ¬ (d.length < 1 ∨ 32 < d.length) := by omega
      have hin : ¬ 0xFEFFFF < a := by omega
      simp only [firstCause, Bool.or_eq_true, decide_eq_true_eq, if_neg hnone, if_neg hin, if_pos hpage]
  case erase =>
    have heq := handleStoreErase_eq s.vks a ha
    have hlen : (leBytes 3 a).length ≤ 58 := by simp
    have hbad (n : Nat) (h : firstCause [(decide (0xFEFFFF < a), 14), (decide (a % 4096 ≠ 0), 15)] = some n) :=
      exec_badArgs s 0x43#8 tag _ (.storeErase tag _) handleStoreErase n rfl hawake hlen (heq.trans (checked_fail _ _ _ n h))
    refine ⟨fun hlow hsector => ?_, fun hhigh => hbad 14 ?_, fun hlow hsector => hbad 15 ?_⟩
    · exact linkRequest_taken s 0x43#8 tag _ (.storeErase tag _) handleStoreErase (.erase a) rfl hawake hlen
        (heq.trans (checked_pass _ _ _ (by simp; omega)))
    · simp only [firstCause, decide_eq_true_eq, if_pos hhigh]
    · have hin : ¬ 0xFEFFFF < a := by omega
      simp only [firstCause, decide_eq_true_eq, if_neg hin, if_pos hsector]
  case read =>
    have heq := handleStoreRead_eq s.vks a n ha hn
    have hlen : (leBytes 3 a ++ leBytes 1 n).length ≤ 58 := by simp
    have hbad (c : Nat) (h : firstCause [(decide (n < 1) || decide (48 < n), 11), (decide (0xFF0000 < a + n), 14)] = some c) :=
      exec_badArgs s 0x44#8 tag _ (.storeRead tag _) handleStoreRead c rfl hawake hlen (heq.trans (checked_fail _ _ _ c h))
    refine ⟨fun hone hfew hin => ?_, fun hcount => hbad 11 ?_, fun hone hfew hout => hbad 14 ?_⟩
    · exact linkRequest_taken s 0x44#8 tag _ (.storeRead tag _) handleStoreRead (.read a n) rfl hawake hlen
        (heq.trans (checked_pass _ _ _ (by simp; omega)))
    · have hany : n < 1 ∨ 48 < n := by omega
      simp only [firstCause, Bool.or_eq_true, decide_eq_true_eq, if_pos hany]
    · have hnone : ¬ (n < 1 ∨ 48 < n) := by omega
      simp only [firstCause, Bool.or_eq_true, decide_eq_true_eq, if_neg hnone, if_pos hout]

/-! ### Claim and release (R135 to R137) -/

/-- Nothing but the notice queue, with its latch, moves. -/
structure NoticesOnly (a b : Vks) : Prop where
  frame : Untouched a b
  attempt : a.attempt = b.attempt
  sched : a.sched = b.sched
  reader : a.reader = b.reader
  power : a.power = b.power

theorem NoticesOnly.refl (v : Vks) : NoticesOnly v v := ⟨.refl v, rfl, rfl, rfl, rfl⟩

theorem NoticesOnly.trans {a b c : Vks} (h : NoticesOnly a b) (k : NoticesOnly b c) : NoticesOnly a c :=
  ⟨h.frame.trans k.frame, h.attempt.trans k.attempt, h.sched.trans k.sched, h.reader.trans k.reader, h.power.trans k.power⟩

theorem raiseNotice_noticesOnly (n : Notice) (v : Vks) : NoticesOnly (raiseNotice n v) v :=
  ⟨raiseNotice_untouched n v, raiseNotice_attempt n v, raiseNotice_sched n v, raiseNotice_reader n v, raiseNotice_power n v⟩

/-- R22: the end of an utterance that is not outstanding is disregarded. -/
theorem endReport_of_not_outstanding (id : Nat) (v : Vks) (h : id ∉ v.attempt.ctx.outstanding) : endReport id v = v := by
  simp [endReport, h]

/-- R22, R103: with nothing outstanding the ends of utterances only raise notices. -/
theorem reportEnds_noticesOnly (o : UttOutcome) (us : List Utterance) (v : Vks) (hnone : v.attempt.ctx.outstanding = []) :
    NoticesOnly (reportEnds o us v) v := by
  induction us generalizing v with
  | nil => exact .refl v
  | cons u us ih =>
    have hend : NoticesOnly (reportEnd o v u) v := by
      unfold reportEnd
      split
      · exact raiseNotice_noticesOnly _ v
      · rw [endReport_of_not_outstanding _ _ (by simp [hnone])]
        exact .refl v
    exact (ih _ (by rw [hend.attempt, hnone])).trans hend

/-- The part with both voices stopped and the store CLAIMED (R136). -/
def claimedPart (v : Vks) : Vks := setStore .claimed (stopVoices v).2

theorem claimedPart_untouched (v : Vks) : Untouched (claimedPart v) { v with reader := { v.reader with store := .claimed } } := by
  constructor <;> rfl

/-- R136: what a grant leaves at its event's end: both voices stopped, the queue as it was. -/
theorem settle_granted (v g : Vks) (h : NoticesOnly g (claimedPart v)) :
    Untouched (settle g) { v with reader := { v.reader with store := .claimed } }
      ∧ (settle g).reader.mainVoice = Voice.idle ∧ (settle g).sched.queue = v.sched.queue
      ∧ (v.sched.echoLine = none → (settle g).reader.echoVoice = Voice.idle) := by
  have hclosed : g.storeOpen = false := by rw [Vks.storeOpen, h.reader]; rfl
  have hmain : g.voice .main = Voice.idle := by rw [Vks.voice, h.reader]; rfl
  have hecho : g.voice .echo = Voice.idle := by rw [Vks.voice, h.reader]; rfl
  obtain ⟨hvoice, hqueue⟩ := settle_main_of_no_start g (startMainHead_of_closed g hclosed)
  refine ⟨(settle_untouched g).trans (h.frame.trans (claimedPart_untouched v)), ?_, ?_, fun hline => ?_⟩
  · exact (hvoice.of_idle (by rw [hmain]; rfl)).trans hmain
  · rw [hqueue, h.sched]
    rfl
  · have hgline : g.sched.echoLine = none := by rw [h.sched]; exact hline
    exact ((settle_echo_of_no_line g hgline).1.of_idle (by rw [hecho]; rfl)).trans hecho

theorem grantClaim_now_noticesOnly (v : Vks) (hnone : v.attempt.ctx.outstanding = []) :
    NoticesOnly (grantClaim false v) (claimedPart v) := reportEnds_noticesOnly .cut _ (claimedPart v) hnone

/-- R135: STORE CLAIM by what it does to the part. -/
theorem exec_storeClaim (s : State) (tag : Byte) (hawake : Awake s) : exec (.storeClaim tag []) s
    = .next (withPart s (replying 0x40#8 tag (claimStore s.vks).2
        [BitVec.ofNat 8 (claimStore s.vks).1.reader.store.code, BitVec.ofNat 8 (claimStore s.vks).1.reader.headerOutcome.code,
          0#8, 0#8] [] (settle (claimStore s.vks).1))) :=
  exec_answered _ 0x40#8 tag _ handleStoreClaim s _ _ (claimData (claimStore s.vks).1) _ [] rfl hawake (Nat.zero_le _)
    (by rw [handleStoreClaim, withoutArgument_nil]) (by simp [claimData, storeByte, padTo, leBytes])

/-- R137: STORE RELEASE by the store state. -/
theorem exec_storeRelease_refused (s : State) (tag : Byte) (result : Result) (hawake : Awake s)
    (hhandled : handleStoreRelease [] s.vks = (s.vks, ⟨result, storeByte s.vks, []⟩)) : exec (.storeRelease tag []) s
    = .next (withPart s (replying 0x41#8 tag result [BitVec.ofNat 8 s.vks.reader.store.code, 0#8, 0#8, 0#8] [] s.vks)) :=
  exec_answered _ 0x41#8 tag _ handleStoreRelease s _ _ (storeByte s.vks) _ [] rfl hawake (Nat.zero_le _) hhandled
    (padTo_four_one _)

/-- Settles O42: the claim and the release by the store state. -/
theorem storeClaimAndReleaseByStoreState : Obligations.StoreClaimAndReleaseByStoreState := by
  intro s tag hawake r
  have hclaim := exec_storeClaim s tag hawake
  refine ⟨fun hgranted hnone => ?granted, fun hwaits => ?waits, fun hpending => ?pending, fun hclaimed => ?claimed,
    fun hclaimed hfree => ?released, fun hclaimed ⟨op, hlink⟩ => ?busy, fun hpending => ?unreleased, fun hother => ?other⟩
  case granted =>
    have hstore : claimStore s.vks = (grantClaim false s.vks, .ok) := by
      rcases hgranted with ⟨hstore, hidle⟩ | hstore
      · rw [claimStore, show s.vks.reader.store = .usable from hstore]
        exact if_pos hidle
      · rw [claimStore, show s.vks.reader.store = .unusable from hstore]
    have honly := grantClaim_now_noticesOnly s.vks hnone
    obtain ⟨hframe, hmain, hqueue, hecho⟩ := settle_granted s.vks _ honly
    have hcode : (grantClaim false s.vks).reader.store = .claimed := by rw [honly.reader]; rfl
    have houtcome : (grantClaim false s.vks).reader.headerOutcome = r.headerOutcome := by rw [honly.reader]; rfl
    rw [hstore] at hclaim
    simp only [hcode, houtcome] at hclaim
    generalize settle (grantClaim false s.vks) = t at hclaim hframe hmain hqueue hecho
    exact ⟨_, hclaim, rfl, rfl, hmain, hecho, hqueue, replying_untouched _ _ _ _ _ hframe⟩
  case waits =>
    have hstore : claimStore s.vks = (claimPending s.vks, .accepted) := by
      rcases hwaits with ⟨hstore, hbusy⟩ | hstore
      · rw [claimStore, show s.vks.reader.store = .usable from hstore]
        exact if_neg hbusy
      · rw [claimStore, show s.vks.reader.store = .checking from hstore]
    have hframe := settle_untouched (claimPending s.vks)
    rw [hstore] at hclaim
    generalize settle (claimPending s.vks) = t at hclaim hframe
    exact ⟨_, hclaim, rfl, rfl, replying_untouched _ _ _ _ _ hframe⟩
  case pending =>
    have hcode : s.vks.reader.store = .claimPending := hpending
    have hstore : claimStore s.vks = (s.vks, .accepted) := by rw [claimStore, hcode]
    have hframe := settle_untouched s.vks
    rw [hstore] at hclaim
    simp only [hcode] at hclaim
    exact ⟨_, hclaim, replying_untouched _ _ _ _ _ hframe⟩
  case claimed =>
    have hcode : s.vks.reader.store = .claimed := hclaimed
    have hstore : claimStore s.vks = (s.vks, .ok) := by rw [claimStore, hcode]
    have hframe := settle_untouched s.vks
    rw [hstore] at hclaim
    simp only [hcode] at hclaim
    exact ⟨_, hclaim, replying_untouched _ _ _ _ _ hframe⟩
  case released =>
    have hhandled : handleStoreRelease [] s.vks = (settle (beginCheck s.vks), answerOk (leBytes 1 0)) := by
      rw [handleStoreRelease, withoutArgument_nil, show s.vks.reader.store = .claimed from hclaimed]
      exact if_neg (by simp [storeBusy_of_no_link hfree])
    have hexec := exec_answered (.storeRelease tag []) 0x41#8 tag _ handleStoreRelease s _ _ (leBytes 1 0) _ [] rfl hawake
      (Nat.zero_le _) hhandled (padTo_four_one 0)
    have hengine : (settle (beginCheck s.vks)).reader.engine = .header := settle_engine (beginCheck s.vks) nofun
    have hframe : Untouched (settle (beginCheck s.vks)) { s.vks with reader := { r with store := .checking } } :=
      (settle_untouched (beginCheck s.vks)).trans (by constructor <;> rfl)
    generalize settle (beginCheck s.vks) = t at hexec hengine hframe
    exact ⟨_, hexec, rfl, rfl, hengine, replying_untouched _ _ _ _ _ hframe⟩
  case busy =>
    have hcode : s.vks.reader.store = .claimed := hclaimed
    have hexec := exec_storeRelease_refused s tag .busy hawake (by
      rw [handleStoreRelease, withoutArgument_nil, hcode]
      exact if_pos (storeBusy_of_link hlink))
    rw [hcode] at hexec
    exact hexec
  case unreleased =>
    have hcode : s.vks.reader.store = .claimPending := hpending
    have hexec := exec_storeRelease_refused s tag .busy hawake (by rw [handleStoreRelease, withoutArgument_nil, hcode]; rfl)
    rw [hcode] at hexec
    exact hexec
  case other =>
    refine exec_storeRelease_refused s tag .notClaimed hawake ?_
    rw [handleStoreRelease, withoutArgument_nil]
    rcases hother with h | h | h <;> rw [show s.vks.reader.store = _ from h] <;> rfl

end Sys2Proof.Stores
end

section
/-! SUPPORT. The ends of the link operations (R138 to R141) and of the header check (R121, R122). -/

namespace Sys2Proof.StoreEnds

open Sys2Proof.Machine Sys2Proof.EventMoves Sys2Proof.EventFrames Sys2Proof.ArgBytes Sys2Proof.VoiceFrames Sys2Proof.Stores

/-! ### The flash read and written (R118, R139, R140) -/

theorem misread_nil (bs : List Byte) : misread bs [] = bs := rfl

theorem readBytes_length (f : Flash) (a n : Nat) : (f.readBytes a n).length = n := by simp [Flash.readBytes]

theorem readBytes_window (f : Flash) (a n i k : Nat) (h : i + k ≤ n) :
    ((f.readBytes a n).drop i).take k = f.readBytes (a + i) k := by
  refine List.ext_getElem ?_ fun j hj hj' => ?_
  · simp [Flash.readBytes]
    omega
  · simp [Flash.readBytes, Nat.add_assoc]

theorem fieldAt_readBytes (f : Flash) (a n i k : Nat) (h : i + k ≤ n) :
    fieldAt (f.readBytes a n) i k = leValue (f.readBytes (a + i) k) := by
  rw [fieldAt, readBytes_window f a n i k h]

theorem byteAt_readBytes (f : Flash) (a n i : Nat) (h : i < n) : byteAt (f.readBytes a n) i = (f.read (a + i)).toNat := by
  simp [byteAt, Flash.readBytes, h]

theorem leValue_two (f : Flash) (a : Nat) : leValue (f.readBytes a 2) = (f.read a).toNat + 256 * (f.read (a + 1)).toNat := by
  simp [Flash.readBytes, List.range_succ, leValue]

theorem leValue_three (f : Flash) (a : Nat) : leValue (f.readBytes a 3)
    = (f.read a).toNat + 256 * (f.read (a + 1)).toNat + 65536 * (f.read (a + 2)).toNat := by
  simp [Flash.readBytes, List.range_succ, leValue]
  omega

/-- Bytes read back equal what was wanted place by place. -/
theorem readBytes_eq_iff (f : Flash) (a : Nat) (d : List Byte) :
    f.readBytes a d.length = d ↔ ∀ i, i < d.length → f.read (a + i) = d.getD i 0#8 := by
  constructor
  · intro h i hi
    have hget := List.getElem_of_eq h (i := i) (by rw [readBytes_length]; exact hi)
    simpa [Flash.readBytes, hi] using hget
  · intro h
    refine List.ext_getElem (readBytes_length f a d.length) fun i hi hi' => ?_
    simpa [Flash.readBytes, hi'] using h i hi'

/-- R139: a program on the flash, verified. -/
theorem verifiedTwice_program (f : Flash) (a : Nat) (d : List Byte) (hwf : f.wf = true) :
    let r := verifiedTwice (fun f => f.program a d) a d.length d true [] [] f
    (∀ x, r.1.read x = if a ≤ x ∧ x < a + d.length then f.read x &&& d.getD (x - a) 0#8 else f.read x)
    ∧ (r.2 = if ∀ i, i < d.length → f.read (a + i) &&& d.getD i 0#8 = d.getD i 0#8 then (true, 1) else (false, 2)) := by
  have hpass (g : Flash) (hg : g.wf = true) (x : Nat) := Flash.read_program d g a x hg
  have hinside (g : Flash) (hg : g.wf = true) (i : Nat) (hi : i < d.length) :
      (g.program a d).read (a + i) = g.read (a + i) &&& d.getD i 0#8 := by
    rw [hpass g hg, if_pos (by omega), Nat.add_sub_cancel_left]
  have hwf1 : (f.program a d).wf = true := f.program_wf d a hwf
  have htwice (x : Nat) : ((f.program a d).program a d).read x = (f.program a d).read x := by
    rw [hpass _ hwf1, hpass f hwf]
    split
    · rw [BitVec.and_assoc, BitVec.and_self]
    · rfl
  have hverify : (f.program a d).readBytes a d.length = d
      ↔ ∀ i, i < d.length → f.read (a + i) &&& d.getD i 0#8 = d.getD i 0#8 := by
    rw [readBytes_eq_iff]
    exact forall₂_congr fun i hi => by rw [hinside f hwf i hi]
  have hagain : ((f.program a d).program a d).readBytes a d.length = (f.program a d).readBytes a d.length := by
    simp only [Flash.readBytes, htwice]
  intro r
  by_cases hdone : ∀ i, i < d.length → f.read (a + i) &&& d.getD i 0#8 = d.getD i 0#8
  · have hr : r = (f.program a d, true, 1) := by
      simp only [r, verifiedTwice, Bool.not_true, Bool.false_eq_true, if_false, misread_nil]
      exact if_pos (hverify.mpr hdone)
    rw [hr, if_pos hdone]
    exact ⟨hpass f hwf, rfl⟩
  · have hfail : ¬ (f.program a d).readBytes a d.length = d := fun h => hdone (hverify.mp h)
    have hr : r = ((f.program a d).program a d, false, 2) := by
      simp only [r, verifiedTwice, Bool.not_true, Bool.false_eq_true, if_false, misread_nil, hagain,
        decide_eq_false hfail]
      exact if_neg hfail
    rw [hr, if_neg hdone]
    exact ⟨fun x => (htwice x).trans (hpass f hwf x), rfl⟩

/-- R140: an erase on the flash, verified. -/
theorem verifiedTwice_erase (f : Flash) (a n : Nat) :
    verifiedTwice (fun f => f.erase a n) a n (List.replicate n 0xFF#8) true [] [] f = (f.erase a n, true, 1) := by
  have hverify : (f.erase a n).readBytes a n = List.replicate n 0xFF#8 :=
    List.ext_getElem (by simp [Flash.readBytes]) fun i hi hi' => by
      have hin : i < n := by simpa using hi'
      simp [Flash.readBytes, f.read_erase, hin]
  simp only [verifiedTwice, Bool.not_true, Bool.false_eq_true, if_false, misread_nil]
  exact if_pos hverify

/-- R138: a flash that does not answer is not changed, and no pass is made. -/
theorem verifiedTwice_absent (act : Flash → Flash) (a n : Nat) (want : List Byte) (bad1 bad2 : Misread) (f : Flash) :
    verifiedTwice act a n want false bad1 bad2 f = (f, false, 0) := rfl

/-! ### The end of a link operation (R138) -/

/-- In CLAIMED no voice needs a read, so an IDLE engine stays IDLE. -/
theorem settle_engine_idle (v : Vks) (hidle : v.reader.engine = .idle) (hstore : v.reader.store ≠ .usable) :
    (settle v).reader.engine = .idle := by
  have hnot (i : VoiceId) : ¬ WantsRead (settle v) i := fun h => hstore ((settle_untouched v).store ▸ h.2.1)
  exact (settle_arbiterServes v hidle).none (hnot .main) (hnot .echo)

/-- R138: the engine is IDLE, STORE_DONE stands behind what waited, and nothing else moves. -/
theorem linkDone_tells (op : LinkOp) (ok : Bool) (passes : Nat) (v : Vks) (hstore : v.reader.store = .claimed)
    (hroom : v.notices.queue.length < 16) :
    (linkDone op ok passes v).reader.engine = .idle
    ∧ (∃ later, (linkDone op ok passes v).notices.queue
        = v.notices.queue ++ .storeDone op.code (if ok then 0 else 1) op.address passes :: later)
    ∧ Untouched (linkDone op ok passes v) v := by
  have hjoin := settle_join (raiseNotice (.storeDone op.code (if ok then 0 else 1) op.address passes) (setEngine .idle v))
  have hframe := (settle_untouched (raiseNotice (.storeDone op.code (if ok then 0 else 1) op.address passes)
    (setEngine .idle v))).trans (raiseNotice_untouched _ _)
  refine ⟨settle_engine_idle _ (by rw [raiseNotice_reader]; rfl) ?_, hjoin.raised _ hroom,
    hframe.trans (by constructor <;> rfl)⟩
  rw [raiseNotice_reader]
  exact fun h => by cases hstore.symm.trans h

theorem insideFlash_iff (a n : Nat) : insideFlash a n = true ↔ a + n ≤ 0xFF0000 := decide_eq_true_iff

theorem exec_storeWriteEnd (s : State) (present : Bool) (bad1 bad2 : Misread) {a : Nat} {d : List Byte}
    (hengine : s.vks.reader.engine = .link (.write a d)) : exec (.storeWriteEnd present bad1 bad2) s
      = (if insideFlash a d.length then
          let r := verifiedTwice (fun f => f.program a d) a d.length d present bad1 bad2 s.flash
          .next { s with flash := r.1, vks := linkDone (.write a d) r.2.1 r.2.2 s.vks }
        else .fault (.noSuchFlashAddress a)) := by
  show execStoreWriteEnd present bad1 bad2 s = _
  rw [execStoreWriteEnd, hengine]

theorem exec_storeEraseEnd (s : State) (present : Bool) (bad1 bad2 : Misread) {a : Nat}
    (hengine : s.vks.reader.engine = .link (.erase a)) : exec (.storeEraseEnd present bad1 bad2) s
      = (if insideFlash a sectorBytes then
          let r := verifiedTwice (fun f => f.erase a sectorBytes) a sectorBytes (List.replicate sectorBytes 0xFF#8)
            present bad1 bad2 s.flash
          .next { s with flash := r.1, vks := linkDone (.erase a) r.2.1 r.2.2 s.vks }
        else .fault (.noSuchFlashAddress a)) := by
  show execStoreEraseEnd present bad1 bad2 s = _
  rw [execStoreEraseEnd, hengine]

theorem exec_storeReadEnd (s : State) (present : Bool) (bad : Misread) {a n : Nat}
    (hengine : s.vks.reader.engine = .link (.read a n)) : exec (.storeReadEnd present bad) s
      = (if insideFlash a n then
          let got := if present then some (Holding.mk a (misread (s.flash.readBytes a n) bad)) else none
          .next { s with vks := linkDone (.read a n) present (if present then 1 else 0) (setHolding got s.vks) }
        else .fault (.noSuchFlashAddress a)) := by
  show execStoreReadEnd present bad s = _
  rw [execStoreReadEnd, hengine]

/-- Settles O45: the three ends, on a flash that answers and on one that does not, and outside it. -/
theorem linkOperationEnds : Obligations.LinkOperationEnds := by
  refine ⟨fun s hstore hwf hroom => ⟨fun a d hengine hin => ⟨?_, ?_⟩, fun a hengine hin => ⟨?_, ?_⟩,
    fun a n hengine hin => ⟨?_, ?_⟩⟩, fun s present bad1 bad2 a n d => ⟨fun hengine hout => ?_, fun hengine hout => ?_,
    fun hengine hout => ?_⟩⟩
  · obtain ⟨hread, hdone⟩ := verifiedTwice_program s.flash a d hwf
    obtain ⟨hidle, htold, hframe⟩ := linkDone_tells (.write a d)
      (verifiedTwice (fun f => f.program a d) a d.length d true [] [] s.flash).2.1
      (verifiedTwice (fun f => f.program a d) a d.length d true [] [] s.flash).2.2 s.vks hstore hroom
    rw [exec_storeWriteEnd s true [] [] hengine, if_pos ((insideFlash_iff a d.length).mpr hin)]
    refine ⟨_, rfl, rfl, hidle, hread, ?_, hframe⟩
    obtain ⟨later, hlater⟩ := htold
    refine ⟨later, hlater.trans ?_⟩
    rw [hdone]
    split <;> rfl
  · obtain ⟨hidle, htold, hframe⟩ := linkDone_tells (.write a d) false 0 s.vks hstore hroom
    rw [exec_storeWriteEnd s false [] [] hengine, if_pos ((insideFlash_iff a d.length).mpr hin), verifiedTwice_absent]
    dsimp only
    generalize linkDone (.write a d) false 0 s.vks = v at hidle htold hframe ⊢
    exact ⟨_, rfl, rfl, hidle, htold, hframe⟩
  · obtain ⟨hidle, htold, hframe⟩ := linkDone_tells (.erase a) true 1 s.vks hstore hroom
    rw [exec_storeEraseEnd s true [] [] hengine, if_pos ((insideFlash_iff a sectorBytes).mpr hin), verifiedTwice_erase]
    dsimp only
    generalize linkDone (.erase a) true 1 s.vks = v at hidle htold hframe ⊢
    exact ⟨_, rfl, rfl, hidle, fun x => s.flash.read_erase a sectorBytes x, htold, hframe⟩
  · obtain ⟨hidle, htold, hframe⟩ := linkDone_tells (.erase a) false 0 s.vks hstore hroom
    rw [exec_storeEraseEnd s false [] [] hengine, if_pos ((insideFlash_iff a sectorBytes).mpr hin), verifiedTwice_absent]
    dsimp only
    generalize linkDone (.erase a) false 0 s.vks = v at hidle htold hframe ⊢
    exact ⟨_, rfl, rfl, hidle, htold, hframe⟩
  · obtain ⟨hidle, htold, hframe⟩ := linkDone_tells (.read a n) true 1
      (setHolding (some ⟨a, s.flash.readBytes a n⟩) s.vks) hstore hroom
    rw [exec_storeReadEnd s true [] hengine, if_pos ((insideFlash_iff a n).mpr hin)]
    simp only [misread_nil, reduceIte]
    generalize linkDone (.read a n) true 1 (setHolding (some ⟨a, s.flash.readBytes a n⟩) s.vks) = v at hidle htold hframe ⊢
    exact ⟨_, rfl, rfl, rfl, hidle, htold, hframe⟩
  · obtain ⟨hidle, htold, hframe⟩ := linkDone_tells (.read a n) false 0 (setHolding none s.vks) hstore hroom
    rw [exec_storeReadEnd s false [] hengine, if_pos ((insideFlash_iff a n).mpr hin)]
    simp only [Bool.false_eq_true, reduceIte]
    generalize linkDone (.read a n) false 0 (setHolding none s.vks) = v at hidle htold hframe ⊢
    exact ⟨_, rfl, rfl, hidle, htold, hframe⟩
  · rw [exec_storeWriteEnd s present bad1 bad2 hengine]
    exact if_neg fun h => by rw [insideFlash_iff] at h; omega
  · rw [exec_storeEraseEnd s present bad1 bad2 hengine]
    exact if_neg fun h => Nat.not_le.mpr hout ((insideFlash_iff a sectorBytes).mp h)
  · rw [exec_storeReadEnd s present bad1 hengine]
    exact if_neg fun h => by rw [insideFlash_iff] at h; omega

/-! ### The header check (R121, R122) -/

/-- R118, R121: what the header's 16 bytes say, read from the flash. -/
theorem header_fields (f : Flash) :
    let h := fun i => (f.read i).toNat
    let b := f.readBytes 0 16
    byteSum (b.take 14) = (List.range 14).foldl (fun n i => n + h i) 0 % 65536
      ∧ fieldAt b 0 2 = h 0 + 256 * h 1 ∧ fieldAt b 2 2 = h 2 + 256 * h 3 ∧ byteAt b 4 = h 4
      ∧ fieldAt b 14 2 = h 14 + 256 * h 15 := by
  intro h b
  have hfield (i : Nat) (hi : i + 2 ≤ 16) : fieldAt b i 2 = h i + 256 * h (i + 1) := by
    rw [fieldAt_readBytes f 0 16 i 2 hi, leValue_two, Nat.zero_add]
  refine ⟨?_, hfield 0 (by decide), hfield 2 (by decide), ?_, hfield 14 (by decide)⟩
  · have htake : b.take 14 = (List.range 14).map (fun i => f.read i) := by
      have hwindow := readBytes_window f 0 16 0 14 (by decide)
      rw [List.drop_zero] at hwindow
      simpa [Flash.readBytes, b] using hwindow
    rw [byteSum, htake, List.foldl_map]
  · rw [byteAt_readBytes f 0 16 4 (by decide), Nat.zero_add]

theorem grantClaim_outside (late : Bool) (v : Vks) : OutsideAttempt (grantClaim late v) (claimedPart v) := by
  have hends := reportEnds_outside .cut (stopVoices v).1 (claimedPart v)
  unfold grantClaim
  simp only
  split
  · exact (raiseNotice_untouched _ _).outside.trans hends
  · exact hends

/-- The state a header check leaves for the store, from its outcome (R122). -/
def headerTaken (outcome : HeaderOutcome) (b : List Byte) (v : Vks) : Vks :=
  let v1 := recordHeader outcome v
  if v1.reader.store = .claimPending then grantClaim true (setInForce 0 0 v1)
  else if outcome = .good then setStore .usable (setInForce (fieldAt b 2 2) (byteAt b 4) v1)
  else setStore .unusable (setInForce 0 0 v1)

theorem headerCheckEnd_eq (present : Bool) (h1 h2 : List Byte) (v : Vks) : headerCheckEnd present h1 h2 v
    = settle (headerTaken (headerCheck present h1 h2).1 (headerCheck present h1 h2).2 v) := rfl

/-- R121: two equal readings decide as one. -/
theorem headerCheck_true (b : List Byte) :
    headerCheck true b b = (if byteSum (b.take 14) = fieldAt b 14 2 then headerFields b else .badCheck, b) := by
  by_cases h : byteSum (b.take 14) = fieldAt b 14 2 <;> simp [headerCheck, headerPasses, h]

theorem headerCheck_absent (b : List Byte) : headerCheck false b b = (.absent, b) := rfl

/-- Each end raises at most one notice. -/
theorem reportEnds_queue_length (o : UttOutcome) (us : List Utterance) (v : Vks) (hnone : v.attempt.ctx.outstanding = []) :
    (reportEnds o us v).notices.queue.length ≤ v.notices.queue.length + us.length := by
  induction us generalizing v with
  | nil => exact le_rfl
  | cons u us ih =>
    have hend : NoticesOnly (reportEnd o v u) v := reportEnds_noticesOnly o [u] v hnone
    have hone : (reportEnd o v u).notices.queue.length ≤ v.notices.queue.length + 1 := by
      unfold reportEnd
      split
      · unfold raiseNotice
        split
        · simp
        · exact Nat.le_succ _
      · rw [endReport_of_not_outstanding _ _ (by simp [hnone])]
        exact Nat.le_succ _
    have hrest := ih (reportEnd o v u) (by rw [hend.attempt, hnone])
    show (reportEnds o us (reportEnd o v u)).notices.queue.length ≤ _
    rw [List.length_cons]
    omega

theorem stopVoices_length (v : Vks) : (stopVoices v).1.length ≤ 2 := by
  have hone (i : VoiceId) : (onVoice v i).length ≤ 1 := by
    rw [onVoice]
    cases (v.voice i).utterance <;> simp
  have hmain := hone .main
  have hecho := hone .echo
  rw [stopVoices, List.length_append]
  omega

/-- R136: a late grant is told behind the ends it causes. -/
theorem grantClaim_late (v : Vks) (hnone : v.attempt.ctx.outstanding = []) :
    NoticesOnly (grantClaim true v) (claimedPart v)
    ∧ (v.notices.queue.length + 2 < 16 →
        Notice.storeGranted (claimFromCode v.reader.claimFrom) ∈ (grantClaim true v).notices.queue) := by
  have hends := reportEnds_noticesOnly .cut (stopVoices v).1 (claimedPart v) hnone
  have hlength := reportEnds_queue_length .cut (stopVoices v).1 (claimedPart v) hnone
  have htwo := stopVoices_length v
  have hfrom : (reportEnds .cut (stopVoices v).1 (claimedPart v)).reader.claimFrom = v.reader.claimFrom := by
    rw [hends.reader]
    rfl
  have heq : grantClaim true v = raiseNotice (.storeGranted (claimFromCode v.reader.claimFrom))
      (reportEnds .cut (stopVoices v).1 (claimedPart v)) := by
    rw [← hfrom]
    rfl
  have hqueue : (claimedPart v).notices.queue = v.notices.queue := rfl
  rw [hqueue] at hlength
  refine ⟨heq ▸ (raiseNotice_noticesOnly _ _).trans hends, fun hroom => ?_⟩
  rw [heq, raiseNotice_queue _ _ (by omega)]
  simp

/-- R122, R136: what the end of a header check leaves, by the store state it began in. -/
theorem headerTaken_ends (outcome : HeaderOutcome) (b : List Byte) (v : Vks) :
    (settle (headerTaken outcome b v)).reader.headerOutcome = outcome
    ∧ (v.reader.store = .checking → Untouched (settle (headerTaken outcome b v)) { v with reader := { v.reader with
        headerOutcome := outcome, store := if outcome = .good then .usable else .unusable
        segmentCount := if outcome = .good then fieldAt b 2 2 else 0
        storeSize := if outcome = .good then byteAt b 4 else 0 } })
    ∧ (v.reader.store = .claimPending → v.attempt.ctx.outstanding = [] →
        (settle (headerTaken outcome b v)).reader.mainVoice = Voice.idle
        ∧ Untouched (settle (headerTaken outcome b v)) { v with reader := { v.reader with
            headerOutcome := outcome, store := .claimed, segmentCount := 0, storeSize := 0 } }
        ∧ (v.notices.queue.length + 2 < 16 →
            .storeGranted (if v.reader.claimFrom = .usable then 1 else 0) ∈ (settle (headerTaken outcome b v)).notices.queue)) := by
  have hframe := settle_untouched (headerTaken outcome b v)
  have hjoin := settle_join (headerTaken outcome b v)
  refine ⟨hframe.headerOutcome.trans ?_, fun hstore => hframe.trans ?_, fun hstore hnone => ?_⟩
  · unfold headerTaken
    simp only
    repeat' split
    · exact (grantClaim_outside true _).headerOutcome
    · rfl
    · rfl
  · have hnot : (recordHeader outcome v).reader.store ≠ .claimPending := fun h => by cases hstore.symm.trans h
    rw [headerTaken, if_neg hnot]
    split
    · constructor <;> rfl
    · constructor <;> rfl
  · have heq : headerTaken outcome b v = grantClaim true (setInForce 0 0 (recordHeader outcome v)) := if_pos hstore
    obtain ⟨honly, hgrant⟩ := grantClaim_late (setInForce 0 0 (recordHeader outcome v)) hnone
    obtain ⟨huntouched, hmain, -, -⟩ := settle_granted (setInForce 0 0 (recordHeader outcome v)) _ honly
    rw [heq] at hjoin ⊢
    refine ⟨hmain, huntouched.trans (by constructor <;> rfl), fun hroom => ?_⟩
    obtain ⟨later, hlater⟩ := hjoin.joined
    have hcode : claimFromCode v.reader.claimFrom = if v.reader.claimFrom = .usable then 1 else 0 := by
      cases v.reader.claimFrom <;> rfl
    rw [hlater, ← hcode]
    exact List.mem_append_left _ (hgrant hroom)

theorem clearInterrupted_of_none (v : Vks) (h : v.reader.interrupted = none) : clearInterrupted v = v := by
  rw [clearInterrupted, ← h]

theorem exec_headerCheckEnd (s : State) (present : Bool) (bad1 bad2 : Misread) (hengine : s.vks.reader.engine = .header) :
    exec (.headerCheckEnd present bad1 bad2) s
      = (let r := interruptedBytes s.vks.reader.interrupted
         if insideFlash r.1 r.2 then
          let f := s.flash.finishInterrupted s.vks.reader.interrupted
          let h := f.readBytes 0 16
          .next { s with
            flash := f
            vks := headerCheckEnd present (misread h bad1) (misread h bad2) (clearInterrupted s.vks) }
         else .fault (.noSuchFlashAddress r.1)) := by
  show execHeaderCheckEnd present bad1 bad2 s = _
  rw [execHeaderCheckEnd, if_pos hengine]

/-- R121: a check with true readings and nothing interrupted. -/
theorem exec_headerCheckEnd_true (s : State) (present : Bool) (hengine : s.vks.reader.engine = .header)
    (hnone : s.vks.reader.interrupted = none) : exec (.headerCheckEnd present [] []) s
      = .next { s with vks := settle (headerTaken (headerCheck present (s.flash.readBytes 0 16) (s.flash.readBytes 0 16)).1
          (headerCheck present (s.flash.readBytes 0 16) (s.flash.readBytes 0 16)).2 s.vks) } := by
  rw [exec_headerCheckEnd s present [] [] hengine, hnone]
  simp only [misread_nil, clearInterrupted_of_none s.vks hnone, headerCheckEnd_eq]
  rfl

/-- R142: an operation cut off changes at most the bytes it names, each as a program would (log 15). -/
theorem read_programReached (bs : List Byte) (f : Flash) (a x : Nat) (hwf : f.wf = true) :
    (f.programReached a bs).read x = f.read x
      ∨ (a ≤ x ∧ x < a + bs.length ∧ (f.programReached a bs).read x = f.read x &&& bs.getD (x - a) 0#8) := by
  induction bs generalizing f a with
  | nil => exact .inl rfl
  | cons b bs ih =>
    rw [Flash.programReached]
    have hother (g : Flash) (hg : g.wf = true) (hsame : a ≠ x → g.read x = f.read x)
        (hhere : x = a → g.read x = f.read x ∨ g.read x = f.read x &&& b) :
        (g.programReached (a + 1) bs).read x = f.read x ∨ (a ≤ x ∧ x < a + (b :: bs).length
          ∧ (g.programReached (a + 1) bs).read x = f.read x &&& (b :: bs).getD (x - a) 0#8) := by
      rw [List.length_cons]
      rcases ih g (a + 1) hg with h | ⟨hlow, hhigh, h⟩
      · by_cases hx : x = a
        · rcases hhere hx with e | e
          · exact .inl (h.trans e)
          · exact .inr ⟨by omega, by omega, by rw [h, e, hx]; simp⟩
        · exact .inl (h.trans (hsame (Ne.symm hx)))
      · refine .inr ⟨by omega, by omega, ?_⟩
        rw [h, hsame (by omega), show x - a = (x - (a + 1)) + 1 by omega, List.getD_cons_succ]
    split
    · refine hother _ (f.write_wf a _ hwf) (fun h => ?_) fun h => .inr ?_
      · rw [f.read_write a _ x hwf, if_neg (Ne.symm h)]
      · rw [f.read_write a _ x hwf, if_pos h, h]
    · exact hother f hwf (fun _ => rfl) fun _ => .inl rfl

/-- Cells left out by their address read as erased, the others as before. -/
theorem cellsRead_filter (q : Nat → Bool) (cells : List Host.Cell) (x : Nat) :
    cellsRead (cells.filter (fun c => !q c.1)) x = if q x then 0xFF#8 else cellsRead cells x := by
  induction cells with
  | nil => simp [cellsRead]
  | cons c t ih =>
    obtain ⟨k, b⟩ := c
    by_cases hk : q k = true
    · rw [List.filter_cons_of_neg (by simp [hk]), ih, cellsRead]
      by_cases hx : x = k
      · simp [hx, hk]
      · rw [if_neg hx]
    · rw [List.filter_cons_of_pos (by simp [hk]), cellsRead, ih, cellsRead]
      by_cases hx : x = k
      · simp [hx, hk]
      · rw [if_neg hx, if_neg hx]

/-- R142: an erase cut off makes bytes of its sector 0xFF and leaves the others (log 15). -/
theorem read_eraseReached (f : Flash) (a n x : Nat) :
    (f.eraseReached a n).read x = f.read x ∨ (a ≤ x ∧ x < a + n ∧ (f.eraseReached a n).read x = 0xFF#8) := by
  have hread : (f.eraseReached a n).read x
      = if (decide (a ≤ x) && decide (x < a + n) && Config.flashReached f.epoch x) then 0xFF#8 else f.read x :=
    cellsRead_filter (fun k => decide (a ≤ k) && decide (k < a + n) && Config.flashReached f.epoch k) f.cells x
  rw [hread]
  split
  · next h =>
    simp only [Bool.and_eq_true, decide_eq_true_eq] at h
    exact .inr ⟨h.1.1, h.1.2, rfl⟩
  · exact .inl rfl

/-- R122: the end of a check leaves no interrupted operation behind (log 16). -/
theorem headerCheckEnd_interrupted (present : Bool) (h1 h2 : List Byte) (v : Vks) :
    (headerCheckEnd present h1 h2 (clearInterrupted v)).reader.interrupted = none := by
  rw [headerCheckEnd_eq, (settle_untouched _).interrupted]
  unfold headerTaken
  simp only
  repeat' split
  · exact (grantClaim_outside true _).interrupted
  · rfl
  · rfl

/-- Settles O46: the steps of the check in their order, and the interrupted write and erase byte by byte. -/
theorem headerCheckDecidesTheStore : Obligations.HeaderCheckDecidesTheStore := by
  refine ⟨fun s hengine hnone => ?check, fun s present bad1 bad2 a d hengine hcut hwf => ⟨fun hin => ?_, fun hout => ?_⟩,
    fun s present bad1 bad2 a hengine hcut hwf => ⟨fun hin => ?_, fun hout => ?_⟩⟩
  case check =>
    intro h sum count ends
    obtain ⟨hsum, hmark, hcount, hsize, hcheck⟩ := header_fields s.flash
    have hends (present : Bool) (outcome : HeaderOutcome) (good : Bool) (hgood : outcome = .good ↔ good = true)
        (hoc : (headerCheck present (s.flash.readBytes 0 16) (s.flash.readBytes 0 16)).1 = outcome)
        (hb : (headerCheck present (s.flash.readBytes 0 16) (s.flash.readBytes 0 16)).2 = s.flash.readBytes 0 16) :
        ends present outcome good := by
      have hexec := exec_headerCheckEnd_true s present hengine hnone
      rw [hoc, hb] at hexec
      obtain ⟨houtcome, hchecking, hpending⟩ := headerTaken_ends outcome (s.flash.readBytes 0 16) s.vks
      simp only [hcount, hsize, hgood] at hchecking
      generalize settle (headerTaken outcome (s.flash.readBytes 0 16) s.vks) = t at hexec houtcome hchecking hpending
      exact ⟨_, hexec, rfl, rfl, houtcome, hchecking, hpending⟩
    have hpass (hs : sum = h 14 + 256 * h 15) :
        headerCheck true (s.flash.readBytes 0 16) (s.flash.readBytes 0 16)
          = (headerFields (s.flash.readBytes 0 16), s.flash.readBytes 0 16) := by
      rw [headerCheck_true, if_pos (by rw [hsum, hcheck]; exact hs)]
    have hfields : headerFields (s.flash.readBytes 0 16) = (if h 0 + 256 * h 1 ≠ 0x5653 then .badMark
        else if count < 1 ∨ 2048 < count then .badCount else if h 4 = 0 then .badSize else .good) := by
      rw [headerFields, hmark, hcount, hsize]
    refine ⟨hends false .absent false (by decide) rfl rfl, fun hs => ?_, fun hs hm => ?_, fun hs hm hc => ?_,
      fun hs hm h1 h2 h4 => ?_, fun hs hm h1 h2 h4 => ?_⟩
    · have hbad : headerCheck true (s.flash.readBytes 0 16) (s.flash.readBytes 0 16)
          = (.badCheck, s.flash.readBytes 0 16) := by
        rw [headerCheck_true, if_neg (by rw [hsum, hcheck]; exact hs)]
      exact hends true .badCheck false (by decide) (by rw [hbad]) (by rw [hbad])
    · exact hends true .badMark false (by decide) (by rw [hpass hs, hfields, if_pos hm]) (by rw [hpass hs])
    · exact hends true .badCount false (by decide) (by rw [hpass hs, hfields, if_neg (not_not.mpr hm), if_pos hc])
        (by rw [hpass hs])
    · exact hends true .badSize false (by decide)
        (by rw [hpass hs, hfields, if_neg (not_not.mpr hm), if_neg (by omega), if_pos h4]) (by rw [hpass hs])
    · exact hends true .good true (by decide)
        (by rw [hpass hs, hfields, if_neg (not_not.mpr hm), if_neg (by omega), if_neg h4]) (by rw [hpass hs])
  · rw [exec_headerCheckEnd s present bad1 bad2 hengine, hcut]
    dsimp only [interruptedBytes]
    rw [if_pos ((insideFlash_iff a d.length).mpr hin)]
    exact ⟨_, rfl, headerCheckEnd_interrupted _ _ _ s.vks, fun x => read_programReached d s.flash a x hwf⟩
  · rw [exec_headerCheckEnd s present bad1 bad2 hengine, hcut]
    exact if_neg fun h => by rw [insideFlash_iff] at h; exact Nat.not_le.mpr hout h
  · rw [exec_headerCheckEnd s present bad1 bad2 hengine, hcut]
    dsimp only [interruptedBytes]
    rw [if_pos ((insideFlash_iff a sectorBytes).mpr hin)]
    exact ⟨_, rfl, headerCheckEnd_interrupted _ _ _ s.vks, fun x => read_eraseReached s.flash a sectorBytes x⟩
  · rw [exec_headerCheckEnd s present bad1 bad2 hengine, hcut]
    exact if_neg fun h => Nat.not_le.mpr hout ((insideFlash_iff a sectorBytes).mp h)

end Sys2Proof.StoreEnds
end

section
/-! SUPPORT. The ends of the directory read and the block read (R123, R125, R127, R129 to R132). -/

namespace Sys2Proof.VoiceReads

open Sys2Proof.Machine Sys2Proof.EventMoves Sys2Proof.EventFrames Sys2Proof.ArgBytes Sys2Proof.VoiceFrames Sys2Proof.Stores
  Sys2Proof.StoreEnds Sys2Proof.Invariants

/-! ### What every end of a voice read keeps -/

theorem grantClaim_engine_idle (late : Bool) (v : Vks) (hidle : v.reader.engine = .idle) :
    (grantClaim late v).reader.engine = .idle := by
  have hstop : (claimedPart v).reader.engine = .idle := by
    simp only [claimedPart, stopVoices, setStore, idleVoice, setVoice, hidle, Engine.forsake]
  have hends : (reportEnds .cut (stopVoices v).1 (claimedPart v)).reader.engine = .idle :=
    moves_engine_idle (reportEnds_moves .cut _ (claimedPart v)) hstop
  unfold grantClaim
  simp only
  split
  · rw [raiseNotice_reader]
    exact hends
  · exact hends

theorem grantIfPending_engine_idle (v : Vks) (hidle : v.reader.engine = .idle) :
    (grantIfPending v).reader.engine = .idle := by
  unfold grantIfPending
  split
  · exact grantClaim_engine_idle true v hidle
  · exact hidle

theorem grantIfPending_of_usable (v : Vks) (h : v.reader.store = .usable) : grantIfPending v = v :=
  if_neg (by rw [h]; decide)

/-- R129: whatever a directory read brings, the arbiter looks afresh when it ends. -/
theorem directoryReadEnd_arbiter (i : VoiceId) (segment : Nat) (live : Bool) (d : List Byte) (v : Vks) :
    ArbiterServes (directoryReadEnd i segment live d v) := by
  unfold directoryReadEnd
  refine settle_arbiterServes _ (grantIfPending_engine_idle _ ?_)
  split
  · exact moves_engine_idle (takeEntry_moves i segment _ _) rfl
  · rfl

theorem recordBlock_reader (segment block address : Nat) (r : ReadResult) (v : Vks) :
    (recordBlock segment block address r v).reader.engine = v.reader.engine
      ∧ (∀ i, (recordBlock segment block address r v).voice i = v.voice i)
      ∧ (recordBlock segment block address r v).mixer = v.mixer := by
  unfold recordBlock noteFail
  simp only
  split
  · split
    · exact ⟨rfl, fun i => by cases i <;> rfl, rfl⟩
    · refine ⟨by rw [raiseNotice_reader]; rfl, fun i => ?_, by unfold raiseNotice; split <;> rfl⟩
      cases i <;> rw [Vks.voice, raiseNotice_reader] <;> rfl
  · exact ⟨rfl, fun i => by cases i <;> rfl, rfl⟩

/-- R129: whatever a block read brings, the arbiter looks afresh when it ends. -/
theorem blockReadEnd_arbiter (i : VoiceId) (segment block address take rate : Nat) (live : Bool) (b1 b2 : List Byte) (v : Vks) :
    ArbiterServes (blockReadEnd i segment block address take rate live b1 b2 v) := by
  have hrecord := (recordBlock_reader segment block address (blockCheck b1 b2).1 (setEngine .idle v)).1
  unfold blockReadEnd
  refine settle_arbiterServes _ (grantIfPending_engine_idle _ ?_)
  split
  · exact moves_engine_idle (feedBlock_moves i take rate _ _) hrecord
  · exact hrecord

/-! ### A fill (R127) -/

/-- R127: the click, sample by sample. -/
theorem click_sample (k : Nat) : Fill.sample (.tone .click) k = if k % 16 < 8 then 16384 else -16384 := by
  show squareWave 16 64 k = _
  unfold squareWave
  by_cases h : k % 16 < 8
  · rw [if_pos (by omega), if_pos h]
    rfl
  · rw [if_neg (by omega), if_neg h]
    rfl

/-- R125: what enters joins the tail, its first sample with the marks. -/
theorem enter_ring (w : Voice) (values : List Int) (begins level : Option Nat) : (w.enter values begins level).ring
    = w.ring ++ values.mapIdx (fun k y => ⟨y, if k = 0 then begins else none, if k = 0 then level else none⟩) := by
  cases values with
  | nil => simp [Voice.enter]
  | cons x xs =>
    have hrest : xs.map (fun y => RingSample.mk y none none) = xs.mapIdx (fun _ y => ⟨y, none, none⟩) :=
      List.ext_getElem (by simp) fun j _ _ => by simp
    simp [Voice.enter, List.mapIdx_cons, hrest]

theorem enter_values (w : Voice) (values : List Int) (begins level : Option Nat) :
    (w.enter values begins level).ring.map RingSample.value = w.ring.map RingSample.value ++ values := by
  cases values with
  | nil => simp [Voice.enter]
  | cons x xs => simp [Voice.enter, Function.comp_def]

/-- The first stage of a fill: as much of it as fits joins the ring. -/
theorem readAhead_fill (i : VoiceId) (v : Vks) (f : Fill) (hplaying : (v.voice i).state = .playing)
    (hitem : (v.voice i).readItem ≠ 0) (hphase : (v.voice i).phase = .filling f) :
    ∃ more, ((readAhead i v).voice i).ring = ((v.voice i).pourFill f v.ringCapacity).ring ++ more := by
  have hstage : ((readStage i v).1.voice i).ring = ((v.voice i).pourFill f v.ringCapacity).ring := by
    have hgo : ¬ ((v.voice i).state ≠ .playing ∨ (v.voice i).readItem = 0) := by
      rintro (h | h)
      · exact h hplaying
      · exact hitem h
    unfold readStage
    simp only [if_neg hgo, hphase]
    split
    · rw [voice_setVoice_same]
      rfl
    · rw [voice_setVoice_same]
  have hrest : GoesOn (readAhead i v) (readStage i v).1 := by
    show GoesOn (readStages 82 i v) _
    unfold readStages
    split
    · next hgo => rw [hgo]; exact readStages_goesOn _ i _
    · next hstop => rw [hstop]; exact .refl _
  obtain ⟨more, hmore⟩ := (hrest.voices i).ring
  exact ⟨more, by rw [hmore, hstage]⟩

/-! ### The end of a directory read (R123, R130) -/

theorem takeEntry_untouched (i : VoiceId) (segment : Nat) (d : DirEntry) (v : Vks) : Untouched (takeEntry i segment d v) v := by
  unfold takeEntry
  refine (readAhead_untouched i _).trans ?_
  split
  · exact setVoice_untouched _ _ v
  · exact replaceSegment_untouched _ _ _ v

theorem directoryReadEnd_usable (i : VoiceId) (segment : Nat) (d : List Byte) (v : Vks) (hstore : v.reader.store = .usable) :
    directoryReadEnd i segment true d v = settle (takeEntry i segment (directoryEntry d) (setEngine .idle v)) := by
  unfold directoryReadEnd
  simp only
  rw [if_pos (show True ∧ (setEngine .idle v).reader.store = .usable from ⟨trivial, hstore⟩),
    grantIfPending_of_usable _ ((takeEntry_untouched i segment (directoryEntry d) (setEngine .idle v)).store.trans hstore)]

/-- R118: a directory entry's fields, read from the flash. -/
theorem directoryEntry_read (f : Flash) (a : Nat) :
    let d := fun k => (f.read (a + k)).toNat
    directoryEntry (f.readBytes a 8) = ⟨d 0 + 256 * d 1 + 65536 * d 2, d 3 + 256 * d 4, d 5, min 128 (d 6)⟩ := by
  intro d
  rw [directoryEntry, fieldAt_readBytes f a 8 0 3 (by decide), fieldAt_readBytes f a 8 3 2 (by decide), leValue_three, leValue_two,
    byteAt_readBytes f a 8 5 (by decide), byteAt_readBytes f a 8 6 (by decide)]

/-- R130: a readable entry is taken into a voice that plays. -/
theorem takeEntry_readable (i : VoiceId) (segment : Nat) (d : DirEntry) (v : Vks) (hplaying : (v.voice i).state = .playing)
    (hcause : entryCause v d = 0) : (settle (takeEntry i segment d v)).voice i
      = { v.voice i with phase := .blocks, dir := some d, nextBlock := 0, samplesLeft := d.count } := by
  have heq : takeEntry i segment d v = readAhead i (setVoice i
      { v.voice i with phase := .blocks, dir := some d, nextBlock := 0, samplesLeft := d.count } v) := by
    rw [takeEntry, if_pos hcause]
  have hread := (readAhead_goesOn i (setVoice i
    { v.voice i with phase := .blocks, dir := some d, nextBlock := 0, samplesLeft := d.count } v)).voices i
  rw [voice_setVoice_same] at hread
  have hstill := hread.still (.inr ⟨hplaying, .inr (.inl rfl)⟩)
  rw [heq]
  have hend := settle_voice_goesOn i _ (by rw [hstill]; exact fun h => by cases hplaying.symm.trans h)
  rw [hstill] at hend
  exact hend.still (.inr ⟨hplaying, .inr (.inl rfl)⟩)

/-- R127: the click that replaces a segment, as much of it as fits. -/
theorem pourFill_click (w : Voice) (capacity : Nat) :
    ((w.beginFill (.tone .click)).pourFill (.tone .click) capacity).ring
      = (w.enter ((List.range (min (capacity - w.ring.length) 80)).map (fun k => if k % 16 < 8 then 16384 else -16384))
          (some w.readItem) (some 128)).ring := by
  have hsamples : (fun k : Nat => if k % 16 < 8 then (16384 : Int) else -16384) = fun k => Fill.sample (.tone .click) (0 + k) :=
    funext fun k => by rw [Nat.zero_add, click_sample]
  rw [hsamples, enter_ring]
  show ((w.beginFill (.tone .click)).enter _ (some w.readItem) (some 128)).ring = _
  rw [enter_ring]
  rfl

theorem exec_directoryReadEnd (s : State) (bad : Misread) {i : VoiceId} {segment : Nat} {live : Bool}
    (hengine : s.vks.reader.engine = .entryRead i segment live) : exec (.directoryReadEnd bad) s
      = (if insideFlash (entryAddress segment) 8 then
          .next (withPart s (directoryReadEnd i segment live
            (misread (s.flash.readBytes (entryAddress segment) 8) bad) s.vks))
        else .fault (.noSuchFlashAddress (entryAddress segment))) := by
  show execDirectoryReadEnd bad s = _
  rw [execDirectoryReadEnd, hengine]
  rfl

/-- R123, R127: an unreadable entry is told and replaced by a CLICK. -/
theorem takeEntry_unreadable (i : VoiceId) (segment : Nat) (d : DirEntry) (v : Vks) (hplaying : (v.voice i).state = .playing)
    (hcause : entryCause v d ≠ 0) :
    let t := settle (takeEntry i segment d v)
    let room := v.ringCapacity - (v.voice i).ring.length
    let click := (List.range (min room 80)).map (fun k => if k % 16 < 8 then (16384 : Int) else -16384)
    (t.voice i).state = .playing ∧ (t.voice i).utterance = (v.voice i).utterance
    ∧ (v.notices.queue.length < 16 →
        ∃ later, t.notices.queue = v.notices.queue ++ .badSegment segment (entryCause v d) :: later)
    ∧ ((v.voice i).readItem ≠ 0 → ∃ more, (t.voice i).ring
        = ((v.voice i).enter click (some (v.voice i).readItem) (some 128)).ring ++ more) := by
  intro t room click
  have heq : takeEntry i segment d v = readAhead i (replaceSegment i segment (entryCause v d) v) := by
    rw [takeEntry, if_neg hcause]
  have hvoice : (replaceSegment i segment (entryCause v d) v).voice i = (v.voice i).beginFill (.tone .click) := by
    rw [replaceSegment, show ∀ (n : Notice) (x : Vks), (raiseNotice n x).voice i = x.voice i from fun n x => by
      cases i <;> rw [Vks.voice, raiseNotice_reader] <;> rfl, voice_setVoice_same]
  have hread := (readAhead_goesOn i (replaceSegment i segment (entryCause v d) v)).voices i
  rw [hvoice, ← heq] at hread
  have hnotIdle : ((v.voice i).beginFill (.tone .click)).state ≠ .idle := fun h => by cases hplaying.symm.trans h
  have hend := settle_voice_goesOn i (takeEntry i segment d v) (hread.on hnotIdle).1
  have hwhole := hend.trans hread
  refine ⟨hwhole.playing hplaying, (hwhole.on hnotIdle).2, fun hroom => ?_, fun hitem => ?_⟩
  · have hjoin : NoticesJoin t (replaceSegment i segment (entryCause v d) v) :=
      (settle_join _).trans (heq ▸ moves_join (l := 1) (readAhead_moves i _))
    obtain ⟨later, hlater⟩ := NoticesJoin.raised (b := setVoice i ((v.voice i).beginFill (.tone .click)) v)
      (.badSegment segment (entryCause v d)) hjoin (by cases i <;> exact hroom)
    exact ⟨later, hlater.trans (by cases i <;> rfl)⟩
  · obtain ⟨more, hmore⟩ := readAhead_fill i (replaceSegment i segment (entryCause v d) v) (.tone .click)
      (by rw [hvoice]; exact hplaying) (by rw [hvoice]; exact hitem) (by rw [hvoice]; rfl)
    obtain ⟨most, hmost⟩ := hend.ring
    have hcapacity : (replaceSegment i segment (entryCause v d) v).ringCapacity = v.ringCapacity := by
      rw [Vks.ringCapacity, (replaceSegment_untouched i segment _ v).sizeInForce]
      rfl
    refine ⟨more ++ most, ?_⟩
    rw [hmost, heq, hmore, hvoice, hcapacity, pourFill_click, List.append_assoc]

/-- Settles O47: an entry that is readable, one that is not, and the arbiter after every end. -/
theorem directoryReadEndTakesTheEntry : Obligations.DirectoryReadEndTakesTheEntry := by
  refine ⟨fun s i segment hengine hstore hplaying hin => ?taken, fun s i segment live bad hengine hout => ?outside,
    fun s i segment live bad hengine hin => ?arbiter⟩
  case taken =>
    intro d start count cause
    have hinside : insideFlash (entryAddress segment) 8 = true := (insideFlash_iff _ _).mpr hin
    have hexec := exec_directoryReadEnd s [] hengine
    rw [if_pos hinside, misread_nil, directoryReadEnd_usable _ _ _ _ hstore] at hexec
    have hentry : directoryEntry (s.flash.readBytes (entryAddress segment) 8) = ⟨start, count, d 5, min 128 (d 6)⟩ :=
      directoryEntry_read s.flash (16 + 8 * segment)
    rw [hentry] at hexec
    have hcause : entryCause (setEngine .idle s.vks) ⟨start, count, d 5, min 128 (d 6)⟩ = cause := rfl
    have harbiter : ArbiterServes (settle (takeEntry i segment ⟨start, count, d 5, min 128 (d 6)⟩ (setEngine .idle s.vks))) :=
      settle_arbiterServes _ (moves_engine_idle (takeEntry_moves i segment _ _) rfl)
    have hframe : Untouched (settle (takeEntry i segment ⟨start, count, d 5, min 128 (d 6)⟩ (setEngine .idle s.vks))) s.vks :=
      (settle_untouched _).trans ((takeEntry_untouched i segment _ _).trans (by constructor <;> rfl))
    have hvoice : (setEngine .idle s.vks).voice i = s.vks.voice i := by cases i <;> rfl
    have hgood := takeEntry_readable i segment ⟨start, count, d 5, min 128 (d 6)⟩ (setEngine .idle s.vks)
      (by rw [hvoice]; exact hplaying)
    have hbad := takeEntry_unreadable i segment ⟨start, count, d 5, min 128 (d 6)⟩ (setEngine .idle s.vks)
      (by rw [hvoice]; exact hplaying)
    simp only [hcause, hvoice] at hgood hbad
    generalize settle (takeEntry i segment ⟨start, count, d 5, min 128 (d 6)⟩ (setEngine .idle s.vks)) = t
      at hexec harbiter hframe hgood hbad
    refine ⟨_, hexec, rfl, rfl, hframe, ?_, ?_, harbiter, fun hc => ?_, fun hc => ?_, fun hc => ?_, fun hc hitem => ?_⟩
    · by_cases hc : cause = 0
      · exact (congrArg Voice.state (hgood hc)).trans hplaying
      · exact (hbad hc).1
    · by_cases hc : cause = 0
      · exact (congrArg Voice.utterance (hgood hc)).trans rfl
      · exact (hbad hc).2.1
    · exact congrArg Voice.phase (hgood hc)
    · exact ⟨congrArg Voice.dir (hgood hc), congrArg Voice.nextBlock (hgood hc), congrArg Voice.samplesLeft (hgood hc),
        (congrArg Voice.ring (hgood hc)).trans rfl⟩
    · exact (hbad hc).2.2.1
    · intro room
      obtain ⟨more, hmore⟩ := (hbad hc).2.2.2 hitem
      refine ⟨⟨more.map RingSample.value, ?_⟩, fun hroom => ?_⟩
      · have hvalues := congrArg (List.map RingSample.value) hmore
        rw [List.map_append, enter_values] at hvalues
        exact hvalues
      · show ((t.voice i).ring.drop (s.vks.voice i).ring.length).head? = _
        rw [hmore, enter_ring, List.append_assoc, List.drop_left]
        obtain ⟨n, hn⟩ : ∃ n, min room 80 = n + 1 := ⟨min room 80 - 1, by omega⟩
        show (List.mapIdx _ ((List.range (min room 80)).map _) ++ more).head? = _
        rw [hn, List.range_succ_eq_map]
        rw [List.map_cons, List.mapIdx_cons]
        rfl
  case outside =>
    rw [exec_directoryReadEnd s bad hengine]
    exact if_neg fun h => Nat.not_le.mpr hout ((insideFlash_iff _ _).mp h)
  case arbiter =>
    rw [exec_directoryReadEnd s bad hengine, if_pos ((insideFlash_iff (entryAddress segment) 8).mpr hin)]
    exact ⟨_, rfl, directoryReadEnd_arbiter i segment live _ s.vks⟩

/-! ### The end of a block read (R130, R131, R132) -/

/-- R131: the check of a block on its two readings, and the samples it gives. -/
theorem blockCheck_cases (b1 b2 : List Byte) (take rate : Nat) :
    let passes := fun b : List Byte => byteSum (b.take 256) = fieldAt b 256 2
    let played := fun l : List Int => if rate = 1 then l.flatMap (fun y => [y, y]) else l
    let given := blockSamples (blockCheck b1 b2).1 (blockCheck b1 b2).2 take rate
    (passes b1 → (blockCheck b1 b2).1 = .ok ∧ given = played ((b1.take take).map (fun y => y.toInt * 256)))
    ∧ (¬ passes b1 → passes b2 → (blockCheck b1 b2).1 = .retryOk
        ∧ given = played ((b2.take take).map (fun y => y.toInt * 256)))
    ∧ (¬ passes b1 → ¬ passes b2 → (blockCheck b1 b2).1 = .fail ∧ given = played (List.replicate take 0)) := by
  intro passes played given
  have hpasses (b : List Byte) : blockPasses b = decide (passes b) := rfl
  refine ⟨fun h1 => ?_, fun h1 h2 => ?_, fun h1 h2 => ?_⟩
  · have hcheck : blockCheck b1 b2 = (.ok, b1) := by rw [blockCheck, hpasses, decide_eq_true h1, if_pos rfl]
    simp only [given, hcheck]
    exact ⟨trivial, rfl⟩
  · have hcheck : blockCheck b1 b2 = (.retryOk, b2) := by
      rw [blockCheck, hpasses, decide_eq_false h1, if_neg (by decide), hpasses, decide_eq_true h2, if_pos rfl]
    simp only [given, hcheck]
    exact ⟨trivial, rfl⟩
  · have hcheck : blockCheck b1 b2 = (.fail, []) := by
      rw [blockCheck, hpasses, decide_eq_false h1, if_neg (by decide), hpasses, decide_eq_false h2, if_neg (by decide)]
    simp only [given, hcheck]
    exact ⟨trivial, rfl⟩

/-- A voice that has taken a block, before the reading goes on (R130, R131). -/
def takenBlock (w : Voice) (d : DirEntry) (result : ReadResult) (samples : List Int) (take : Nat) : Voice :=
  { w.enter samples (if w.nextBlock = 0 then some w.readItem else none)
      (if result = .fail then some 128 else if w.nextBlock = 0 ∨ w.rehand then some d.level else none) with
    utterance := (w.enter samples (if w.nextBlock = 0 then some w.readItem else none)
      (if result = .fail then some 128 else if w.nextBlock = 0 ∨ w.rehand then some d.level else none)).utterance.map
        (fun u => if result = .fail then { u with faulted := true } else u)
    nextBlock := w.nextBlock + 1
    samplesLeft := w.samplesLeft - take
    rehand := decide (result = .fail) }

theorem takeBlock_eq (w : Voice) (d : DirEntry) (result : ReadResult) (samples : List Int) (take : Nat) :
    w.takeBlock d result samples take = if w.samplesLeft - take = 0 then (takenBlock w d result samples take).nextItem
      else takenBlock w d result samples take := rfl

theorem enter_phase (w : Voice) (values : List Int) (begins level : Option Nat) :
    (w.enter values begins level).phase = w.phase ∧ (w.enter values begins level).readItem = w.readItem := by
  cases values <;> exact ⟨rfl, rfl⟩

theorem enter_dir (w : Voice) (values : List Int) (begins level : Option Nat) : (w.enter values begins level).dir = w.dir := by
  cases values <;> rfl

/-- What a block leaves of a voice in every case: state, ring, utterance and the lead-in. -/
theorem takeBlock_keeps (w : Voice) (d : DirEntry) (result : ReadResult) (samples : List Int) (take : Nat) (u : Utterance)
    (hu : w.utterance = some u) :
    let b := w.takeBlock d result samples take
    b.state = w.state
    ∧ b.ring = w.ring ++ samples.mapIdx (fun k y => ⟨y, if k = 0 then (if w.nextBlock = 0 then some w.readItem else none) else none,
        if k = 0 then (if result = .fail then some 128 else if w.nextBlock = 0 ∨ w.rehand then some d.level else none) else none⟩)
    ∧ b.utterance = some (if result = .fail then { u with faulted := true } else u)
    ∧ (samples ≠ [] → b.leadIn = false) := by
  have hstate : (takenBlock w d result samples take).state = w.state := (enter_keeps w samples _ _).1
  have hring : (takenBlock w d result samples take).ring = _ := enter_ring w samples _ _
  have hutterance : (takenBlock w d result samples take).utterance = some (if result = .fail then { u with faulted := true } else u) := by
    show Option.map _ (w.enter samples _ _).utterance = _
    rw [(enter_keeps w samples _ _).2.1, hu]
    rfl
  have hlead : samples ≠ [] → (takenBlock w d result samples take).leadIn = false := fun hne => by
    obtain ⟨x, xs, rfl⟩ := List.exists_cons_of_ne_nil hne
    rfl
  intro b
  simp only [b, takeBlock_eq]
  split
  · exact ⟨hstate, hring, hutterance, hlead⟩
  · exact ⟨hstate, hring, hutterance, hlead⟩

/-- The utterance of a voice that has taken a block has the items it had. -/
theorem takenBlock_items (w : Voice) (d : DirEntry) (result : ReadResult) (samples : List Int) (take : Nat) (u : Utterance)
    (hu : w.utterance = some u) : (takenBlock w d result samples take).items = u.items := by
  have hutterance : (takenBlock w d result samples take).utterance = some (if result = .fail then { u with faulted := true } else u) := by
    show Option.map _ (w.enter samples _ _).utterance = _
    rw [(enter_keeps w samples _ _).2.1, hu]
    rfl
  rw [Voice.items, hutterance]
  exact apply_ite Utterance.items (result = .fail) { u with faulted := true } u |>.trans (ite_self _)

/-- The voice a block was read for, as the event leaves it: it goes on from the block taken. -/
theorem feedBlock_settled (i : VoiceId) (take rate : Nat) (c : ReadResult × List Byte) (v : Vks) (d : DirEntry)
    (hplaying : (v.voice i).state = .playing) (hdir : (v.voice i).dir = some d) (u : Utterance)
    (hu : (v.voice i).utterance = some u) : VoiceGoesOn ((settle (feedBlock i take rate c v)).voice i)
      ((v.voice i).takeBlock d c.1 (blockSamples c.1 c.2 take rate) take) := by
  have hfeed : feedBlock i take rate c v
      = readAhead i (setVoice i ((v.voice i).takeBlock d c.1 (blockSamples c.1 c.2 take rate) take) v) := by
    rw [feedBlock, hdir]
  have hread := (readAhead_goesOn i (setVoice i ((v.voice i).takeBlock d c.1 (blockSamples c.1 c.2 take rate) take) v)).voices i
  rw [← hfeed, voice_setVoice_same] at hread
  have hstate := (takeBlock_keeps (v.voice i) d c.1 (blockSamples c.1 c.2 take rate) take u hu).1
  exact (settle_voice_goesOn i _ (hread.on (by rw [hstate, hplaying]; decide)).1).trans hread

/-- R130: a reading that stands at a segment of the store asks for its entry. -/
theorem readAhead_segment (i : VoiceId) (v : Vks) (n : Nat) (hplaying : (v.voice i).state = .playing)
    (hitem : (v.voice i).readItem ≠ 0) (hphase : (v.voice i).phase = .atItem)
    (hseg : (v.voice i).items[(v.voice i).readItem - 1]? = some (.seg n)) (hstore : v.reader.store = .usable)
    (hn : n < v.reader.segmentCount) : readAhead i v = setVoice i { v.voice i with phase := .needEntry } v := by
  have hgo : ¬ ((v.voice i).state ≠ .playing ∨ (v.voice i).readItem = 0) := by
    rintro (h | h)
    · exact h hplaying
    · exact hitem h
  have hopen : v.storeOpen = true := by simp [Vks.storeOpen, hstore]
  have hreach : reachCause v n = 0 := by
    rw [reachCause, hstore, if_neg (by decide), if_neg (Nat.not_le.mpr hn)]
  have hstage : readStage i v = (setVoice i { v.voice i with phase := .needEntry } v, false) := by
    unfold readStage
    simp only [if_neg hgo, hphase, hseg, hopen, if_true, hreach]
  show readStages 82 i v = _
  unfold readStages
  rw [hstage]

theorem feedBlock_untouched (i : VoiceId) (take rate : Nat) (c : ReadResult × List Byte) (v : Vks) :
    Untouched (feedBlock i take rate c v) v := by
  unfold feedBlock
  simp only
  split
  · exact (readAhead_untouched i _).trans (setVoice_untouched _ _ v)
  · exact .refl v

theorem noteFail_of_empty (segment block a : Nat) (v : Vks) (h : v.reader.fault.full = false) :
    noteFail segment block a v = raiseNotice (.readFault segment block a)
      { v with reader := { v.reader with fault := ⟨true, segment, block, a, v.reader.fault.more⟩ } } :=
  if_neg (by rw [h]; decide)

theorem noteFail_of_full (segment block a : Nat) (v : Vks) (h : v.reader.fault.full = true) : noteFail segment block a v
    = { v with reader := { v.reader with fault := { v.reader.fault with more := satSucc 255 v.reader.fault.more } } } :=
  if_pos h

/-- R131, R132: what a block read leaves in the fault record and the accumulated set, by its result. -/
theorem recordBlock_untouched (segment block a : Nat) (v : Vks) :
    let r := fun result => recordBlock segment block a result (setEngine .idle v)
    Untouched (r .ok) { v with reader := { v.reader with lastResult := .ok } }
    ∧ Untouched (r .retryOk) { v with reader := { v.reader with lastResult := .retryOk, accRetry := true } }
    ∧ (v.reader.fault.full = false → Untouched (r .fail) { v with reader := { v.reader with
        lastResult := .fail, accFail := true, fault := ⟨true, segment, block, a, v.reader.fault.more⟩ } })
    ∧ (v.reader.fault.full = true → v.reader.fault.more ≤ 255 → Untouched (r .fail) { v with reader := { v.reader with
        lastResult := .fail, accFail := true, fault := { v.reader.fault with more := min 255 (v.reader.fault.more + 1) } } }) := by
  intro r
  refine ⟨?ok, ?again, fun hempty => ?first, fun hfull hmore => ?more⟩
  case ok => constructor <;> simp [r, recordBlock, noteResult, setEngine]
  case again => constructor <;> simp [r, recordBlock, noteResult, setEngine]
  case first =>
    show Untouched (noteFail segment block a (noteResult .fail (setEngine .idle v))) _
    rw [noteFail_of_empty _ _ _ (noteResult .fail (setEngine .idle v)) hempty]
    refine (raiseNotice_untouched _ _).trans ?_
    constructor <;> simp [noteResult, setEngine]
  case more =>
    show Untouched (noteFail segment block a (noteResult .fail (setEngine .idle v))) _
    rw [noteFail_of_full _ _ _ (noteResult .fail (setEngine .idle v)) hfull]
    constructor <;> simp [noteResult, setEngine, Grading.satSucc_eq hmore]

/-- R132: the first block that fails twice is told. -/
theorem recordBlock_fault_told (segment block a : Nat) (v : Vks) (hempty : v.reader.fault.full = false) :
    ∃ w, recordBlock segment block a .fail (setEngine .idle v) = raiseNotice (.readFault segment block a) w
      ∧ w.notices = v.notices := by
  exact ⟨_, noteFail_of_empty segment block a (noteResult .fail (setEngine .idle v)) hempty, rfl⟩

theorem recordBlock_store (segment block a : Nat) (r : ReadResult) (v : Vks) :
    (recordBlock segment block a r v).reader.store = v.reader.store
      ∧ (recordBlock segment block a r v).reader.segmentCount = v.reader.segmentCount := by
  unfold recordBlock
  simp only
  split
  · cases hfull : v.reader.fault.full with
    | true =>
      rw [noteFail_of_full _ _ _ (noteResult r v) hfull]
      exact ⟨rfl, rfl⟩
    | false =>
      rw [noteFail_of_empty _ _ _ (noteResult r v) hfull, raiseNotice_reader]
      exact ⟨rfl, rfl⟩
  · exact ⟨rfl, rfl⟩

theorem blockReadEnd_usable (i : VoiceId) (segment block a take rate : Nat) (b1 b2 : List Byte) (v : Vks)
    (hstore : v.reader.store = .usable) : blockReadEnd i segment block a take rate true b1 b2 v
      = settle (feedBlock i take rate (blockCheck b1 b2) (recordBlock segment block a (blockCheck b1 b2).1 (setEngine .idle v))) := by
  have hrecord : (recordBlock segment block a (blockCheck b1 b2).1 (setEngine .idle v)).reader.store = .usable :=
    (recordBlock_store segment block a _ _).1.trans hstore
  unfold blockReadEnd
  simp only [if_true]
  rw [grantIfPending_of_usable _ ((feedBlock_untouched i take rate _ _).store.trans hrecord)]

theorem exec_blockReadEnd (s : State) (bad1 bad2 : Misread) {i : VoiceId} {segment block a take rate : Nat} {live : Bool}
    (hengine : s.vks.reader.engine = .blockRead i segment block a take rate live) : exec (.blockReadEnd bad1 bad2) s
      = (if insideFlash a 258 then
          .next (withPart s (blockReadEnd i segment block a take rate live (misread (s.flash.readBytes a 258) bad1)
            (misread (s.flash.readBytes a 258) bad2) s.vks))
        else .fault (.noSuchFlashAddress a)) := by
  show execBlockReadEnd bad1 bad2 s = _
  rw [execBlockReadEnd, hengine]
  rfl

/-- R131: the samples a block gives, as its two readings decide them. -/
theorem blockSamples_eq (b1 b2 : List Byte) (take rate : Nat) :
    let passes := fun b : List Byte => byteSum (b.take 256) = fieldAt b 256 2
    let played := fun l : List Int => if rate = 1 then l.flatMap (fun y => [y, y]) else l
    let fresh := fun b => played ((if passes b then b.take take else List.replicate take 0#8).map (fun y => y.toInt * 256))
    blockSamples (blockCheck b1 b2).1 (blockCheck b1 b2).2 take rate = if passes b1 then fresh b1 else fresh b2 := by
  intro passes played fresh
  obtain ⟨hok, hagain, hfail⟩ := blockCheck_cases b1 b2 take rate
  have hfresh (b : List Byte) : fresh b = played ((if passes b then b.take take else List.replicate take 0#8).map
    (fun y => y.toInt * 256)) := rfl
  by_cases h1 : passes b1
  · rw [(hok h1).2, if_pos h1, hfresh, if_pos h1]
  · by_cases h2 : passes b2
    · rw [(hagain h1 h2).2, if_neg h1, hfresh, if_pos h2]
    · rw [(hfail h1 h2).2, if_neg h1, hfresh, if_neg h2, List.map_replicate]
      rfl

/-- The values a block's samples add to the ring. -/
theorem values_of_joined {a b : Voice} {samples : List Int} {begins level : Option Nat} {more : List RingSample}
    (h : a.ring = b.ring ++ samples.mapIdx (fun k y => ⟨y, if k = 0 then begins else none, if k = 0 then level else none⟩) ++ more) :
    a.ring.map RingSample.value = b.ring.map RingSample.value ++ samples ++ more.map RingSample.value := by
  rw [← enter_ring b samples begins level] at h
  rw [h, List.map_append, enter_values]

/-- R130: after a block that is not its segment's last, the reading waits for the next one. -/
theorem feedBlock_next_block (i : VoiceId) (take rate : Nat) (c : ReadResult × List Byte) (v : Vks) (d : DirEntry) (u : Utterance)
    (hplaying : (v.voice i).state = .playing) (hdir : (v.voice i).dir = some d) (hu : (v.voice i).utterance = some u)
    (hphase : (v.voice i).phase = .blocks) (hmore : take < (v.voice i).samplesLeft) :
    (settle (feedBlock i take rate c v)).voice i = takenBlock (v.voice i) d c.1 (blockSamples c.1 c.2 take rate) take := by
  have hgo := feedBlock_settled i take rate c v d hplaying hdir u hu
  have hkeeps := (takeBlock_keeps (v.voice i) d c.1 (blockSamples c.1 c.2 take rate) take u hu).1
  rw [takeBlock_eq, if_neg (by omega)] at hgo hkeeps
  refine hgo.still (.inr ⟨hkeeps.trans hplaying, .inr (.inl ?_)⟩)
  exact (enter_phase (v.voice i) _ _ _).1.trans hphase

/-- R130: after a segment's last block the reading is done, or goes on to the next item, a segment of the store among them. -/
theorem feedBlock_next_item (i : VoiceId) (take rate : Nat) (c : ReadResult × List Byte) (v : Vks) (d : DirEntry) (u : Utterance)
    (hplaying : (v.voice i).state = .playing) (hdir : (v.voice i).dir = some d) (hu : (v.voice i).utterance = some u)
    (hstore : v.reader.store = .usable) (hlast : (v.voice i).samplesLeft ≤ take) :
    let t := settle (feedBlock i take rate c v)
    ((v.voice i).readItem = u.items.length → (t.voice i).readItem = 0)
    ∧ (∀ n, u.items[(v.voice i).readItem]? = some (.seg n) → n < v.reader.segmentCount →
        (t.voice i).readItem = (v.voice i).readItem + 1 ∧ (t.voice i).phase = .needEntry) := by
  intro t
  have hgo := feedBlock_settled i take rate c v d hplaying hdir u hu
  have hkeeps := (takeBlock_keeps (v.voice i) d c.1 (blockSamples c.1 c.2 take rate) take u hu).1
  have hfeed : feedBlock i take rate c v
      = readAhead i (setVoice i ((v.voice i).takeBlock d c.1 (blockSamples c.1 c.2 take rate) take) v) := by
    rw [feedBlock, hdir]
  rw [takeBlock_eq, if_pos (by omega)] at hgo hkeeps hfeed
  have hitems := takenBlock_items (v.voice i) d c.1 (blockSamples c.1 c.2 take rate) take u hu
  have hread : (takenBlock (v.voice i) d c.1 (blockSamples c.1 c.2 take rate) take).readItem = (v.voice i).readItem :=
    (enter_phase (v.voice i) _ _ _).2
  have hnext : (takenBlock (v.voice i) d c.1 (blockSamples c.1 c.2 take rate) take).nextItem.readItem
      = if (v.voice i).readItem < u.items.length then (v.voice i).readItem + 1 else 0 := by
    rw [Voice.nextItem, hitems, hread]
  have hphase : (takenBlock (v.voice i) d c.1 (blockSamples c.1 c.2 take rate) take).nextItem.phase = .atItem := rfl
  replace hitems : (takenBlock (v.voice i) d c.1 (blockSamples c.1 c.2 take rate) take).nextItem.items = u.items := hitems
  generalize (takenBlock (v.voice i) d c.1 (blockSamples c.1 c.2 take rate) take).nextItem = w at *
  refine ⟨fun hdone => ?_, fun n hseg hn => ?_⟩
  · rw [if_neg (by omega)] at hnext
    have hstill := hgo.still (.inr ⟨hkeeps.trans hplaying, .inr (.inr hnext)⟩)
    exact (congrArg Voice.readItem hstill).trans hnext
  · have hin : (v.voice i).readItem < u.items.length := (List.getElem?_eq_some_iff.mp hseg).1
    rw [if_pos hin] at hnext
    have hask := readAhead_segment i (setVoice i w v) n (by rw [voice_setVoice_same]; exact hkeeps.trans hplaying)
      (by rw [voice_setVoice_same, hnext]; omega) (by rw [voice_setVoice_same]; exact hphase)
      (by rw [voice_setVoice_same, hitems, hnext]; exact hseg) ((setVoice_untouched i w v).store.trans hstore)
      (by rw [(setVoice_untouched i w v).segmentCount]; exact hn)
    rw [voice_setVoice_same] at hask
    have hvoice : (feedBlock i take rate c v).voice i = { w with phase := .needEntry } := by
      rw [hfeed, hask, voice_setVoice_same]
    have hend := settle_voice_goesOn i (feedBlock i take rate c v)
      (by rw [hvoice]; exact fun h => by cases (hkeeps.trans hplaying).symm.trans h)
    have hstill := hend.still (.inr (by rw [hvoice]; exact ⟨hkeeps.trans hplaying, .inl rfl⟩))
    rw [hvoice] at hstill
    exact ⟨(congrArg Voice.readItem hstill).trans hnext, congrArg Voice.phase hstill⟩

/-- Settles O48: the two readings' outcomes, where the reading goes after the block, the fault record, and the arbiter. -/
theorem blockReadEndFeedsTheRing : Obligations.BlockReadEndFeedsTheRing := by
  refine ⟨fun s i segment block a take rate bad1 bad2 d u hengine hstore hplaying hdir hu htake hin => ?fed,
    fun s i segment block a take rate live bad1 bad2 hengine hout => ?outside,
    fun s i segment block a take rate live bad1 bad2 hengine hin => ?arbiter⟩
  case fed =>
    intro b1 b2 passes played w fresh given begins level
    have hexec := exec_blockReadEnd s bad1 bad2 hengine
    rw [if_pos ((insideFlash_iff a 258).mpr hin), blockReadEnd_usable _ _ _ _ _ _ _ _ _ hstore] at hexec
    have hsamples : blockSamples (blockCheck b1 b2).1 (blockCheck b1 b2).2 take rate = given := blockSamples_eq b1 b2 take rate
    have harbiter := blockReadEnd_arbiter i segment block a take rate true b1 b2 s.vks
    rw [blockReadEnd_usable _ _ _ _ _ _ _ _ _ hstore] at harbiter
    obtain ⟨hok, hagain, hfail⟩ := blockCheck_cases b1 b2 take rate
    have hresult : (blockCheck b1 b2).1 = .fail ↔ ¬ passes b1 ∧ ¬ passes b2 := by
      refine ⟨fun h => ⟨fun h1 => ?_, fun h2 => ?_⟩, fun h => (hfail h.1 h.2).1⟩
      · cases h.symm.trans (hok h1).1
      · by_cases h1 : passes b1
        · cases h.symm.trans (hok h1).1
        · cases h.symm.trans (hagain h1 h2).1
    obtain ⟨-, hrecvoice, -⟩ := recordBlock_reader segment block a (blockCheck b1 b2).1 (setEngine .idle s.vks)
    have hvoice : (recordBlock segment block a (blockCheck b1 b2).1 (setEngine .idle s.vks)).voice i = s.vks.voice i :=
      (hrecvoice i).trans (by cases i <;> rfl)
    obtain ⟨hrecstore, hreccount⟩ := recordBlock_store segment block a (blockCheck b1 b2).1 (setEngine .idle s.vks)
    have hblock := feedBlock_next_block i take rate (blockCheck b1 b2)
      (recordBlock segment block a (blockCheck b1 b2).1 (setEngine .idle s.vks)) d u (by rw [hvoice]; exact hplaying)
      (by rw [hvoice]; exact hdir) (by rw [hvoice]; exact hu)
    have hitem := feedBlock_next_item i take rate (blockCheck b1 b2)
      (recordBlock segment block a (blockCheck b1 b2).1 (setEngine .idle s.vks)) d u (by rw [hvoice]; exact hplaying)
      (by rw [hvoice]; exact hdir) (by rw [hvoice]; exact hu) (hrecstore.trans hstore)
    have hgo := feedBlock_settled i take rate (blockCheck b1 b2)
      (recordBlock segment block a (blockCheck b1 b2).1 (setEngine .idle s.vks)) d (by rw [hvoice]; exact hplaying)
      (by rw [hvoice]; exact hdir) u (by rw [hvoice]; exact hu)
    have hframe := (settle_untouched (feedBlock i take rate (blockCheck b1 b2)
      (recordBlock segment block a (blockCheck b1 b2).1 (setEngine .idle s.vks)))).trans (feedBlock_untouched i take rate _ _)
    have hjoin : NoticesJoin _ _ := (settle_join (feedBlock i take rate (blockCheck b1 b2)
      (recordBlock segment block a (blockCheck b1 b2).1 (setEngine .idle s.vks)))).trans
        (moves_join (l := 1) (feedBlock_moves i take rate _ _))
    rw [hvoice, hsamples] at hgo hblock
    rw [hvoice, show (recordBlock segment block a (blockCheck b1 b2).1 (setEngine .idle s.vks)).reader.segmentCount
      = s.vks.reader.segmentCount from hreccount] at hitem
    generalize settle (feedBlock i take rate (blockCheck b1 b2)
      (recordBlock segment block a (blockCheck b1 b2).1 (setEngine .idle s.vks))) = t at hexec harbiter hblock hitem hgo hframe hjoin
    obtain ⟨hstate, hring, hutterance, hlead⟩ := takeBlock_keeps (s.vks.voice i) d (blockCheck b1 b2).1 given take u hu
    have hlevel : (if (blockCheck b1 b2).1 = .fail then some 128 else if w.nextBlock = 0 ∨ w.rehand = true then some d.level else none)
        = level := by simp only [level, hresult]
    rw [hlevel] at hring
    have hplays := hstate.trans hplaying
    replace hutterance := (hgo.on (by rw [hplays]; decide)).2.trans hutterance
    obtain ⟨more, hmore⟩ := hgo.ring
    rw [hring] at hmore
    have hvalues := values_of_joined hmore
    obtain ⟨hrecok, hrecagain, hrecfirst, hrecmore⟩ := recordBlock_untouched segment block a s.vks
    refine ⟨_, hexec, rfl, rfl, harbiter, ⟨more, hmore⟩, fun hsome => hgo.begun hplays (hlead hsome), fun hphase hleft => ?next,
      fun hlast _ => hitem hlast, fun h1 => ?ok, fun h1 h2 => ?again, fun h1 h2 => ?fail⟩
    case next =>
      have htaken := hblock hphase hleft
      show (t.voice i).readItem = _ ∧ (t.voice i).dir = _ ∧ (t.voice i).phase = _ ∧ (t.voice i).nextBlock = _
        ∧ (t.voice i).samplesLeft = _ ∧ ((t.voice i).rehand = true ↔ _)
      rw [htaken]
      obtain ⟨hp, hr⟩ := enter_phase w given (if w.nextBlock = 0 then some w.readItem else none)
        (if (blockCheck b1 b2).1 = .fail then some 128 else if w.nextBlock = 0 ∨ w.rehand then some d.level else none)
      exact ⟨hr, (enter_dir w given _ _).trans hdir, hp.trans hphase, rfl, rfl, decide_eq_true_iff.trans hresult⟩
    case ok =>
      have hc := hok h1
      rw [hsamples] at hc
      rw [hc.1] at hutterance hframe
      rw [hc.2] at hvalues
      exact ⟨⟨_, hvalues⟩, hutterance, hframe.trans hrecok⟩
    case again =>
      have hc := hagain h1 h2
      rw [hsamples] at hc
      rw [hc.1] at hutterance hframe
      rw [hc.2] at hvalues
      exact ⟨⟨_, hvalues⟩, hutterance, hframe.trans hrecagain⟩
    case fail =>
      have hc := hfail h1 h2
      rw [hsamples] at hc
      rw [hc.1] at hutterance hframe hjoin
      rw [hc.2] at hvalues
      refine ⟨⟨_, hvalues⟩, hutterance, fun hempty => ⟨hframe.trans (hrecfirst hempty), fun hroom => ?_⟩,
        fun hfull hmany => hframe.trans (hrecmore hfull hmany)⟩
      obtain ⟨x, hx, hnotices⟩ := recordBlock_fault_told segment block a s.vks hempty
      rw [hx] at hjoin
      rw [← hnotices]
      exact NoticesJoin.raised _ hjoin (by rw [hnotices]; exact hroom)
  case outside =>
    rw [exec_blockReadEnd s bad1 bad2 hengine]
    exact if_neg fun h => Nat.not_le.mpr hout ((insideFlash_iff _ _).mp h)
  case arbiter =>
    rw [exec_blockReadEnd s bad1 bad2 hengine, if_pos ((insideFlash_iff a 258).mpr hin)]
    exact ⟨_, rfl, blockReadEnd_arbiter i segment block a take rate live _ _ s.vks⟩

end Sys2Proof.VoiceReads
end

section
/-! SUPPORT. The stages of an output instant: the envelope, the host sample, the draws, the mix, and what follows it in the event
(R149 to R159, R187). -/

namespace Sys2Proof.Instants

open Sys2Proof.Machine Sys2Proof.EventMoves Sys2Proof.EventFrames Sys2Proof.VoiceFrames Sys2Proof.AudioAndSet Sys2Proof.Words
  Sys2Proof.Invariants

/-! ### The duck envelope (R156 to R158) -/

theorem effectiveDuck_eq (p : Params) : effectiveDuck p = min p.duckLevel p.hostLevel := by
  unfold effectiveDuck
  split <;> omega

/-- R156: the host gain in L_e..L_h. -/
theorem rangeStep_eq (p : Params) (m : Mixer) :
    rangeStep p m = { m with hostGain := max (effectiveDuck p) (min p.hostLevel m.hostGain) } := by
  rw [rangeStep, clamp_eq_max_min]
  rw [effectiveDuck_eq]
  omega

/-- The gain stands within its range. -/
def GainFits (p : Params) (m : Mixer) : Prop := effectiveDuck p ≤ m.hostGain ∧ m.hostGain ≤ p.hostLevel

theorem rangeStep_fits (p : Params) (m : Mixer) : GainFits p (rangeStep p m) := by
  rw [rangeStep_eq]
  have := effectiveDuck_eq p
  constructor <;> simp only <;> omega

theorem fallStep_fits (p : Params) (m : Mixer) (h : GainFits p m) : GainFits p (fallStep p m) := by
  obtain ⟨hlow, hhigh⟩ := h
  constructor <;> simp only [fallStep] <;> omega

theorem riseStep_fits (p : Params) (m : Mixer) (h : GainFits p m) : GainFits p (riseStep p m) := by
  obtain ⟨hlow, hhigh⟩ := h
  constructor <;> simp only [riseStep] <;> omega

theorem activeStep_ducked (p : Params) (m : Mixer) (hducked : m.envelope = .ducked) :
    activeStep p m = if effectiveDuck p < m.hostGain then fallStep p m else m := by rw [activeStep, hducked]

theorem activeStep_falls (p : Params) (m : Mixer) (h : m.envelope ≠ .ducked ∨ effectiveDuck p < m.hostGain) :
    activeStep p m = fallStep p m := by
  cases henvelope : m.envelope with
  | ducked => rw [activeStep_ducked p m henvelope, if_pos (h.resolve_left (fun h => h henvelope))]
  | falling | hold | rising | opened => rw [activeStep, henvelope]

theorem inactiveStep_enters_hold (p : Params) (m : Mixer) (h : m.envelope = .falling ∨ m.envelope = .ducked) :
    inactiveStep p m = holdStep p { m with holdCount := p.duckHold * 16, envelope := .hold } := by
  rcases h with h | h <;> rw [inactiveStep, h]

theorem inactiveStep_hold (p : Params) (m : Mixer) (h : m.envelope = .hold) : inactiveStep p m = holdStep p m := by
  rw [inactiveStep, h]

theorem inactiveStep_rising (p : Params) (m : Mixer) (h : m.envelope = .rising) : inactiveStep p m = riseStep p m := by
  rw [inactiveStep, h]

theorem inactiveStep_opened (p : Params) (m : Mixer) (h : m.envelope = .opened) :
    inactiveStep p m = if m.hostGain < p.hostLevel then riseStep p m else m := by rw [inactiveStep, h]

theorem holdStep_fits (p : Params) (m : Mixer) (h : GainFits p m) : GainFits p (holdStep p m) := by
  unfold holdStep
  split
  · exact h
  · exact riseStep_fits p m h

/-- R156: whatever the instant, the gain stays within its range. -/
theorem envelopeStep_fits (p : Params) (active : Bool) (m : Mixer) : GainFits p (envelopeStep p active m) := by
  have h := rangeStep_fits p m
  unfold envelopeStep
  split
  · cases henvelope : (rangeStep p m).envelope with
    | ducked =>
      rw [activeStep_ducked p _ henvelope]
      split
      · exact fallStep_fits p _ h
      · exact h
    | falling | hold | rising | opened =>
      rw [activeStep_falls p _ (.inl (by rw [henvelope]; decide))]
      exact fallStep_fits p _ h
  · cases henvelope : (rangeStep p m).envelope with
    | falling => rw [inactiveStep_enters_hold p _ (.inl henvelope)]; exact holdStep_fits p _ h
    | ducked => rw [inactiveStep_enters_hold p _ (.inr henvelope)]; exact holdStep_fits p _ h
    | hold => rw [inactiveStep_hold p _ henvelope]; exact holdStep_fits p _ h
    | rising => rw [inactiveStep_rising p _ henvelope]; exact riseStep_fits p _ h
    | opened =>
      rw [inactiveStep_opened p _ henvelope]
      split
      · exact riseStep_fits p _ h
      · exact h

/-! ### The host sample (R149, R150) -/

/-- What the host sample leaves: everything but the buffer's samples and play, the end mark, the underrun latch and a notice. -/
structure HostTaken (a b : Vks) : Prop where
  outside : a.words = b.words ∧ a.keys = b.keys ∧ a.params = b.params ∧ a.lesson = b.lesson
  attempt : a.attempt = b.attempt
  sched : a.sched = b.sched
  reader : a.reader = b.reader
  power : a.power = b.power
  envelope : a.mixer.hostGain = b.mixer.hostGain ∧ a.mixer.envelope = b.mixer.envelope ∧ a.mixer.holdCount = b.mixer.holdCount
  clips : a.mixer.clipSeen = b.mixer.clipSeen ∧ a.mixer.windowCount = b.mixer.windowCount
  notices : NoticesJoin a b ∧ a.notices.queue.length ≤ b.notices.queue.length + 1

theorem HostTaken.of_mixer (v : Vks) (m : Mixer) (henvelope : m.hostGain = v.mixer.hostGain ∧ m.envelope = v.mixer.envelope
    ∧ m.holdCount = v.mixer.holdCount) (hclips : m.clipSeen = v.mixer.clipSeen ∧ m.windowCount = v.mixer.windowCount) :
    HostTaken { v with mixer := m } v :=
  ⟨⟨rfl, rfl, rfl, rfl⟩, rfl, rfl, rfl, rfl, henvelope, hclips, ⟨⟨[], (List.append_nil _).symm⟩, id⟩, Nat.le_succ _⟩

theorem HostTaken.of_notice {a b : Vks} (n : Notice) (h : HostTaken a b) (hqueue : a.notices.queue.length ≤ b.notices.queue.length) :
    HostTaken (raiseNotice n a) b := by
  have hn := raiseNotice_untouched n a
  have hlength : (raiseNotice n a).notices.queue.length ≤ a.notices.queue.length + 1 := by
    unfold raiseNotice
    split <;> simp
  obtain ⟨⟨hw, hk, hp, hl⟩, hattempt, hsched, hreader, hpower, ⟨hg, he, hc⟩, ⟨hs, hwin⟩, hjoin, -⟩ := h
  exact ⟨⟨hn.words.trans hw, hn.keys.trans hk, hn.params.trans hp, hn.lesson.trans hl⟩, (raiseNotice_attempt n a).trans hattempt,
    (raiseNotice_sched n a).trans hsched, (raiseNotice_reader n a).trans hreader, (raiseNotice_power n a).trans hpower,
    ⟨hn.hostGain.trans hg, hn.envelope.trans he, hn.holdCount.trans hc⟩, ⟨hn.clipSeen.trans hs, hn.windowCount.trans hwin⟩,
    (raiseNotice_join n a).trans hjoin, by omega⟩

theorem lowCompare_hostTaken {a b : Vks} (h : HostTaken a b) (hqueue : a.notices.queue.length ≤ b.notices.queue.length) :
    HostTaken (lowCompare a) b := by
  unfold lowCompare
  split
  · split
    · exact .of_notice _ ⟨h.outside, h.attempt, h.sched, h.reader, h.power, h.envelope, h.clips,
        ⟨⟨h.notices.1.joined, h.notices.1.lost⟩, h.notices.2⟩⟩ hqueue
    · exact h
  · exact ⟨h.outside, h.attempt, h.sched, h.reader, h.power, h.envelope, h.clips,
      ⟨⟨h.notices.1.joined, h.notices.1.lost⟩, h.notices.2⟩⟩

theorem runEmpty_hostTaken (v : Vks) : HostTaken (runEmpty v) v := by
  unfold runEmpty
  split
  · exact .of_mixer v _ ⟨rfl, rfl, rfl⟩ ⟨rfl, rfl⟩
  · refine .of_notice _ ?_ le_rfl
    have h := HostTaken.of_mixer v { v.mixer with playing := false } ⟨rfl, rfl, rfl⟩ ⟨rfl, rfl⟩
    exact ⟨h.outside, h.attempt, h.sched, h.reader, h.power, h.envelope, h.clips,
      ⟨⟨h.notices.1.joined, h.notices.1.lost⟩, h.notices.2⟩⟩

theorem hostSample_of_not (v : Vks) (h : ¬ (v.mixer.playing = true ∧ v.power.amp = .on)) : hostSample v = (0, v) := if_neg h

theorem hostSample_of_cons (v : Vks) {x : Int} {rest : List Int} (hplaying : v.mixer.playing = true) (hon : v.power.amp = .on)
    (hsamples : v.mixer.samples = x :: rest) :
    hostSample v = (x, lowCompare { v with mixer := { v.mixer with samples := rest } }) := by
  rw [hostSample, if_pos ⟨hplaying, hon⟩, hsamples]

theorem hostSample_of_nil (v : Vks) (hplaying : v.mixer.playing = true) (hon : v.power.amp = .on) (hsamples : v.mixer.samples = []) :
    hostSample v = (0, runEmpty v) := by rw [hostSample, if_pos ⟨hplaying, hon⟩, hsamples]

theorem hostSample_taken (v : Vks) : HostTaken (hostSample v).2 v := by
  by_cases h : v.mixer.playing = true ∧ v.power.amp = .on
  · cases hsamples : v.mixer.samples with
    | nil =>
      rw [hostSample_of_nil v h.1 h.2 hsamples]
      exact runEmpty_hostTaken v
    | cons x rest =>
      rw [hostSample_of_cons v h.1 h.2 hsamples]
      exact lowCompare_hostTaken (.of_mixer v _ ⟨rfl, rfl, rfl⟩ ⟨rfl, rfl⟩) le_rfl
  · rw [hostSample_of_not v h]
    exact .of_mixer v v.mixer ⟨rfl, rfl, rfl⟩ ⟨rfl, rfl⟩

/-- R149, R150: a playing buffer gives its oldest sample, and stops when it is found empty. -/
theorem hostSample_samples (v : Vks) (hon : v.power.amp = .on) :
    (hostSample v).1 = (if v.mixer.playing then v.mixer.samples.headD 0 else 0)
    ∧ (hostSample v).2.mixer.samples = (if v.mixer.playing then v.mixer.samples.tail else v.mixer.samples)
    ∧ (hostSample v).2.mixer.playing = (v.mixer.playing && !v.mixer.samples.isEmpty) := by
  cases hplaying : v.mixer.playing with
  | false =>
    rw [hostSample_of_not v (by simp [hplaying])]
    exact ⟨rfl, rfl, hplaying⟩
  | true =>
    cases hsamples : v.mixer.samples with
    | nil =>
      rw [hostSample_of_nil v hplaying hon hsamples]
      have hrun : (runEmpty v).mixer.samples = v.mixer.samples ∧ (runEmpty v).mixer.playing = false := by
        unfold runEmpty
        split
        · exact ⟨rfl, rfl⟩
        · rw [raiseNotice_mixer]
          exact ⟨rfl, rfl⟩
      exact ⟨rfl, hrun.1.trans hsamples, hrun.2⟩
    | cons x rest =>
      rw [hostSample_of_cons v hplaying hon hsamples]
      refine ⟨rfl, (lowCompare_untouched _).samples, ?_⟩
      show (lowCompare { v with mixer := { v.mixer with samples := rest } }).mixer.playing = true
      unfold lowCompare
      split
      · split
        · rw [raiseNotice_mixer]
          exact hplaying
        · exact hplaying
      · exact hplaying

/-! ### The draws (R126, R152) -/

/-- What a draw leaves: everything but its voice and a notice. -/
structure Drawn (i : VoiceId) (a b : Vks) : Prop where
  untouched : Untouched a b
  attempt : a.attempt = b.attempt
  sched : a.sched = b.sched
  power : a.power = b.power
  mixer : a.mixer = b.mixer
  engine : a.reader.engine = b.reader.engine
  other : ∀ j, j ≠ i → a.voice j = b.voice j
  notices : NoticesJoin a b ∧ a.notices.queue.length ≤ b.notices.queue.length + 1

theorem Drawn.refl (i : VoiceId) (v : Vks) : Drawn i v v :=
  ⟨.refl v, rfl, rfl, rfl, rfl, rfl, fun _ _ => rfl, .refl v, Nat.le_succ _⟩

theorem setVoice_drawn (i : VoiceId) (w : Voice) (v : Vks) : Drawn i (setVoice i w v) v :=
  ⟨setVoice_untouched i w v, by cases i <;> rfl, by cases i <;> rfl, by cases i <;> rfl, by cases i <;> rfl, by cases i <;> rfl,
    fun _ hj => voice_setVoice_other w v hj, ⟨⟨[], by cases i <;> exact (List.append_nil _).symm⟩, by cases i <;> exact id⟩,
    by cases i <;> exact Nat.le_succ _⟩

theorem raiseNotice_voice (n : Notice) (v : Vks) (j : VoiceId) : (raiseNotice n v).voice j = v.voice j := by
  cases j <;> rw [Vks.voice, raiseNotice_reader] <;> rfl

theorem tell_drawn (i : VoiceId) (n : Notice) (w : Voice) (v : Vks) : Drawn i (raiseNotice n (setVoice i w v)) v := by
  obtain ⟨hu, ha, hs, hp, hm, he, ho, hj, -⟩ := setVoice_drawn i w v
  refine ⟨(raiseNotice_untouched _ _).trans hu, (raiseNotice_attempt _ _).trans ha, (raiseNotice_sched _ _).trans hs,
    (raiseNotice_power _ _).trans hp, (raiseNotice_mixer _ _).trans hm, by rw [raiseNotice_reader, he],
    fun j hne => (raiseNotice_voice _ _ j).trans (ho j hne), (raiseNotice_join _ _).trans hj, ?_⟩
  have hqueue : (setVoice i w v).notices = v.notices := by cases i <;> rfl
  unfold raiseNotice
  split <;> simp [hqueue]

theorem draw_drawn (i : VoiceId) (v : Vks) : Drawn i (draw i v).2 v := by
  unfold draw
  simp only
  split
  · exact .refl i v
  · split
    · exact setVoice_drawn i _ v
    · split
      · exact .refl i v
      · exact tell_drawn i _ _ v
    · exact .refl i v

/-- A voice gives nothing where it is not PLAYING (R126). -/
theorem draw_of_not_playing (i : VoiceId) (v : Vks) (h : (v.voice i).state ≠ .playing) : draw i v = (0, v) := if_pos (.inl h)

theorem drawVoices_of_on (v : Vks) (hon : v.power.amp = .on) : drawVoices v
    = ((draw .main v).1 * (draw .echo (draw .main v).2).2.gainOf .main + (draw .echo (draw .main v).2).1
        * (draw .echo (draw .main v).2).2.gainOf .echo, (draw .echo (draw .main v).2).2) := if_pos hon

theorem drawVoices_of_not_on (v : Vks) (h : v.power.amp ≠ .on) : drawVoices v = (0, v) := if_neg h

/-- What both draws leave. -/
structure BothDrawn (a b : Vks) : Prop where
  untouched : Untouched a b
  attempt : a.attempt = b.attempt
  sched : a.sched = b.sched
  power : a.power = b.power
  mixer : a.mixer = b.mixer
  engine : a.reader.engine = b.reader.engine
  notices : NoticesJoin a b

theorem drawVoices_drawn (v : Vks) : BothDrawn (drawVoices v).2 v := by
  by_cases hon : v.power.amp = .on
  · rw [drawVoices_of_on v hon]
    have hmain := draw_drawn .main v
    have hecho := draw_drawn .echo (draw .main v).2
    exact ⟨hecho.untouched.trans hmain.untouched, hecho.attempt.trans hmain.attempt, hecho.sched.trans hmain.sched,
      hecho.power.trans hmain.power, hecho.mixer.trans hmain.mixer, hecho.engine.trans hmain.engine,
      hecho.notices.1.trans hmain.notices.1⟩
  · rw [drawVoices_of_not_on v hon]
    exact ⟨.refl v, rfl, rfl, rfl, rfl, rfl, .refl v⟩

/-! ### The mix (R153 to R155) -/

/-- The part before an instant's host sample: window and envelope (R155 to R158). -/
def enveloped (v : Vks) : Vks := stepEnvelope (voicesActive v) (closeWindow v)

/-- The part after the host sample and the draws of an instant. -/
def drawnPart (v : Vks) : Vks := (drawVoices (hostSample (enveloped v)).2).2

/-- The exact sum of an instant (R153). -/
def mixSum (v : Vks) : Int := (hostSample (enveloped v)).1 * ((drawnPart v).mixer.hostGain : Int)
  + (drawVoices (hostSample (enveloped v)).2).1

theorem mixInstant_eq (v : Vks) : mixInstant v = emitSample (mixSum v) (drawnPart v) := rfl

theorem closeWindow_eq (v : Vks) : closeWindow v = { v with mixer := (closeWindow v).mixer }
    ∧ (closeWindow v).mixer.hostGain = v.mixer.hostGain ∧ (closeWindow v).mixer.envelope = v.mixer.envelope
    ∧ (closeWindow v).mixer.holdCount = v.mixer.holdCount ∧ (closeWindow v).mixer.clipSeen = v.mixer.clipSeen
    ∧ (closeWindow v).mixer.playing = v.mixer.playing ∧ (closeWindow v).mixer.samples = v.mixer.samples
    ∧ (closeWindow v).mixer.lowArmed = v.mixer.lowArmed ∧ (closeWindow v).mixer.endMark = v.mixer.endMark
    ∧ (closeWindow v).mixer.windowCount = if 256 ≤ v.mixer.windowCount then 0 else v.mixer.windowCount := by
  unfold closeWindow
  split <;> exact ⟨rfl, rfl, rfl, rfl, rfl, rfl, rfl, rfl, rfl, rfl⟩

/-- The step of the envelope moves gain, state and hold count alone. -/
theorem envelopeStep_eq (p : Params) (active : Bool) (m : Mixer) : envelopeStep p active m
    = { m with
        hostGain := (envelopeStep p active m).hostGain, envelope := (envelopeStep p active m).envelope
        holdCount := (envelopeStep p active m).holdCount } := by
  unfold envelopeStep activeStep inactiveStep holdStep
  repeat' split
  all_goals rfl

theorem enveloped_eq (v : Vks) : enveloped v = { v with mixer := (enveloped v).mixer }
    ∧ (enveloped v).mixer = envelopeStep v.params (voicesActive v) (closeWindow v).mixer := by
  have h := (closeWindow_eq v).1
  have hparams : (closeWindow v).params = v.params := by rw [h]
  have hmixer : (enveloped v).mixer = envelopeStep v.params (voicesActive v) (closeWindow v).mixer := by
    rw [enveloped, stepEnvelope, hparams]
  refine ⟨?_, hmixer⟩
  rw [hmixer, enveloped, stepEnvelope, hparams]
  rw [h]

/-- What window and envelope leave to the host sample. -/
theorem enveloped_mixer (v : Vks) : (enveloped v).mixer.clipSeen = v.mixer.clipSeen
    ∧ (enveloped v).mixer.playing = v.mixer.playing ∧ (enveloped v).mixer.samples = v.mixer.samples
    ∧ (enveloped v).mixer.lowArmed = v.mixer.lowArmed ∧ (enveloped v).mixer.endMark = v.mixer.endMark
    ∧ (enveloped v).mixer.windowCount = if 256 ≤ v.mixer.windowCount then 0 else v.mixer.windowCount := by
  obtain ⟨-, -, -, -, hclip, hplaying, hsamples, hlow, hmark, hwindow⟩ := closeWindow_eq v
  rw [(enveloped_eq v).2, envelopeStep_eq]
  exact ⟨hclip, hplaying, hsamples, hlow, hmark, hwindow⟩

theorem enveloped_voice (v : Vks) (i : VoiceId) : (enveloped v).voice i = v.voice i := by
  rw [(enveloped_eq v).1]
  cases i <;> rfl

/-- What the mix leaves of the part but for voices, buffer and notices. -/
theorem drawnPart_frame (v : Vks) : (drawnPart v).words = v.words ∧ (drawnPart v).keys = v.keys ∧ (drawnPart v).params = v.params
    ∧ (drawnPart v).lesson = v.lesson ∧ (drawnPart v).attempt = v.attempt ∧ (drawnPart v).sched = v.sched
    ∧ (drawnPart v).power = v.power ∧ (drawnPart v).reader.engine = v.reader.engine := by
  have henveloped := (enveloped_eq v).1
  have hhost := hostSample_taken (enveloped v)
  have hdrawn := drawVoices_drawn (hostSample (enveloped v)).2
  obtain ⟨hw, hk, hp, hl⟩ := hhost.outside
  refine ⟨hdrawn.untouched.words.trans (hw.trans (by rw [henveloped])), hdrawn.untouched.keys.trans (hk.trans (by rw [henveloped])),
    hdrawn.untouched.params.trans (hp.trans (by rw [henveloped])), hdrawn.untouched.lesson.trans (hl.trans (by rw [henveloped])),
    hdrawn.attempt.trans (hhost.attempt.trans (by rw [henveloped])), hdrawn.sched.trans (hhost.sched.trans (by rw [henveloped])),
    hdrawn.power.trans (hhost.power.trans (by rw [henveloped])),
    hdrawn.engine.trans ((congrArg Reader.engine hhost.reader).trans (by rw [henveloped]))⟩

theorem drawnPart_mixer (v : Vks) : (drawnPart v).mixer = (hostSample (enveloped v)).2.mixer := (drawVoices_drawn _).mixer

/-- The envelope an instant steps to is the one its sum uses and its event leaves. -/
theorem drawnPart_envelope (v : Vks) : (drawnPart v).mixer.hostGain = (enveloped v).mixer.hostGain
    ∧ (drawnPart v).mixer.envelope = (enveloped v).mixer.envelope ∧ (drawnPart v).mixer.holdCount = (enveloped v).mixer.holdCount := by
  rw [drawnPart_mixer]
  exact (hostSample_taken (enveloped v)).envelope

/-! ### What follows the mix -/

theorem endDrained_outside (v : Vks) : OutsideAttempt (endDrained v) v := by
  have hif (b : Bool) (i : VoiceId) (w : Vks) : OutsideAttempt (if b then idleVoice i w else w) w := by
    cases b
    · exact .refl w
    · exact (idleVoice_untouched i w).outside
  unfold endDrained
  exact (startHeads_untouched _).outside.trans ((reportEnds_outside _ _ _).trans ((hif _ .echo _).trans (hif _ .main v)))

/-- R187: the count of an instant that neither ends the standby nor is left out by the amplifier's state. -/
theorem countStandby_counts (active : Bool) (v : Vks) (hon : v.power.amp = .on)
    (hbelow : active = true ∨ v.mixer.output ≠ 0 ∨ v.params.ampStandby = 0 ∨ v.power.standby + 1 < v.params.ampStandby * 16000) :
    countStandby active v = { v with power := { v.power with
      standby := if active = false ∧ v.mixer.output = 0 then v.power.standby + 1 else 0 } } := by
  unfold countStandby
  simp only [if_pos hon, Bool.not_eq_true']
  refine if_neg ?_
  rintro ⟨hset, hreached⟩
  split at hreached
  · next hsilent =>
    rcases hbelow with h | h | h | h
    · cases hsilent.1.symm.trans h
    · exact h hsilent.2
    · exact hset h
    · omega
  · omega

/-- R187: the instant that reaches the limit. -/
theorem countStandby_reaches (v : Vks) (hon : v.power.amp = .on) (hsilent : v.mixer.output = 0) (hset : v.params.ampStandby ≠ 0)
    (hreached : v.params.ampStandby * 16000 ≤ v.power.standby + 1) :
    countStandby false v = ampGoesOff { v with power := { v.power with standby := v.power.standby + 1 } } := by
  unfold countStandby
  simp only [if_pos hon, Bool.not_false, true_and, hsilent, if_true]
  exact if_pos ⟨hset, hreached⟩

theorem countStandby_outside (active : Bool) (v : Vks) : OutsideAttempt (countStandby active v) v := by
  unfold countStandby
  simp only
  repeat' split
  · exact (ampGoesOff_untouched _).outside.trans (by constructor <;> rfl)
  · constructor <;> rfl
  · exact (ampGoesOff_untouched _).outside.trans (by constructor <;> rfl)
  · constructor <;> rfl
  · exact .refl v

/-- The part before the standby count of an instant: ends, starts and the echo's take-over (R102, R110, R126). -/
def beforeCount (v : Vks) : Vks := floorTakeOver (echoAge v) (endDrained (mixInstant v))

theorem outputInstant_awake (v : Vks) (h : v.power.asleep = false) :
    outputInstant v = settle (countStandby (voicesActive v) (beforeCount v)) := if_neg (by rw [h]; decide)

theorem beforeCount_outside (v : Vks) : OutsideAttempt (beforeCount v) (mixInstant v) :=
  (takeOverEcho_outside _ _).trans (endDrained_outside _)

theorem beforeCount_moves (v : Vks) : Moves 1 1 (beforeCount v) (mixInstant v) := (takeOverEcho_moves _ _).trans (endDrained_moves _)

/-- What an instant's event does after the mix stays outside buffer, envelope, output and clip marks. -/
theorem outputInstant_outside (v : Vks) (h : v.power.asleep = false) : OutsideAttempt (outputInstant v) (mixInstant v) := by
  rw [outputInstant_awake v h]
  exact (settle_untouched _).outside.trans ((countStandby_outside _ _).trans (beforeCount_outside v))

theorem exec_outputInstant (s : State) : exec .outputInstant s = .next (withPart s (outputInstant s.vks)) := rfl

theorem voicesActive_iff (v : Vks) : voicesActive v = true
    ↔ v.reader.mainVoice.state = .playing ∨ v.reader.echoVoice.state = .playing :=
  (Bool.or_eq_true _ _).to_iff.trans (or_congr decide_eq_true_iff decide_eq_true_iff)

/-- R157: the rows of an active instant, on a gain within its range. -/
theorem activeStep_rows (p : Params) (m : Mixer) :
    let r := activeStep p m
    ((m.envelope ≠ .ducked ∨ effectiveDuck p < m.hostGain) → r.hostGain = max (effectiveDuck p) (m.hostGain - p.duckFallStep)
        ∧ r.envelope = if r.hostGain = effectiveDuck p then .ducked else .falling)
    ∧ (m.envelope = .ducked → m.hostGain = effectiveDuck p → r.hostGain = effectiveDuck p ∧ r.envelope = .ducked) := by
  refine ⟨fun hfalls => ?_, fun hducked hlow => ?_⟩
  · rw [activeStep_falls p m hfalls]
    exact ⟨rfl, rfl⟩
  · rw [activeStep_ducked p m hducked, if_neg (by omega)]
    exact ⟨hlow, hducked⟩

theorem holdStep_holds (p : Params) (m : Mixer) (h : 0 < m.holdCount) : holdStep p m = { m with holdCount := m.holdCount - 1 } :=
  if_pos h

theorem holdStep_rises (p : Params) (m : Mixer) (h : m.holdCount = 0) : holdStep p m = riseStep p m := if_neg (by omega)

/-- R158: the rows of an instant that is not active. -/
theorem inactiveStep_rows (p : Params) (m : Mixer) :
    let r := inactiveStep p m
    ((m.envelope = .falling ∨ m.envelope = .ducked) → 0 < p.duckHold →
        r.hostGain = m.hostGain ∧ r.envelope = .hold ∧ r.holdCount = p.duckHold * 16 - 1)
    ∧ (m.envelope = .hold → 0 < m.holdCount → r.hostGain = m.hostGain ∧ r.envelope = .hold ∧ r.holdCount = m.holdCount - 1)
    ∧ ((m.envelope = .rising ∨ (m.envelope = .hold ∧ m.holdCount = 0)
          ∨ ((m.envelope = .falling ∨ m.envelope = .ducked) ∧ p.duckHold = 0) ∨ (m.envelope = .opened ∧ m.hostGain < p.hostLevel)) →
        r.hostGain = min p.hostLevel (m.hostGain + p.duckRiseStep)
        ∧ r.envelope = if r.hostGain = p.hostLevel then .opened else .rising)
    ∧ (m.envelope = .opened → m.hostGain = p.hostLevel → r.hostGain = p.hostLevel ∧ r.envelope = .opened) := by
  refine ⟨fun henters hset => ?_, fun hhold hcount => ?_, fun hrises => ?_, fun hopened hlevel => ?_⟩
  · rw [inactiveStep_enters_hold p m henters, holdStep_holds p _ (show 0 < p.duckHold * 16 by omega)]
    exact ⟨rfl, rfl, rfl⟩
  · rw [inactiveStep_hold p m hhold, holdStep_holds p m hcount]
    exact ⟨rfl, hhold, rfl⟩
  · rcases hrises with h | ⟨h, hcount⟩ | ⟨h, hset⟩ | ⟨h, hbelow⟩
    · rw [inactiveStep_rising p m h]
      exact ⟨rfl, rfl⟩
    · rw [inactiveStep_hold p m h, holdStep_rises p m hcount]
      exact ⟨rfl, rfl⟩
    · rw [inactiveStep_enters_hold p m h, holdStep_rises p _ (show p.duckHold * 16 = 0 by omega)]
      exact ⟨rfl, rfl⟩
    · rw [inactiveStep_opened p m h, if_pos hbelow]
      exact ⟨rfl, rfl⟩
  · rw [inactiveStep_opened p m hopened, if_neg (by omega)]
    exact ⟨hlevel, hopened⟩

/-- What an instant leaves of the envelope is the envelope's step on the part as it stood. -/
theorem outputInstant_envelope (v : Vks) (h : v.power.asleep = false) :
    let r := envelopeStep v.params (voicesActive v) (closeWindow v).mixer
    (outputInstant v).mixer.hostGain = r.hostGain ∧ (outputInstant v).mixer.envelope = r.envelope
      ∧ (outputInstant v).mixer.holdCount = r.holdCount := by
  have hout := outputInstant_outside v h
  obtain ⟨hgain, henvelope, hhold⟩ := drawnPart_envelope v
  intro r
  have hstep : (enveloped v).mixer = r := (enveloped_eq v).2
  rw [hstep] at hgain henvelope hhold
  exact ⟨hout.hostGain.trans hgain, hout.envelope.trans henvelope, hout.holdCount.trans hhold⟩

/-- Settles O52: the step's cases, one for each row of the two tables, on the gain brought into its range. -/
theorem envelopeFollowsTheVoices : Obligations.EnvelopeFollowsTheVoices := by
  intro s hawake p m low g active
  obtain ⟨hgain, henvelope, hhold⟩ := outputInstant_envelope s.vks hawake
  obtain ⟨hlow, hhigh⟩ := envelopeStep_fits p (voicesActive s.vks) (closeWindow s.vks).mixer
  obtain ⟨-, hcgain, hcenvelope, hchold, -⟩ := closeWindow_eq s.vks
  have heffective : effectiveDuck p = low := effectiveDuck_eq p
  have hactive := activeStep_rows p (rangeStep p (closeWindow s.vks).mixer)
  have hinactive := inactiveStep_rows p (rangeStep p (closeWindow s.vks).mixer)
  have hrange : (rangeStep p (closeWindow s.vks).mixer).hostGain = g := by
    rw [rangeStep_eq, hcgain, heffective]
  rw [hrange, show (rangeStep p (closeWindow s.vks).mixer).envelope = m.envelope from hcenvelope, heffective] at hactive
  rw [hrange, show (rangeStep p (closeWindow s.vks).mixer).envelope = m.envelope from hcenvelope,
    show (rangeStep p (closeWindow s.vks).mixer).holdCount = m.holdCount from hchold] at hinactive
  have hon (ha : active) : envelopeStep p (voicesActive s.vks) (closeWindow s.vks).mixer
      = activeStep p (rangeStep p (closeWindow s.vks).mixer) := if_pos ((voicesActive_iff s.vks).mpr ha)
  have hoff (ha : ¬ active) : envelopeStep p (voicesActive s.vks) (closeWindow s.vks).mixer
      = inactiveStep p (rangeStep p (closeWindow s.vks).mixer) := if_neg fun h => ha ((voicesActive_iff s.vks).mp h)
  refine ⟨_, exec_outputInstant s, ?_⟩
  dsimp only [withPart]
  rw [heffective] at hlow
  simp only [hgain, henvelope, hhold]
  refine ⟨hlow, hhigh, fun ha => ?_, fun ha => ?_, fun ha => ?_, fun ha => ?_, fun ha => ?_, fun ha => ?_⟩
  · rw [show s.vks.params = p from rfl, hon ha]
    exact hactive.1
  · rw [show s.vks.params = p from rfl, hon ha]
    exact hactive.2
  · rw [show s.vks.params = p from rfl, hoff ha]
    exact hinactive.1
  · rw [show s.vks.params = p from rfl, hoff ha]
    exact hinactive.2.1
  · rw [show s.vks.params = p from rfl, hoff ha]
    exact hinactive.2.2.1
  · rw [show s.vks.params = p from rfl, hoff ha]
    exact hinactive.2.2.2

end Sys2Proof.Instants
end

section
/-! SUPPORT. The rows of the sample clock and the standby count (R155, R158, R187). -/

namespace Sys2Proof.SampleClock

open Sys2Proof.Machine Sys2Proof.EventMoves Sys2Proof.EventFrames Sys2Proof.VoiceFrames Sys2Proof.Instants Sys2Proof.Resets
  Sys2Proof.SleepQuiet

/-! ### Silence (R153, R154) -/

theorem mixOutput_zero : mixOutput 0 = 0 := by decide

/-- R154: half a step or more of the 16-bit output does not round to 0. -/
theorem mixOutput_ne_zero {acc : Int} (h : 8192 ≤ |acc|) : mixOutput acc ≠ 0 := by
  rcases abs_cases acc with ⟨habs, hsign⟩ | ⟨habs, hsign⟩
  · rw [habs] at h
    have hround : 1 ≤ roundMix acc := by
      rw [roundMix, if_pos hsign]
      omega
    unfold mixOutput limitSample
    split_ifs <;> omega
  · rw [habs] at h
    have hround : roundMix acc ≤ -1 := by
      rw [roundMix, if_neg (by omega)]
      omega
    unfold mixOutput limitSample
    split_ifs <;> omega

/-- Neither voice is PLAYING. -/
def Silent (v : Vks) : Prop := v.reader.mainVoice.state ≠ .playing ∧ v.reader.echoVoice.state ≠ .playing

theorem voicesActive_of_silent {v : Vks} (h : Silent v) : voicesActive v = false :=
  Bool.eq_false_iff.mpr fun ha => ((voicesActive_iff v).mp ha).elim h.1 h.2

theorem voicesActive_of_not_silent {v : Vks} (h : ¬ Silent v) : voicesActive v = true :=
  (voicesActive_iff v).mpr (by
    by_contra hnone
    exact h ⟨fun hm => hnone (.inl hm), fun he => hnone (.inr he)⟩)

theorem drawVoices_of_silent (v : Vks) (h : Silent v) : drawVoices v = (0, v) := by
  by_cases hon : v.power.amp = .on
  · rw [drawVoices_of_on v hon, draw_of_not_playing .main v h.1, draw_of_not_playing .echo v h.2]
    simp
  · exact drawVoices_of_not_on v hon

/-- In silence the part after the draws is the part after the host sample. -/
theorem drawnPart_of_silent (v : Vks) (h : Silent v) : drawnPart v = (hostSample (enveloped v)).2
    ∧ mixSum v = (hostSample (enveloped v)).1 * ((drawnPart v).mixer.hostGain : Int) ∧ (drawnPart v).reader = v.reader := by
  have hreader : (hostSample (enveloped v)).2.reader = v.reader :=
    (hostSample_taken _).reader.trans (by rw [(enveloped_eq v).1])
  have hdraw := drawVoices_of_silent (hostSample (enveloped v)).2 (by rw [Silent, hreader]; exact h)
  have hpart : drawnPart v = (hostSample (enveloped v)).2 := by rw [drawnPart, hdraw]
  refine ⟨hpart, ?_, by rw [hpart, hreader]⟩
  rw [mixSum, show (drawVoices (hostSample (enveloped v)).2).1 = 0 by rw [hdraw]]
  exact Int.add_zero _

/-! ### The amplifier through an instant (R187) -/

/-- An amplifier that is ON stays ON with its standby count. -/
def KeepsOn (a b : Vks) : Prop := b.power.amp = .on → a.power.amp = .on ∧ a.power.standby = b.power.standby

theorem move_keepsOn {a b : Vks} (h : Move 1 1 a b) : KeepsOn a b := by
  cases h with
  | notice n v => exact fun hon => by rw [raiseNotice_power]; exact ⟨hon, rfl⟩
  | ask v hoff hlong => exact fun hon => by cases hoff.symm.trans hon
  | on v hoff hshort => exact fun hon => by cases hoff.symm.trans hon
  | amp _ _ _ v hl => exact absurd hl (by decide)
  | _ => exact fun hon => ⟨hon, rfl⟩

theorem moves_keepsOn {a b : Vks} (h : Moves 1 1 a b) : KeepsOn a b :=
  h.induct (fun _ hon => ⟨hon, rfl⟩)
    (fun h k hon => ⟨(h (k hon).1).1, ((h (k hon).1).2).trans (k hon).2⟩) move_keepsOn

theorem mixInstant_power (v : Vks) : (mixInstant v).power = v.power ∧ (mixInstant v).params = v.params
    ∧ (mixInstant v).sched = v.sched ∧ (mixInstant v).attempt = v.attempt := by
  obtain ⟨-, -, hparams, -, hattempt, hsched, hpower, -⟩ := drawnPart_frame v
  exact ⟨hpower, hparams, hsched, hattempt⟩

/-- What the standby count finds: an amplifier that is ON, the count before the instant, and its output. -/
theorem beforeCount_power (v : Vks) (hon : v.power.amp = .on) : (beforeCount v).power.amp = .on
    ∧ (beforeCount v).power.standby = v.power.standby ∧ (beforeCount v).params = v.params
    ∧ (beforeCount v).mixer.output = (mixInstant v).mixer.output := by
  obtain ⟨hpower, hparams, -, -⟩ := mixInstant_power v
  have hkeeps := moves_keepsOn (beforeCount_moves v) (by rw [hpower]; exact hon)
  have hout := beforeCount_outside v
  exact ⟨hkeeps.1, hkeeps.2.trans (by rw [hpower]), hout.params.trans hparams, hout.output⟩

/-- R187: an instant that does not reach the limit leaves the amplifier ON, and its count. -/
theorem outputInstant_counts (v : Vks) (hawake : v.power.asleep = false) (hon : v.power.amp = .on)
    (hbelow : voicesActive v = true ∨ (mixInstant v).mixer.output ≠ 0 ∨ v.params.ampStandby = 0
      ∨ v.power.standby + 1 < v.params.ampStandby * 16000) :
    (outputInstant v).power.amp = .on ∧ (outputInstant v).power.standby
      = if voicesActive v = false ∧ (mixInstant v).mixer.output = 0 then v.power.standby + 1 else 0 := by
  obtain ⟨hbon, hstandby, hparams, houtput⟩ := beforeCount_power v hon
  have hcount := countStandby_counts (voicesActive v) (beforeCount v) hbon (by rw [hstandby, hparams, houtput]; exact hbelow)
  rw [houtput, hstandby] at hcount
  have hkeeps := moves_keepsOn (settle_moves (countStandby (voicesActive v) (beforeCount v))) (by rw [hcount]; exact hbon)
  rw [outputInstant_awake v hawake]
  exact ⟨hkeeps.1, hkeeps.2.trans (by rw [hcount])⟩

/-- With no voice PLAYING and nothing waiting, the part the standby count finds is the mix's. -/
theorem beforeCount_of_silent (v : Vks) (h : Silent v) (hqueue : v.sched.queue = []) (hline : v.sched.echoLine = none) :
    beforeCount v = mixInstant v := by
  obtain ⟨-, -, hsched, -⟩ := mixInstant_power v
  have hreader : (mixInstant v).reader = v.reader := (drawnPart_of_silent v h).2.2
  have hnot (i : VoiceId) : ((mixInstant v).voice i).drained = false := by
    have hstate : ((mixInstant v).voice i).state ≠ .playing := by
      cases i <;> simp only [Vks.voice, hreader]
      · exact h.1
      · exact h.2
    simp [Voice.drained, hstate]
  have hdrained : endDrained (mixInstant v) = mixInstant v := by
    unfold endDrained
    simp only [hnot, Bool.false_eq_true, if_false, List.append_nil]
    show startHeads (mixInstant v) = _
    exact startHeads_of_nothing_waiting (mixInstant v) (by rw [hsched]; exact hqueue) (by rw [hsched]; exact hline)
  rw [beforeCount, hdrained, floorTakeOver, takeOverEcho, hsched, hline]

/-- With no voice PLAYING and nothing waiting, an event's end reaches neither amplifier nor buffer. -/
theorem settle_of_silent (v : Vks) (h : Silent v) (hqueue : v.sched.queue = []) (hline : v.sched.echoLine = none) :
    (settle v).power.amp = v.power.amp ∧ (settle v).power.standby = v.power.standby ∧ (settle v).mixer = v.mixer := by
  have hm : (v.voice .main).state ≠ .playing := h.1
  have he : (v.voice .echo).state ≠ .playing := h.2
  have hstart : settleReads (startHeads v) = v := by
    rw [startHeads_of_nothing_waiting v hqueue hline, settleReads, readAhead_of_not_playing .main v hm,
      readAhead_of_not_playing .echo v he,
      startRead_of_none v (needsRead_of_not_playing .main v hm) (needsRead_of_not_playing .echo v he)]
  have hattn (x : Vks) : (settleAttn x).power = x.power := by
    unfold settleAttn dropAttn
    repeat' split
    all_goals rfl
  refine ⟨?_, ?_, by rw [settle_mixer, hstart]⟩
  · simp [settle, hstart, settleSleepTimer, settleLamps, settleInactivity, hattn]
  · simp [settle, hstart, settleSleepTimer, settleLamps, settleInactivity, hattn]

/-- R187: the instant that reaches the limit turns the amplifier OFF and stops the buffer. -/
theorem outputInstant_reaches (v : Vks) (hawake : v.power.asleep = false) (hon : v.power.amp = .on) (hsilent : Silent v)
    (houtput : (mixInstant v).mixer.output = 0) (hset : v.params.ampStandby ≠ 0)
    (hreached : v.params.ampStandby * 16000 ≤ v.power.standby + 1) (hqueue : v.sched.queue = []) (hline : v.sched.echoLine = none) :
    (outputInstant v).power.amp = .off ∧ (outputInstant v).power.standby = 0 ∧ (outputInstant v).mixer.playing = false := by
  obtain ⟨hpower, hparams, hsched, -⟩ := mixInstant_power v
  have hreader : (mixInstant v).reader = v.reader := (drawnPart_of_silent v hsilent).2.2
  rw [outputInstant_awake v hawake, beforeCount_of_silent v hsilent hqueue hline, voicesActive_of_silent hsilent,
    countStandby_reaches _ (by rw [hpower]; exact hon) houtput (by rw [hparams]; exact hset) (by rw [hparams, hpower]; exact hreached)]
  have hend := settle_of_silent (ampGoesOff { mixInstant v with power :=
    { (mixInstant v).power with standby := (mixInstant v).power.standby + 1 } })
    (by show Silent (mixInstant v); rw [Silent, hreader]; exact hsilent)
    (by show (mixInstant v).sched.queue = []; rw [hsched]; exact hqueue)
    (by show (mixInstant v).sched.echoLine = none; rw [hsched]; exact hline)
  generalize settle (ampGoesOff _) = t at hend ⊢
  exact ⟨hend.1, hend.2.1, congrArg Mixer.playing hend.2.2⟩

theorem standbyDue_iff (v : Vks) : standbyDue v = true ↔ v.power.asleep = false ∧ v.power.amp = .on ∧ voicesActive v = false
    ∧ (mixInstant v).mixer.output = 0 ∧ v.params.ampStandby ≠ 0 ∧ v.params.ampStandby * 16000 ≤ v.power.standby + 1 := by
  simp only [standbyDue, Bool.and_eq_true, Bool.not_eq_true', decide_eq_true_eq, and_assoc]

theorem exec_ampStandbyExpiry_of_due (s : State) (h : standbyDue s.vks = true) :
    exec .ampStandbyExpiry s = .next (withPart s (outputInstant s.vks)) :=
  congrArg (fun x => Host.Outcome.next (withPart s x)) (if_pos h)

theorem exec_ampStandbyExpiry_of_not_due (s : State) (h : ¬ standbyDue s.vks = true) : exec .ampStandbyExpiry s = .next s :=
  congrArg (fun x => Host.Outcome.next (withPart s x)) (if_neg h)

/-- In silence the output is the host sample's part of the sum. -/
theorem mixInstant_output_of_silent (v : Vks) (h : Silent v) : (mixInstant v).mixer.output
    = mixOutput ((hostSample (enveloped v)).1 * ((drawnPart v).mixer.hostGain : Int)) :=
  congrArg mixOutput (drawnPart_of_silent v h).2.1

/-- Settles O53: each row when due and when not; the instant's count below its limit, at it, and after a sound. -/
theorem sampleClockRowsActWhenDue : Obligations.SampleClockRowsActWhenDue := by
  intro s
  refine ⟨fun h => ?_, fun h => ?_, fun hhold hcount => ?_, fun h => ?_, ?standby⟩
  · exact congrArg (fun x => Host.Outcome.next (withPart s x)) (if_pos h)
  · exact congrArg (fun x => Host.Outcome.next (withPart s x)) (if_neg (by omega))
  · exact congrArg (fun x => Host.Outcome.next (withPart s x)) (if_pos ⟨hhold, hcount⟩)
  · exact congrArg (fun x => Host.Outcome.next (withPart s x)) (if_neg (by rintro ⟨hhold, hcount⟩; exact h.elim (fun h => h hhold) (by omega)))
  case standby =>
    intro limit silent
    refine ⟨fun h => exec_ampStandbyExpiry_of_not_due s fun hdue => ?_, fun hawake hon => ?_⟩
    · obtain ⟨hawake, hon, hquiet, -, hset, hreached⟩ := (standbyDue_iff s.vks).mp hdue
      rcases h with h | h | h | h | h
      · exact h hawake
      · exact h hon
      · cases (voicesActive_of_not_silent h).symm.trans hquiet
      · exact hset h
      · exact Nat.not_le.mpr h hreached
    · have hout := outputInstant_outside s.vks hawake
      have hcounts := outputInstant_counts s.vks hawake hon
      have hreaches := outputInstant_reaches s.vks hawake hon
      have houtput : (withPart s (outputInstant s.vks)).vks.mixer.output = (mixInstant s.vks).mixer.output := hout.output
      refine ⟨_, exec_outputInstant s, ?_⟩
      simp only [houtput]
      refine ⟨fun h => ?_, fun hs hz hset hreached => ?_, fun hs => ?_, fun hz => ?_, fun hs hz hbelow => ?_,
        fun hs hz hset hreached hqueue hline => hreaches hs hz hset hreached hqueue hline, fun hs hstopped => ?_,
        fun x rest hs hplaying hsamples => ?_⟩
      · exact exec_ampStandbyExpiry_of_not_due s fun hdue => h ((standbyDue_iff s.vks).mp hdue).2.2.2.1
      · exact exec_ampStandbyExpiry_of_due s ((standbyDue_iff s.vks).mpr
          ⟨hawake, hon, voicesActive_of_silent hs, hz, hset, hreached⟩)
      · have hactive := voicesActive_of_not_silent hs
        obtain ⟨hamp, hcount⟩ := hcounts (.inl hactive)
        exact ⟨hamp, hcount.trans (if_neg (by rw [hactive]; simp))⟩
      · obtain ⟨hamp, hcount⟩ := hcounts (.inr (.inl hz))
        exact ⟨hamp, hcount.trans (if_neg fun h => hz h.2)⟩
      · obtain ⟨hamp, hcount⟩ := hcounts (.inr (.inr hbelow))
        exact ⟨hamp, hcount.trans (if_pos ⟨voicesActive_of_silent hs, hz⟩)⟩
      · have hhost := hostSample_of_not (enveloped s.vks) (by rw [(enveloped_mixer s.vks).2.1, hstopped]; simp)
        rw [mixInstant_output_of_silent _ hs, hhost]
        exact (congrArg mixOutput (Int.zero_mul _)).trans mixOutput_zero
      · have hhost := hostSample_of_cons (enveloped s.vks) ((enveloped_mixer s.vks).2.1.trans hplaying)
          (by rw [(enveloped_eq s.vks).1]; exact hon) ((enveloped_mixer s.vks).2.2.1.trans hsamples)
        have hpart := (drawnPart_of_silent s.vks hs).1
        have hgain : (withPart s (outputInstant s.vks)).vks.mixer.hostGain = (drawnPart s.vks).mixer.hostGain := hout.hostGain
        rw [hgain, mixInstant_output_of_silent _ hs, hhost]
        refine ⟨hout.samples.trans ?_, fun hz => ?_, mixOutput_ne_zero⟩
        · show (drawnPart s.vks).mixer.samples = rest
          rw [hpart, hhost]
          exact (lowCompare_untouched _).samples
        · subst hz
          exact (congrArg mixOutput (Int.zero_mul _)).trans mixOutput_zero

end Sys2Proof.SampleClock
end

section
/-! SUPPORT. What stays spoken or waiting (R101 to R113): an engine utterance or echo, once it is on its voice or waiting for it,
is there still after whatever does not cut it. -/

namespace Sys2Proof.SpeechKept

open Sys2Proof.Machine Sys2Proof.EventMoves Sys2Proof.EventFrames Sys2Proof.VoiceFrames

/-! ### Held utterances -/

/-- What waits for a voice. -/
def waiting (v : Vks) : VoiceId → List Utterance
  | .main => v.sched.queue
  | .echo => v.sched.echoLine.toList

/-- An utterance is on its voice or waiting for it. -/
def Holds (i : VoiceId) (v : Vks) (u : Utterance) : Prop :=
  u ∈ waiting v i ∨ (v.voice i).state ≠ .idle ∧ (v.voice i).utterance = some u

/-- The same utterance, whatever its progress. -/
def SameSpeech (a b : Utterance) : Prop := a.id = b.id ∧ a.source = b.source ∧ a.items = b.items

theorem SameSpeech.refl (u : Utterance) : SameSpeech u u := ⟨rfl, rfl, rfl⟩

theorem SameSpeech.trans {a b c : Utterance} (h : SameSpeech a b) (k : SameSpeech b c) : SameSpeech a c :=
  ⟨h.1.trans k.1, h.2.1.trans k.2.1, h.2.2.trans k.2.2⟩

theorem begun_same (u : Utterance) : SameSpeech (begun u) u := ⟨rfl, rfl, rfl⟩

/-- A voice that is busy goes on, and the voice's engine utterances and echoes stay spoken or waiting. -/
structure Kept (i : VoiceId) (a b : Vks) : Prop where
  busy : (b.voice i).state ≠ .idle → VoiceGoesOn (a.voice i) (b.voice i)
  holds : ∀ u, u.source ≠ .say → Holds i b u → ∃ w, Holds i a w ∧ SameSpeech w u

variable {i : VoiceId} {a b c : Vks}

theorem Kept.trans (h : Kept i a b) (k : Kept i b c) : Kept i a c where
  busy hc := (h.busy ((k.busy hc).on hc).1).trans (k.busy hc)
  holds u hsource hu := by
    obtain ⟨w, hw, hsame⟩ := k.holds u hsource hu
    obtain ⟨x, hx, hsame'⟩ := h.holds w (by rw [hsame.2.1]; exact hsource) hw
    exact ⟨x, hx, hsame'.trans hsame⟩

/-- A voice that goes on, with what waits for it, is kept. -/
theorem Kept.of_goesOn (hvoice : VoiceGoesOn (a.voice i) (b.voice i)) (hwaiting : waiting a i = waiting b i) : Kept i a b where
  busy _ := hvoice
  holds u _ hu := by
    rcases hu with hu | ⟨hbusy, hu⟩
    · exact ⟨u, .inl (by rw [hwaiting]; exact hu), .refl u⟩
    · obtain ⟨hon, hutterance⟩ := hvoice.on hbusy
      exact ⟨u, .inr ⟨hon, hutterance.trans hu⟩, .refl u⟩

theorem Kept.of_same (hreader : a.reader = b.reader) (hsched : a.sched = b.sched) : Kept i a b := by
  have hvoice : a.voice i = b.voice i := by cases i <;> simp [Vks.voice, hreader]
  refine .of_goesOn (hvoice ▸ .refl _) ?_
  cases i <;> simp [waiting, hsched]

theorem Kept.refl (v : Vks) : Kept i v v := .of_same rfl rfl

theorem goesOn_kept (h : GoesOn a b) : Kept i a b :=
  .of_goesOn (h.voices i) (by cases i <;> simp [waiting, h.sched])

theorem raiseNotice_kept (n : Notice) (v : Vks) : Kept i (raiseNotice n v) v :=
  .of_same (raiseNotice_reader n v) (raiseNotice_sched n v)

/-! ### Starts (R107, R110) -/

/-- A voice that starts an utterance is busy with it. -/
theorem startVoice_speaks (i : VoiceId) (u : Utterance) (v : Vks) : ((startVoice i u v).voice i).state ≠ .idle
    ∧ ((startVoice i u v).voice i).utterance = some (begun u) := by
  have h := (startVoice_goesOn i u v).voices i
  rw [voice_setVoice_same] at h
  exact h.on nofun

theorem startVoice_waiting (i j : VoiceId) (u : Utterance) (v : Vks) : waiting (startVoice i u v) j = waiting v j := by
  have h := (startVoice_goesOn i u v).sched
  cases i <;> cases j <;> simp [waiting, h, setVoice]

/-- A start on one voice keeps the other's side. -/
theorem startVoice_kept_other {i j : VoiceId} (hne : j ≠ i) (u : Utterance) (v : Vks) : Kept j (startVoice i u v) v := by
  have h := (startVoice_goesOn i u v).voices j
  rw [voice_setVoice_other _ _ hne] at h
  exact .of_goesOn h (startVoice_waiting i j u v)

/-- A start on an IDLE voice keeps what waits for it. -/
theorem startVoice_kept_of_idle (u : Utterance) (v : Vks) (hidle : (v.voice i).state = .idle) : Kept i (startVoice i u v) v where
  busy h := absurd hidle h
  holds w _ hw := by
    rcases hw with hw | ⟨hbusy, -⟩
    · exact ⟨w, .inl (by rw [startVoice_waiting]; exact hw), .refl w⟩
    · exact absurd hidle hbusy

theorem startVoice_holds (u : Utterance) (v : Vks) : ∃ w, Holds i (startVoice i u v) w ∧ SameSpeech w u :=
  ⟨begun u, .inr (startVoice_speaks i u v), begun_same u⟩

theorem startMainHead_kept (v : Vks) : Kept .main (startMainHead v) v := by
  by_cases hidle : v.reader.mainVoice.state = .idle
  · cases hopen : v.storeOpen with
    | false =>
      rw [startMainHead_of_closed v hopen]
      exact .refl v
    | true =>
      cases hqueue : v.sched.queue with
      | nil =>
        rw [startMainHead_of_nil v hqueue]
        exact .refl v
      | cons u q =>
        rw [startMainHead_of_cons v hidle hopen hqueue]
        refine ⟨fun h => absurd hidle h, fun w _ hw => ?_⟩
        rcases hw with hw | ⟨hbusy, -⟩
        · rw [waiting, hqueue] at hw
          rcases List.mem_cons.mp hw with rfl | hw
          · exact startVoice_holds w _
          · exact ⟨w, .inl (by rw [startVoice_waiting]; exact hw), .refl w⟩
        · exact absurd hidle hbusy
  · rw [startMainHead_of_busy v hidle]
    exact .refl v

theorem startEchoHead_kept (v : Vks) : Kept .echo (startEchoHead v) v := by
  by_cases hidle : v.reader.echoVoice.state = .idle
  · cases hline : v.sched.echoLine with
    | none =>
      rw [startEchoHead_of_none v hline]
      exact .refl v
    | some u =>
      rw [startEchoHead_of_some v hidle hline]
      split
      · refine ⟨fun h => absurd hidle h, fun w _ hw => ?_⟩
        rcases hw with hw | ⟨hbusy, -⟩
        · rw [waiting, hline, Option.toList_some, List.mem_singleton] at hw
          subst hw
          exact startVoice_holds w _
        · exact absurd hidle hbusy
      · exact .refl v
  · rw [startEchoHead_of_busy v hidle]
    exact .refl v

theorem startHeads_kept (v : Vks) : Kept i (startHeads v) v := by
  cases i with
  | main =>
    obtain ⟨hvoice, hqueue, -⟩ := startEchoHead_main (startMainHead v)
    exact (Kept.of_goesOn hvoice hqueue).trans (startMainHead_kept v)
  | echo =>
    obtain ⟨hvoice, hline, -⟩ := startMainHead_echo v
    exact (startEchoHead_kept _).trans (.of_goesOn hvoice (by rw [waiting, hline]; rfl))

theorem settle_kept (v : Vks) : Kept i (settle v) v := (goesOn_kept (settle_goesOn v)).trans (startHeads_kept v)

/-! ### Engine utterances (R104, R105) -/

theorem mem_insertEngine (u w : Utterance) (q : List Utterance) : w ∈ insertEngine u q ↔ w = u ∨ w ∈ q := by
  induction q with
  | nil => simp [insertEngine]
  | cons x xs ih =>
    unfold insertEngine
    split
    · rw [List.mem_cons, ih, List.mem_cons]
      tauto
    · exact List.mem_cons

/-- What the newest SAY leaves in the queue. -/
theorem mem_dropNewestSay {q rest : List Utterance} {s : Utterance} (h : dropNewestSay q = some (s, rest)) :
    s.source = .say ∧ ∀ w ∈ q, w.source ≠ .say → w ∈ rest := by
  induction q generalizing rest with
  | nil => cases h
  | cons x xs ih =>
    unfold dropNewestSay at h
    split at h
    · next s' xs' htail =>
      cases h
      obtain ⟨hsay, hrest⟩ := ih htail
      refine ⟨hsay, fun w hw hsource => ?_⟩
      rcases List.mem_cons.mp hw with rfl | hw
      · exact List.mem_cons_self
      · exact List.mem_cons_of_mem _ (hrest w hw hsource)
    · split at h
      · next hsay =>
        cases h
        refine ⟨hsay, fun w hw hsource => ?_⟩
        rcases List.mem_cons.mp hw with rfl | hw
        · exact absurd hsay hsource
        · exact hw
      · cases h

/-- R104, R105: an arriving engine utterance leaves the main voice's engine utterances and the echo voice's side. -/
theorem placeEngine_kept (u : Utterance) (v : Vks) : Kept i (placeEngine u v).1 v := by
  have hqueue (q : List Utterance) (x : Vks) (hq : ∀ w ∈ x.sched.queue, w.source ≠ .say → w ∈ q) : Kept i (setQueue q x) x := by
    cases i with
    | main =>
      refine ⟨fun _ => .refl _, fun w hsource hw => ?_⟩
      rcases hw with hw | hw
      · exact ⟨w, .inl (hq w hw hsource), .refl w⟩
      · exact ⟨w, .inr hw, .refl w⟩
    | echo => exact .of_goesOn (.refl _) rfl
  unfold placeEngine
  split
  · next htakes =>
    have hidle : v.reader.mainVoice.state = .idle := by
      simp only [engineTakesAtOnce, Bool.and_eq_true, decide_eq_true_eq] at htakes
      exact htakes.1.2
    cases i with
    | main => exact startVoice_kept_of_idle u v hidle
    | echo => exact startVoice_kept_other (by decide) u v
  · split
    · exact hqueue _ v fun w hw _ => (mem_insertEngine u w _).mpr (.inr hw)
    · split
      · next s q hdrop =>
        refine (hqueue _ _ fun w hw hsource => ?_).trans (raiseNotice_kept _ v)
        rw [raiseNotice_sched] at hw
        exact (mem_insertEngine u w q).mpr (.inr ((mem_dropNewestSay hdrop).2 w hw hsource))
      · exact .refl v

/-- An engine utterance that is not turned away is on the main voice or waiting. -/
theorem placeEngine_holds (u : Utterance) (v : Vks) (h : (placeEngine u v).2 = false) :
    ∃ w, Holds .main (placeEngine u v).1 w ∧ SameSpeech w u := by
  unfold placeEngine at h ⊢
  split
  · exact startVoice_holds u v
  · next hnot =>
    rw [if_neg hnot] at h
    split
    · exact ⟨u, .inl ((mem_insertEngine u u _).mpr (.inl rfl)), .refl u⟩
    · next hfull =>
      rw [if_neg hfull] at h
      split
      · exact ⟨u, .inl ((mem_insertEngine u u _).mpr (.inl rfl)), .refl u⟩
      · next hnone =>
        rw [hnone] at h
        cases h

theorem forget_kept (id : Nat) (v : Vks) : Kept i (forget id v) v := .of_same rfl rfl

theorem setAttemptState_kept (st : AttemptState) (v : Vks) : Kept i (setAttemptState st v) v := .of_same rfl rfl

theorem setContext_kept (c : Context) (v : Vks) : Kept i (setContext c v) v := .of_same rfl rfl

theorem setAwaited_kept (x : Option (AwaitKind × Nat)) (v : Vks) : Kept i (setAwaited x v) v := .of_same rfl rfl

theorem setLesson_kept (u : LessonUnit) (v : Vks) : Kept i { v with lesson := u } v := .of_same rfl rfl

/-- R22, R99: a request keeps what is spoken or waiting. -/
theorem requestEngine_kept (s : Source) (ps : List Part) (x : Expansion) (v : Vks) : Kept i (requestEngine s ps x v).1 v := by
  have hmade (id : Nat) (items : List Item) : Kept i (remember id (makeUtterance s 0#8 items (stopInactivity v)).2) v := by
    cases i <;> exact .of_goesOn (.refl _) rfl
  unfold requestEngine
  simp only
  repeat' split
  · exact .of_same rfl rfl
  · exact (forget_kept _ _).trans ((placeEngine_kept _ _).trans (hmade _ _))
  · exact (placeEngine_kept _ _).trans (hmade _ _)

/-! ### The attempt's steps (R22, R23, R35 to R37, R58) -/

theorem requestPrompt_kept (v : Vks) : Kept i (requestPrompt v).1 v :=
  (setAwaited_kept _ _).trans ((setAttemptState_kept _ _).trans (requestEngine_kept .prompt (promptParts v) (attemptExpansion v 0 none) v))

theorem beginPrompting_kept (v : Vks) : Kept i (beginPrompting v) v := by
  have h := (raiseNotice_kept (i := i) (openedNotice (requestPrompt v).1.attempt.ctx) _).trans (requestPrompt_kept v)
  unfold beginPrompting
  simp only
  split
  · exact (setAttemptState_kept _ _).trans h
  · exact h

theorem openAttempt_kept (w : Nat) (o : Origin) (m : Option CheckMode) (v : Vks) : Kept i (openAttempt w o m v) v := by
  unfold openAttempt
  split
  · exact (beginPrompting_kept _).trans ((setContext_kept _ _).trans (setLesson_kept _ v))
  · exact .refl v

theorem lessonWalk_kept (v : Vks) : Kept i (lessonWalk v) v := by
  unfold lessonWalk
  split
  · exact (openAttempt_kept _ _ _ _).trans (setLesson_kept _ v)
  · exact (raiseNotice_kept _ _).trans ((setAttemptState_kept _ _).trans (setLesson_kept _ v))

theorem closingEnded_kept (v : Vks) : Kept i (closingEnded v) v := by
  unfold closingEnded
  simp only
  repeat' split
  · exact (lessonWalk_kept _).trans ((setAttemptState_kept _ _).trans (setContext_kept _ v))
  · exact .of_same rfl rfl
  · exact .of_same rfl rfl

theorem awaitedStep_kept (k : AwaitKind) (v : Vks) : Kept i (awaitedStep k v) v := by
  cases k with
  | prompt => exact .of_same rfl rfl
  | tryResponse => exact .of_same rfl rfl
  | closing => exact closingEnded_kept v

theorem endReport_kept (id : Nat) (v : Vks) : Kept i (endReport id v) v := by
  unfold endReport
  simp only
  repeat' split
  · exact (awaitedStep_kept _ _).trans ((setAwaited_kept _ _).trans (forget_kept _ v))
  · exact .of_same rfl rfl
  · exact .of_same rfl rfl
  · exact .refl v

theorem reportEnds_kept (o : UttOutcome) (us : List Utterance) (v : Vks) : Kept i (reportEnds o us v) v := by
  unfold reportEnds
  induction us generalizing v with
  | nil => exact .refl v
  | cons u us ih =>
    refine (ih _).trans ?_
    unfold reportEnd
    split
    · exact raiseNotice_kept _ v
    · exact endReport_kept _ v

theorem countClose_same (w : Nat) (d : Verdict) (c : CloseClass) (o : Origin) (v : Vks) :
    (countClose w d c o v).reader = v.reader ∧ (countClose w d c o v).sched = v.sched := by
  unfold countClose
  simp only
  split
  · exact ⟨rfl, rfl⟩
  · exact ⟨raiseNotice_reader _ _, raiseNotice_sched _ _⟩

theorem countClose_kept (w : Nat) (d : Verdict) (c : CloseClass) (o : Origin) (v : Vks) : Kept i (countClose w d c o v) v :=
  .of_same (countClose_same w d c o v).1 (countClose_same w d c o v).2

/-! ### Echoes (R108 to R111) -/

/-- The main voice goes on, and nothing joins or leaves the main queue. -/
structure MainAlone (a b : Vks) : Prop where
  voice : VoiceGoesOn (a.voice .main) (b.voice .main)
  queue : a.sched.queue = b.sched.queue

theorem MainAlone.refl (v : Vks) : MainAlone v v := ⟨.refl _, rfl⟩

theorem MainAlone.trans (h : MainAlone a b) (k : MainAlone b c) : MainAlone a c := ⟨h.voice.trans k.voice, h.queue.trans k.queue⟩

theorem MainAlone.kept (h : MainAlone a b) : Kept .main a b := .of_goesOn h.voice h.queue

theorem startVoice_main (u : Utterance) (v : Vks) : MainAlone (startVoice .echo u v) v :=
  ⟨(startVoice_goesOn .echo u v).voices .main, startVoice_waiting .echo .main u v⟩

theorem cutPlayingEcho_main (v : Vks) : MainAlone (cutPlayingEcho v) v := by
  unfold cutPlayingEcho
  split <;> exact ⟨.refl _, rfl⟩

theorem dropWaitingEcho_main (v : Vks) : MainAlone (dropWaitingEcho v) v := by
  unfold dropWaitingEcho
  split
  · exact ⟨.refl _, rfl⟩
  · exact .refl v

theorem setEchoLine_main (u : Option Utterance) (v : Vks) : MainAlone (setEchoLine u v) v := ⟨.refl _, rfl⟩

/-- R109: an arriving echo leaves the main voice's side. -/
theorem placeEcho_main (u : Utterance) (v : Vks) : MainAlone (placeEcho u v) v := by
  have hdrop := dropWaitingEcho_main v
  unfold placeEcho
  simp only
  split
  · split
    · exact (startVoice_main u _).trans hdrop
    · exact (setEchoLine_main _ _).trans hdrop
  · split
    · exact (startVoice_main u _).trans ((cutPlayingEcho_main _).trans hdrop)
    · exact (setEchoLine_main _ _).trans hdrop
  · exact (setEchoLine_main _ _).trans hdrop

/-- R109: an arriving echo is on the echo voice or waiting. -/
theorem placeEcho_holds (u : Utterance) (v : Vks) : ∃ w, Holds .echo (placeEcho u v) w ∧ SameSpeech w u := by
  have hwaits (x : Vks) : ∃ w, Holds .echo (setEchoLine (some u) x) w ∧ SameSpeech w u :=
    ⟨u, .inl (List.mem_singleton.mpr rfl), .refl u⟩
  unfold placeEcho
  simp only
  split
  · split
    · exact startVoice_holds u _
    · exact hwaits _
  · split
    · exact startVoice_holds u _
    · exact hwaits _
  · exact hwaits _

theorem requestEcho_main (item : Item) (v : Vks) : MainAlone (requestEcho item v) v := (placeEcho_main _ _).trans ⟨.refl _, rfl⟩

theorem letterEcho_main (st : EchoStyle) (c : Nat) (v : Vks) : MainAlone (letterEcho st c v) v := by
  cases st with
  | name => exact requestEcho_main _ v
  | sound => exact requestEcho_main _ v
  | none => exact .refl v

theorem takeOverEcho_main (r : Bool) (v : Vks) : MainAlone (takeOverEcho r v) v := by
  unfold takeOverEcho
  split
  · split
    · exact (startVoice_main _ _).trans ((setEchoLine_main _ _).trans (cutPlayingEcho_main v))
    · exact .refl v
  · exact .refl v

theorem takeOverEcho_of_not (v : Vks) : takeOverEcho false v = v := by
  unfold takeOverEcho
  split
  · exact if_neg (by simp)
  · rfl

/-! ### What the obligations say of a held utterance -/

/-- R99, R101: an engine utterance a part holds is on the main voice or waiting. -/
theorem engineQueued_of_holds {v t : Vks} {u w : Utterance} {source : Source} {items : List Item} (h : Holds .main t w)
    (hsame : SameSpeech w u) (hid : u.id = v.sched.nextId) (hsource : u.source = source) (hitems : u.items = items.take 40) :
    EngineQueued v t source items := by
  refine ⟨w, ?_, hsame.1.trans hid, hsame.2.1.trans hsource, hsame.2.2.trans hitems⟩
  rcases h with h | ⟨-, h⟩
  · exact List.mem_append_left _ h
  · refine List.mem_append_right _ ?_
    rw [show t.reader.mainVoice.utterance = some w from h]
    exact List.mem_singleton.mpr rfl

/-- R101, R108: an echo a part holds is on the echo voice or waiting. -/
theorem echoQueued_of_holds {v t : Vks} {u w : Utterance} {item : Item} (h : Holds .echo t w) (hsame : SameSpeech w u)
    (hid : u.id = v.sched.nextId) (hsource : u.source = .echo)
    (hitems : u.items = [if v.reader.store = .claimPending ∨ v.reader.store = .claimed then .tone .click else item]) :
    EchoQueued v t item := by
  refine ⟨w, ?_, hsame.1.trans hid, hsame.2.1.trans hsource, hsame.2.2.trans hitems⟩
  rcases h with h | ⟨-, h⟩
  · exact List.mem_append_left _ h
  · refine List.mem_append_right _ ?_
    rw [show t.reader.echoVoice.utterance = some w from h]
    exact List.mem_singleton.mpr rfl

end Sys2Proof.SpeechKept
end

section
/-! SUPPORT. The Attempt Controller's steps, each said once: a request for speech (R22, R99, R104, R105), the prompt (R23), the
lesson walk (R58), the end of the closing response (R22, R59) and the end of an utterance (R22, R103). -/

namespace Sys2Proof.AttemptSteps

open Sys2Proof.Machine Sys2Proof.EventMoves Sys2Proof.EventFrames Sys2Proof.VoiceFrames Sys2Proof.SpeechKept

/-! ### Requests for speech -/

theorem dropNewestSay_eq_none_iff (q : List Utterance) : dropNewestSay q = none ↔ ∀ y ∈ q, y.source ≠ .say := by
  induction q with
  | nil => simp [dropNewestSay]
  | cons x xs ih =>
    unfold dropNewestSay
    cases htail : dropNewestSay xs with
    | some r =>
      have hsome : ¬ ∀ y ∈ xs, y.source ≠ .say := fun h => by cases htail.symm.trans (ih.mpr h)
      simp only [reduceCtorEq, List.forall_mem_cons, false_iff]
      exact fun h => hsome h.2
    | none =>
      have hnone := ih.mp htail
      simp only [List.forall_mem_cons]
      split
      · next hsay => simp [hsay]
      · next hsay => exact ⟨fun _ => ⟨hsay, hnone⟩, fun _ => rfl⟩

/-- R105: an arriving engine utterance is turned away where 16 engine utterances wait, and only there. -/
theorem placeEngine_turned_iff (u : Utterance) (v : Vks) : (placeEngine u v).2 = true ↔ TurnsAway v := by
  unfold placeEngine TurnsAway
  split
  · next htakes =>
    simp only [Bool.false_eq_true, false_iff]
    rintro ⟨hfull, hengines⟩
    obtain ⟨y, hy⟩ := List.exists_mem_of_length_pos (show 0 < v.sched.queue.length by omega)
    simp only [engineTakesAtOnce, Bool.and_eq_true, List.all_eq_true, decide_eq_true_eq] at htakes
    exact hengines y hy (htakes.1.1 y hy)
  · split
    · next hroom =>
      simp only [Bool.false_eq_true, false_iff]
      rintro ⟨hfull, -⟩
      exact Nat.not_le.mpr hroom hfull
    · next hfull =>
      split
      · next s q hdrop =>
        simp only [Bool.false_eq_true, false_iff]
        rintro ⟨-, hengines⟩
        cases hdrop.symm.trans ((dropNewestSay_eq_none_iff _).mpr hengines)
      · next hnone => exact ⟨fun _ => ⟨Nat.not_lt.mp hfull, (dropNewestSay_eq_none_iff _).mp hnone⟩, fun _ => rfl⟩

/-- R105: a turned away utterance leaves the part. -/
theorem placeEngine_of_turned {u : Utterance} {v : Vks} (h : TurnsAway v) : placeEngine u v = (v, true) := by
  obtain ⟨hfull, hengines⟩ := h
  obtain ⟨y, hy⟩ := List.exists_mem_of_length_pos (show 0 < v.sched.queue.length by omega)
  unfold placeEngine
  rw [if_neg, if_neg (Nat.not_lt.mpr hfull), (dropNewestSay_eq_none_iff _).mpr hengines]
  intro htakes
  simp only [engineTakesAtOnce, Bool.and_eq_true, List.all_eq_true, decide_eq_true_eq] at htakes
  exact hengines y hy (htakes.1.1 y hy)

/-- The part with an identity used and its utterance outstanding, before the utterance is placed (R22, R101). -/
def registered (v : Vks) : Vks :=
  remember v.sched.nextId { stopInactivity v with sched := { v.sched with nextId := nextIdentity v.sched.nextId } }

/-- The utterance a request makes. -/
def engineUtterance (s : Source) (items : List Item) (v : Vks) : Utterance :=
  ⟨v.sched.nextId, s, 0#8, items.take 40, 0, 0, decide (40 < items.length), false, false⟩

theorem registered_turns (v : Vks) : TurnsAway (registered v) ↔ TurnsAway v := .rfl

theorem requestEngine_of_none (s : Source) {parts : List Part} {x : Expansion} {v : Vks} (h : expandAll v x parts = []) :
    requestEngine s parts x v = (stopInactivity v, none) := if_pos h

theorem requestEngine_of_some (s : Source) {parts : List Part} {x : Expansion} {v : Vks} (h : expandAll v x parts ≠ []) :
    requestEngine s parts x v
      = (if (placeEngine (engineUtterance s (expandAll v x parts) v) (registered v)).2 then
          (forget v.sched.nextId (placeEngine (engineUtterance s (expandAll v x parts) v) (registered v)).1, none)
        else ((placeEngine (engineUtterance s (expandAll v x parts) v) (registered v)).1, some v.sched.nextId)) := if_neg h

theorem requestEngine_of_turned (s : Source) {parts : List Part} {x : Expansion} {v : Vks} (h : expandAll v x parts ≠ [])
    (hturned : TurnsAway v) : requestEngine s parts x v = (forget v.sched.nextId (registered v), none) := by
  rw [requestEngine_of_some s h, placeEngine_of_turned ((registered_turns v).mpr hturned)]
  rfl

theorem requestEngine_of_placed (s : Source) {parts : List Part} {x : Expansion} {v : Vks} (h : expandAll v x parts ≠ [])
    (hroom : ¬ TurnsAway v) : requestEngine s parts x v
      = ((placeEngine (engineUtterance s (expandAll v x parts) v) (registered v)).1, some v.sched.nextId) := by
  rw [requestEngine_of_some s h]
  exact if_neg fun hturned => hroom ((registered_turns v).mp ((placeEngine_turned_iff _ _).mp hturned))

/-- What placing an engine utterance leaves of the attempt, the lesson unit and the lamps. -/
theorem placeEngine_bare (u : Utterance) (v : Vks) : Bare (placeEngine u v).1 v := moves_bare (l := 0) (placeEngine_moves u v)

/-- What a request leaves of attempt, lesson and lamps: all but the outstanding set and the inactivity timer (R22, R42). -/
structure OnlyRequests (a b : Vks) : Prop where
  attempt : ∃ outstanding, a.attempt = { b.attempt with
    inactivity := none, ctx := { b.attempt.ctx with outstanding := outstanding } }
  lesson : a.lesson = b.lesson
  correct : a.notices.correct = b.notices.correct
  wrong : a.notices.wrong = b.notices.wrong

theorem requestEngine_only (s : Source) (parts : List Part) (x : Expansion) (v : Vks) : OnlyRequests (requestEngine s parts x v).1 v := by
  by_cases h : expandAll v x parts = []
  · rw [requestEngine_of_none s h]
    exact ⟨⟨_, rfl⟩, rfl, rfl, rfl⟩
  · by_cases hturned : TurnsAway v
    · rw [requestEngine_of_turned s h hturned]
      exact ⟨⟨_, rfl⟩, rfl, rfl, rfl⟩
    · rw [requestEngine_of_placed s h hturned]
      have hb := placeEngine_bare (engineUtterance s (expandAll v x parts) v) (registered v)
      exact ⟨⟨_, hb.attempt⟩, hb.lesson, hb.correct, hb.wrong⟩

/-- R22, R99: a request whose expansion gives nothing, or which is turned away, ends at once. -/
theorem requestEngine_ended (s : Source) {parts : List Part} {x : Expansion} {v : Vks}
    (h : expandAll v x parts = [] ∨ TurnsAway v) : (requestEngine s parts x v).2 = none := by
  by_cases hnone : expandAll v x parts = []
  · rw [requestEngine_of_none s hnone]
  · rw [requestEngine_of_turned s hnone (h.resolve_left hnone)]

/-- R22, R99, R101: any other request is outstanding under the next identity, spoken or waiting. -/
theorem requestEngine_speaks (s : Source) {parts : List Part} {x : Expansion} {v : Vks} (h : expandAll v x parts ≠ [])
    (hroom : ¬ TurnsAway v) (hsay : s ≠ .say) :
    (requestEngine s parts x v).2 = some v.sched.nextId
    ∧ (requestEngine s parts x v).1.attempt.ctx.outstanding
      = v.attempt.ctx.outstanding.filter (fun y => y ≠ v.sched.nextId) ++ [v.sched.nextId]
    ∧ ∃ w, Holds .main (requestEngine s parts x v).1 w ∧ w.source ≠ .say
        ∧ SameSpeech w (engineUtterance s (expandAll v x parts) v) := by
  rw [requestEngine_of_placed s h hroom]
  refine ⟨rfl, ?_, ?_⟩
  · have hb := placeEngine_bare (engineUtterance s (expandAll v x parts) v) (registered v)
    rw [show (placeEngine (engineUtterance s (expandAll v x parts) v) (registered v)).1.attempt = _ from hb.attempt]
    rfl
  · obtain ⟨w, hw, hsame⟩ := placeEngine_holds (engineUtterance s (expandAll v x parts) v) (registered v)
      (Bool.eq_false_iff.mpr fun hturned => hroom ((registered_turns v).mp ((placeEngine_turned_iff _ _).mp hturned)))
    exact ⟨w, hw, by rw [hsame.2.1]; exact hsay, hsame⟩

/-! ### What a start raises (R124) -/

theorem startVoice_quiet (i : VoiceId) (u : Utterance) (v : Vks) (hamp : v.power.amp ≠ .on) (hwarmup : v.params.ampWarmup ≠ 0) :
    (startVoice i u v).notices = v.notices := by
  unfold startVoice
  simp only [if_neg hamp]
  unfold askAmp
  split
  · rw [if_neg (by cases i <;> exact hwarmup)]
    cases i <;> rfl
  · cases i <;> rfl

/-- With the amplifier not ON and room in the queue a request raises nothing. -/
theorem requestEngine_quiet (s : Source) (parts : List Part) (x : Expansion) (v : Vks) (hamp : v.power.amp ≠ .on)
    (hwarmup : v.params.ampWarmup ≠ 0) (hroom : v.sched.queue.length < 16) :
    (requestEngine s parts x v).1.notices = v.notices := by
  by_cases h : expandAll v x parts = []
  · rw [requestEngine_of_none s h]
    rfl
  · rw [requestEngine_of_placed s h fun hturned => Nat.not_le.mpr hroom hturned.1]
    unfold placeEngine
    split
    · exact startVoice_quiet .main _ (registered v) hamp hwarmup
    · rw [if_pos (show (registered v).sched.queue.length < Config.queuePlaces from hroom)]
      rfl

/-! ### The prompt (R23, R28) -/

/-- The items of the attempt's prompt (R97). -/
def promptItems (v : Vks) : List Item := expandAll v (attemptExpansion v 0 none) (promptParts v)

/-- What the prompt's request leaves of the attempt. -/
theorem requestPrompt_attempt (v : Vks) : (requestPrompt v).1.attempt.state = .prompting
    ∧ (requestPrompt v).1.attempt.shelf = v.attempt.shelf
    ∧ (∃ awaited outstanding, (requestPrompt v).1.attempt.ctx
        = { v.attempt.ctx with awaited := awaited, outstanding := outstanding })
    ∧ (requestPrompt v).1.lesson = v.lesson := by
  obtain ⟨⟨outstanding, hattempt⟩, hlesson, -, -⟩ := requestEngine_only .prompt (promptParts v) (attemptExpansion v 0 none) v
  refine ⟨rfl, ?_, ⟨(requestPrompt v).1.attempt.ctx.awaited, outstanding, ?_⟩, hlesson⟩
  · show (requestEngine .prompt (promptParts v) (attemptExpansion v 0 none) v).1.attempt.shelf = _
    rw [hattempt]
  · show { (requestEngine .prompt (promptParts v) (attemptExpansion v 0 none) v).1.attempt.ctx with
      awaited := (requestPrompt v).1.attempt.ctx.awaited } = _
    rw [hattempt]

/-- R23: a prompt that ends at once is not awaited. -/
theorem requestPrompt_ended {v : Vks} (h : promptItems v = [] ∨ TurnsAway v) :
    (requestPrompt v).2 = true ∧ (requestPrompt v).1.attempt.ctx.awaited = none := by
  have hend := requestEngine_ended .prompt h
  exact ⟨by rw [requestPrompt, hend]; rfl, by rw [requestPrompt, hend]; rfl⟩

/-- R23: any other prompt is awaited, spoken or waiting. -/
theorem requestPrompt_speaks {v : Vks} (h : promptItems v ≠ []) (hroom : ¬ TurnsAway v) :
    (requestPrompt v).2 = false ∧ (requestPrompt v).1.attempt.ctx.awaited = some (.prompt, v.sched.nextId)
    ∧ (requestPrompt v).1.attempt.ctx.outstanding
      = v.attempt.ctx.outstanding.filter (fun y => y ≠ v.sched.nextId) ++ [v.sched.nextId]
    ∧ ∃ w, Holds .main (requestPrompt v).1 w ∧ w.source ≠ .say ∧ SameSpeech w (engineUtterance .prompt (promptItems v) v) := by
  obtain ⟨hid, houtstanding, w, hw, hsource, hsame⟩ := requestEngine_speaks .prompt h hroom (by decide)
  refine ⟨by rw [requestPrompt, hid]; rfl, by rw [requestPrompt, hid]; rfl, houtstanding, w, hw, hsource, hsame⟩

theorem requestPrompt_awaits (v : Vks) : ((requestPrompt v).2 = true ∧ (requestPrompt v).1.attempt.ctx.awaited = none)
    ∨ ((requestPrompt v).2 = false ∧ (requestPrompt v).1.attempt.ctx.awaited = some (.prompt, v.sched.nextId)) := by
  by_cases h : promptItems v = [] ∨ TurnsAway v
  · exact .inl (requestPrompt_ended h)
  · obtain ⟨h1, h2, -⟩ := requestPrompt_speaks (fun hn => h (.inl hn)) (fun hn => h (.inr hn))
    exact .inr ⟨h1, h2⟩

/-- R23, R49: what the beginning of the prompt leaves of the attempt and the lesson unit. -/
structure Begins (a b : Vks) : Prop where
  state : a.attempt.state = .prompting ∨ a.attempt.state = .listening
  shelf : a.attempt.shelf = b.attempt.shelf
  ctx : ∃ awaited outstanding, a.attempt.ctx = { b.attempt.ctx with awaited := awaited, outstanding := outstanding }
  awaits : a.attempt.ctx.awaited = none ∨ a.attempt.ctx.awaited = some (.prompt, b.sched.nextId)
  lesson : a.lesson = b.lesson

theorem beginPrompting_begins (v : Vks) : Begins (beginPrompting v) v := by
  obtain ⟨hstate, hshelf, ⟨awaited, outstanding, hctx⟩, hlesson⟩ := requestPrompt_attempt v
  unfold beginPrompting
  rcases requestPrompt_awaits v with ⟨hend, hawaits⟩ | ⟨hend, hawaits⟩
  · simp only [hend, if_true]
    exact ⟨.inr rfl, by simpa [setAttemptState] using hshelf, ⟨awaited, outstanding, by simpa [setAttemptState] using hctx⟩,
      .inl (by simpa [setAttemptState] using hawaits), by simpa [setAttemptState] using hlesson⟩
  · simp only [hend, Bool.false_eq_true, if_false]
    exact ⟨.inl (by simpa using hstate), by simpa using hshelf, ⟨awaited, outstanding, by simpa using hctx⟩,
      .inr (by simpa using hawaits), by simpa using hlesson⟩

/-- R23: a prompt that is not over at once. -/
theorem beginPrompting_speaks {v : Vks} (h : promptItems v ≠ []) (hroom : ¬ TurnsAway v) :
    (beginPrompting v).attempt.state = .prompting
    ∧ (beginPrompting v).attempt.ctx.awaited = some (.prompt, v.sched.nextId)
    ∧ (beginPrompting v).attempt.ctx.outstanding
      = v.attempt.ctx.outstanding.filter (fun y => y ≠ v.sched.nextId) ++ [v.sched.nextId]
    ∧ ∃ w, Holds .main (beginPrompting v) w ∧ w.source ≠ .say ∧ SameSpeech w (engineUtterance .prompt (promptItems v) v) := by
  obtain ⟨hend, hawaits, houtstanding, w, hw, hsource, hsame⟩ := requestPrompt_speaks h hroom
  have heq : beginPrompting v = raiseNotice (openedNotice (requestPrompt v).1.attempt.ctx) (requestPrompt v).1 := by
    simp only [beginPrompting, hend, Bool.false_eq_true, if_false]
  obtain ⟨y, hy, hsame'⟩ := (raiseNotice_kept (i := .main) (openedNotice (requestPrompt v).1.attempt.ctx)
    (requestPrompt v).1).holds w hsource hw
  rw [heq, raiseNotice_attempt]
  exact ⟨(requestPrompt_attempt v).1, hawaits, houtstanding, y, hy, by rw [hsame'.2.1]; exact hsource, hsame'.trans hsame⟩

/-- R23: the notice of an opened attempt, stated where nothing is raised before it. -/
theorem beginPrompting_told (v : Vks) (hamp : v.power.amp ≠ .on) (hwarmup : v.params.ampWarmup ≠ 0)
    (hroom : v.sched.queue.length < 16) (hnotices : v.notices.queue.length < 16) :
    (beginPrompting v).notices.queue = v.notices.queue ++ [openedNotice v.attempt.ctx] := by
  obtain ⟨-, -, ⟨awaited, outstanding, hctx⟩, -⟩ := requestPrompt_attempt v
  have hquiet : (requestPrompt v).1.notices = v.notices :=
    requestEngine_quiet .prompt (promptParts v) (attemptExpansion v 0 none) v hamp hwarmup hroom
  have hnotice : openedNotice (requestPrompt v).1.attempt.ctx = openedNotice v.attempt.ctx := by
    rw [hctx]
    rfl
  have hraised := raiseNotice_queue (openedNotice v.attempt.ctx) (requestPrompt v).1 (by rw [hquiet]; exact hnotices)
  rw [hquiet] at hraised
  unfold beginPrompting
  simp only [hnotice]
  split
  · exact hraised
  · exact hraised

end Sys2Proof.AttemptSteps
end

section
/-! SUPPORT. How attempts end: the lesson walk (R58), the end of the closing response (R22, R45, R59), the end of an utterance
(R22, R103), the close (R36, R37) and the failed try (R35). -/

namespace Sys2Proof.AttemptEnds

open Sys2Proof.Machine Sys2Proof.EventMoves Sys2Proof.EventFrames Sys2Proof.VoiceFrames Sys2Proof.SpeechKept
  Sys2Proof.AttemptSteps Sys2Proof.Stores

/-! ### The lesson walk (R58) -/

theorem walkTo_valid (v : Vks) (bad : List LessonEntry) (e : LessonEntry) (rest : List LessonEntry) (n : Nat)
    (hbad : ∀ b ∈ bad, v.entry b.word = none) (hvalid : (v.entry e.word).isSome) :
    walkTo v (bad ++ e :: rest) n = (some e, rest, n + bad.length) := by
  induction bad generalizing n with
  | nil => rw [List.nil_append, walkTo, if_pos hvalid]; rfl
  | cons b bad ih =>
    rw [List.cons_append, walkTo, if_neg (by rw [hbad b List.mem_cons_self]; decide),
      ih (n + 1) (fun b hb => hbad b (List.mem_cons_of_mem _ hb)), List.length_cons]
    congr 2
    omega

theorem walkTo_none (v : Vks) (es : List LessonEntry) (n : Nat) (hbad : ∀ b ∈ es, v.entry b.word = none) :
    walkTo v es n = (none, [], n + es.length) := by
  induction es generalizing n with
  | nil => rfl
  | cons b es ih =>
    rw [walkTo, if_neg (by rw [hbad b List.mem_cons_self]; decide), ih (n + 1) (fun b hb => hbad b (List.mem_cons_of_mem _ hb)),
      List.length_cons]
    congr 2
    omega

/-- Every list holds a first valid word or none. -/
theorem first_valid (v : Vks) (es : List LessonEntry) : (∀ b ∈ es, v.entry b.word = none)
    ∨ ∃ bad e rest x, es = bad ++ e :: rest ∧ (∀ b ∈ bad, v.entry b.word = none) ∧ v.entry e.word = some x := by
  induction es with
  | nil => exact .inl fun b hb => absurd hb List.not_mem_nil
  | cons b es ih =>
    cases hb : v.entry b.word with
    | some x => exact .inr ⟨[], b, es, x, rfl, fun _ h => absurd h List.not_mem_nil, hb⟩
    | none =>
      rcases ih with ih | ⟨bad, e, rest, x, rfl, hbad, hvalid⟩
      · exact .inl (List.forall_mem_cons.mpr ⟨hb, ih⟩)
      · exact .inr ⟨b :: bad, e, rest, x, rfl, List.forall_mem_cons.mpr ⟨hb, hbad⟩, hvalid⟩

/-- R23: the part as an attempt at a valid word has been opened, before its prompt. -/
def opening (w : Nat) (e : WordEntry) (origin : Origin) (mode : Option CheckMode) (v : Vks) : Vks :=
  setContext (openedContext w e origin mode) (stopGap v)

theorem openAttempt_of_valid {v : Vks} {w : Nat} {e : WordEntry} (origin : Origin) (mode : Option CheckMode)
    (h : v.entry w = some e) : openAttempt w origin mode v = beginPrompting (opening w e origin mode v) := by
  rw [openAttempt, h]
  rfl

theorem lessonWalk_of_valid {v : Vks} {bad rest : List LessonEntry} {e : LessonEntry} {x : WordEntry}
    (hentries : v.lesson.entries = bad ++ e :: rest) (hbad : ∀ b ∈ bad, v.entry b.word = none) (hvalid : v.entry e.word = some x) :
    lessonWalk v = beginPrompting (opening e.word x (.lesson e.retries) none
      { v with lesson := { v.lesson with entries := rest, gapTimer := none } }) := by
  rw [lessonWalk, hentries, walkTo_valid v bad e rest 0 hbad (by rw [hvalid]; rfl)]
  exact openAttempt_of_valid _ _ hvalid

theorem lessonWalk_of_none {v : Vks} (hbad : ∀ b ∈ v.lesson.entries, v.entry b.word = none) :
    lessonWalk v = raiseNotice (.lessonEmpty v.lesson.entries.length) (setAttemptState .idle
      { v with lesson := { v.lesson with entries := [], auto := false, gapTimer := none } }) := by
  rw [lessonWalk, walkTo_none v _ 0 hbad, Nat.zero_add]

theorem lessonWalk_takes (v : Vks) : TakesNextWord v (lessonWalk v) v.lesson where
  opens bad e rest x hentries hbad hvalid := by
    rw [lessonWalk_of_valid hentries hbad hvalid]
    obtain ⟨hstate, -, ⟨awaited, outstanding, hctx⟩, -, hlesson⟩ := beginPrompting_begins
      (opening e.word x (.lesson e.retries) none { v with lesson := { v.lesson with entries := rest, gapTimer := none } })
    rw [hctx]
    exact ⟨hlesson, hstate, rfl, rfl, rfl⟩
  empties hbad := by
    rw [lessonWalk_of_none hbad, raiseNotice_attempt, raiseNotice_lesson]
    exact ⟨rfl, rfl⟩

/-- The state of the attempt after a walk: a prompt it awaits at most, or IDLE as it was. -/
theorem lessonWalk_awaits (v : Vks) :
    (((lessonWalk v).attempt.state = .prompting ∨ (lessonWalk v).attempt.state = .listening)
      ∧ ∀ k id, (lessonWalk v).attempt.ctx.awaited = some (k, id) → k = .prompt)
    ∨ (lessonWalk v).attempt.ctx = v.attempt.ctx := by
  rcases first_valid v v.lesson.entries with hnone | ⟨bad, e, rest, x, hentries, hbad, hvalid⟩
  · rw [lessonWalk_of_none hnone, raiseNotice_attempt]
    exact .inr rfl
  · rw [lessonWalk_of_valid hentries hbad hvalid]
    obtain ⟨hstate, -, -, hawaits, -⟩ := beginPrompting_begins
      (opening e.word x (.lesson e.retries) none { v with lesson := { v.lesson with entries := rest, gapTimer := none } })
    refine .inl ⟨hstate, fun k id h => ?_⟩
    rcases hawaits with hnone | hprompt
    · cases hnone.symm.trans h
    · cases hprompt.symm.trans h
      rfl

theorem takesNextWord_of_words {v x t : Vks} {l : LessonUnit} (hwords : v.words = x.words) (h : TakesNextWord x t l) :
    TakesNextWord v t l := by
  have hentry (w : Nat) : v.entry w = x.entry w := by rw [Vks.entry, hwords]; rfl
  obtain ⟨hopens, hempties⟩ := h
  exact ⟨fun bad e rest y hl hbad hvalid => hopens bad e rest y hl (fun b hb => (hentry _).symm.trans (hbad b hb))
    ((hentry _).symm.trans hvalid), fun hbad => hempties fun b hb => (hentry _).symm.trans (hbad b hb)⟩

/-! ### The end of the closing response (R22, R45, R59) -/

/-- The closing response has ended, and whatever the attempt awaits now is a prompt of the next word. -/
structure AfterClosing (v t : Vks) (l : LessonUnit) (c : Context) : Prop where
  leaves : LeavesClosing v t l c
  quiet : (t.attempt.state = .prompting ∨ t.attempt.state = .listening) ∨ t.attempt.ctx.outstanding = []
  awaits : ∀ k id, t.attempt.ctx.awaited = some (k, id) → k = .prompt

theorem closingEnded_of_off {v : Vks} (h : v.lesson.auto = false) : closingEnded v
    = setAttemptState .idle (setContext { v.attempt.ctx with awaited := none, outstanding := [] } v) :=
  if_neg (show ¬ v.lesson.auto = true by rw [h]; decide)

theorem closingEnded_of_gap {v : Vks} (h : v.lesson.auto = true) (hgap : v.params.interWordGap ≠ 0) : closingEnded v
    = { setAttemptState .gap (setContext { v.attempt.ctx with awaited := none, outstanding := [] } v) with
        lesson := { v.lesson with gapTimer := some v.params.interWordGap } } :=
  (if_pos h).trans (if_neg hgap)

theorem closingEnded_of_no_gap {v : Vks} (h : v.lesson.auto = true) (hgap : v.params.interWordGap = 0) : closingEnded v
    = lessonWalk (setAttemptState .gap (setContext { v.attempt.ctx with awaited := none, outstanding := [] } v)) :=
  (if_pos h).trans (if_pos hgap)

/-- R22, R45, R59: the end of the closing response, on a part with the tables, the parameters, the lesson unit and, outstanding
set and awaited utterance aside, the context given. -/
theorem closingEnded_after {v x : Vks} {l : LessonUnit} {c : Context} {awaited : Option (AwaitKind × Nat)} {outstanding : List Nat}
    (hwords : x.words = v.words) (hparams : x.params = v.params) (hlesson : x.lesson = l)
    (hctx : x.attempt.ctx = { c with awaited := awaited, outstanding := outstanding }) : AfterClosing v (closingEnded x) l c := by
  have hcleared : { x.attempt.ctx with awaited := none, outstanding := [] } = { c with awaited := none, outstanding := [] } := by
    rw [hctx]
  cases hauto : x.lesson.auto with
  | false =>
    rw [closingEnded_of_off hauto, hcleared]
    refine ⟨⟨fun _ => ⟨rfl, hlesson, rfl⟩, fun h => ?_, fun h => ?_⟩, .inr rfl, fun k id h => by cases h⟩
    · rw [hlesson, h] at hauto
      cases hauto
    · rw [hlesson, h] at hauto
      cases hauto
  | true =>
    have hon : l.auto = false → False := fun h => by
      rw [hlesson, h] at hauto
      cases hauto
    by_cases hgap : x.params.interWordGap = 0
    · rw [closingEnded_of_no_gap hauto hgap, hcleared]
      generalize hpart : setAttemptState .gap (setContext { c with awaited := none, outstanding := [] } x) = y
      have hctx' : y.attempt.ctx = { c with awaited := none, outstanding := [] } := by rw [← hpart]; rfl
      have htakes := lessonWalk_takes y
      rw [show y.lesson = l by rw [← hpart]; exact hlesson] at htakes
      refine ⟨⟨fun h => (hon h).elim, fun _ h => ?_, fun _ _ => takesNextWord_of_words (by rw [← hpart]; exact hwords.symm) htakes⟩, ?_, ?_⟩
      · rw [hparams] at hgap
        exact absurd hgap h
      · exact (lessonWalk_awaits y).imp (fun h => h.1) fun h => by rw [h, hctx']
      · rcases lessonWalk_awaits y with ⟨-, h⟩ | h
        · exact h
        · rw [h, hctx']
          exact fun k id h => by cases h
    · rw [closingEnded_of_gap hauto hgap, hcleared]
      refine ⟨⟨fun h => (hon h).elim, fun _ _ => ⟨rfl, ?_, rfl⟩, fun _ h => ?_⟩, .inr rfl, fun k id h => by cases h⟩
      · show { x.lesson with gapTimer := some x.params.interWordGap } = _
        rw [hlesson, hparams]
      · rw [hparams] at hgap
        exact absurd h hgap

/-- What a part says of a closing's end is its state, context and lesson unit. -/
theorem leavesClosing_of_same {v t t' : Vks} {l : LessonUnit} {c : Context} (hstate : t'.attempt.state = t.attempt.state)
    (hctx : t'.attempt.ctx = t.attempt.ctx) (hlesson : t'.lesson = t.lesson) (h : LeavesClosing v t l c) : LeavesClosing v t' l c where
  idle hauto := by rw [hstate, hctx, hlesson]; exact h.idle hauto
  gap hauto hgap := by rw [hstate, hctx, hlesson]; exact h.gap hauto hgap
  walk hauto hgap := by
    obtain ⟨hopens, hempties⟩ := h.walk hauto hgap
    constructor <;> rw [hstate, hlesson]
    · rw [hctx]
      exact hopens
    · exact hempties

/-- The prompt and the walk leave the two lamp timers. -/
theorem beginPrompting_lamps (v : Vks) : (beginPrompting v).notices.correct = v.notices.correct
    ∧ (beginPrompting v).notices.wrong = v.notices.wrong := by
  obtain ⟨-, -, hcorrect, hwrong⟩ := requestEngine_only .prompt (promptParts v) (attemptExpansion v 0 none) v
  have hraised := raiseNotice_untouched (openedNotice (requestPrompt v).1.attempt.ctx) (requestPrompt v).1
  unfold beginPrompting
  simp only
  split
  · exact ⟨hraised.correct.trans hcorrect, hraised.wrong.trans hwrong⟩
  · exact ⟨hraised.correct.trans hcorrect, hraised.wrong.trans hwrong⟩

theorem closingEnded_lamps (v : Vks) : (closingEnded v).notices.correct = v.notices.correct
    ∧ (closingEnded v).notices.wrong = v.notices.wrong := by
  have hwalk (y : Vks) : (lessonWalk y).notices.correct = y.notices.correct ∧ (lessonWalk y).notices.wrong = y.notices.wrong := by
    rcases first_valid y y.lesson.entries with hnone | ⟨bad, e, rest, x, hentries, hbad, hvalid⟩
    · rw [lessonWalk_of_none hnone]
      exact ⟨(raiseNotice_untouched _ _).correct, (raiseNotice_untouched _ _).wrong⟩
    · rw [lessonWalk_of_valid hentries hbad hvalid]
      exact beginPrompting_lamps _
  unfold closingEnded
  simp only
  split
  · split
    · exact hwalk _
    · exact ⟨rfl, rfl⟩
  · exact ⟨rfl, rfl⟩

/-! ### The end of an utterance (R22, R103) -/

theorem reportEnd_of_say {o : UttOutcome} {v : Vks} {u : Utterance} (h : u.source = .say) :
    reportEnd o v u = raiseNotice (doneNotice u o) v := if_pos h

theorem reportEnd_of_engine {o : UttOutcome} {v : Vks} {u : Utterance} (h : u.source ≠ .say) : reportEnd o v u = endReport u.id v :=
  if_neg h

/-- The part after an outstanding utterance's end, before the step it was awaited for (R22). -/
theorem endReport_of_awaited {v : Vks} {id : Nat} {k : AwaitKind} (h : id ∈ v.attempt.ctx.outstanding)
    (hawaited : v.attempt.ctx.awaited = some (k, id)) : endReport id v = awaitedStep k (setAwaited none (forget id v)) := by
  unfold endReport
  rw [if_pos h]
  simp only [show (forget id v).attempt.ctx.awaited = some (k, id) from hawaited, if_true]

theorem endReport_of_unawaited {v : Vks} {id : Nat} (h : id ∈ v.attempt.ctx.outstanding)
    (hawaited : ∀ k, v.attempt.ctx.awaited ≠ some (k, id)) : endReport id v = forget id v := by
  unfold endReport
  rw [if_pos h]
  cases ha : v.attempt.ctx.awaited with
  | none => simp only [show (forget id v).attempt.ctx.awaited = none from ha]
  | some r =>
    obtain ⟨k, a⟩ := r
    simp only [show (forget id v).attempt.ctx.awaited = some (k, a) from ha]
    exact if_neg fun heq => hawaited k (by rw [ha, heq])

/-- Once the closing response has ended, no other end takes the attempt out of what `LeavesClosing` says. -/
theorem endReport_after {v t : Vks} {l : LessonUnit} {c : Context} (id : Nat) (h : AfterClosing v t l c) :
    AfterClosing v (endReport id t) l c := by
  by_cases hout : id ∈ t.attempt.ctx.outstanding
  · have hopen : t.attempt.state = .prompting ∨ t.attempt.state = .listening :=
      h.quiet.resolve_right fun hnone => by rw [hnone] at hout; exact absurd hout List.not_mem_nil
    have hnotIdle : t.attempt.state ≠ .idle := by rcases hopen with h | h <;> rw [h] <;> decide
    have hnotGap : t.attempt.state ≠ .gap := by rcases hopen with h | h <;> rw [h] <;> decide
    have hmoved (s : Vks) (hs : s.attempt.state = .prompting ∨ s.attempt.state = .listening) (hlesson : s.lesson = t.lesson)
        (hctx : ∃ a o, s.attempt.ctx = { t.attempt.ctx with awaited := a, outstanding := o }) : LeavesClosing v s l c := by
      obtain ⟨a, o, hctx⟩ := hctx
      refine ⟨fun hauto => absurd (h.leaves.idle hauto).1 hnotIdle, fun hauto hgap => absurd (h.leaves.gap hauto hgap).1 hnotGap,
        fun hauto hgap => ⟨fun bad e rest x hl hbad hvalid => ?_, fun hbad => ?_⟩⟩
      · obtain ⟨ht, -, hw, ho, hset⟩ := (h.leaves.walk hauto hgap).opens bad e rest x hl hbad hvalid
        rw [hctx, hlesson]
        exact ⟨ht, hs, hw, ho, hset⟩
      · exact absurd ((h.leaves.walk hauto hgap).empties hbad).2 hnotIdle
    by_cases hawaited : ∃ k, t.attempt.ctx.awaited = some (k, id)
    · obtain ⟨k, hk⟩ := hawaited
      obtain rfl := h.awaits k id hk
      rw [endReport_of_awaited hout hk]
      exact ⟨hmoved _ (.inr rfl) rfl ⟨_, _, rfl⟩, .inl (.inr rfl), fun k id h => by cases h⟩
    · rw [endReport_of_unawaited hout fun k hk => hawaited ⟨k, hk⟩]
      exact ⟨hmoved _ hopen rfl ⟨_, _, rfl⟩, .inl hopen, h.awaits⟩
  · rw [endReport_of_not_outstanding id t hout]
    exact h

theorem reportEnds_after {v t : Vks} {l : LessonUnit} {c : Context} (o : UttOutcome) (us : List Utterance) (h : AfterClosing v t l c) :
    AfterClosing v (reportEnds o us t) l c := by
  unfold reportEnds
  induction us generalizing t with
  | nil => exact h
  | cons u us ih =>
    refine ih ?_
    by_cases hsay : u.source = .say
    · rw [reportEnd_of_say hsay]
      refine ⟨leavesClosing_of_same ?_ ?_ ?_ h.leaves, ?_, ?_⟩
      · rw [raiseNotice_attempt]
      · rw [raiseNotice_attempt]
      · rw [raiseNotice_lesson]
      · rw [raiseNotice_attempt]
        exact h.quiet
      · rw [raiseNotice_attempt]
        exact h.awaits
    · rw [reportEnd_of_engine hsay]
      exact endReport_after u.id h

/-- R22: the end of an outstanding closing response. -/
theorem endReport_closing {v : Vks} {id : Nat} (h : id ∈ v.attempt.ctx.outstanding)
    (hawaited : v.attempt.ctx.awaited = some (.closing, id)) : AfterClosing v (endReport id v) v.lesson v.attempt.ctx := by
  rw [endReport_of_awaited h hawaited]
  exact closingEnded_after rfl rfl rfl rfl

/-! ### The close (R36, R37) and the failed try (R35) -/

theorem expandAll_congr {a b : Vks} (h : a.words = b.words) (x : Expansion) (parts : List Part) :
    expandAll a x parts = expandAll b x parts := by
  have hletter (c : Nat) : a.letter c = b.letter c := by rw [Vks.letter, Vks.letter, h]
  have hname : nameItem a = nameItem b := funext fun c => by rw [nameItem, nameItem, hletter]
  have hsound : soundItem a = soundItem b := funext fun c => by rw [soundItem, soundItem, hletter]
  have hspell : spell a = spell b := funext fun l => by rw [spell, spell, hname]
  have htarget : targetSound a = targetSound b := by
    funext e p c
    rw [targetSound, targetSound, hsound]
  have hpart : expandPart a x = expandPart b x := by
    funext part
    cases part <;> simp only [expandPart, hname, hsound, hspell, htarget]
  rw [expandAll, expandAll, hpart]

/-- What a close or a failed try needs of the part it begins with, against the part the press found: the same tables, lesson unit
and waiting utterances, and, where the amplifier has to warm up, no notice more. -/
structure SameGround (x v : Vks) : Prop where
  outside : OutsideAttempt x v
  lesson : x.lesson = v.lesson
  queue : x.sched.queue = v.sched.queue
  nextNotices : v.power.amp ≠ .on → v.params.ampWarmup ≠ 0 → x.power.amp ≠ .on ∧ x.notices.queue = v.notices.queue

theorem SameGround.refl (v : Vks) : SameGround v v := ⟨.refl v, rfl, rfl, fun h _ => ⟨h, rfl⟩⟩

theorem SameGround.trans {a b c : Vks} (h : SameGround a b) (k : SameGround b c) : SameGround a c where
  outside := h.outside.trans k.outside
  lesson := h.lesson.trans k.lesson
  queue := h.queue.trans k.queue
  nextNotices hamp hwarmup := by
    obtain ⟨hb, hnb⟩ := k.nextNotices hamp hwarmup
    obtain ⟨ha, hna⟩ := h.nextNotices hb (by rw [k.outside.params]; exact hwarmup)
    exact ⟨ha, hna.trans hnb⟩

theorem SameGround.entry {x v : Vks} (h : SameGround x v) (w : Nat) : x.entry w = v.entry w := by
  rw [Vks.entry, h.outside.words]
  rfl

theorem SameGround.row {x v : Vks} (h : SameGround x v) (r : Nat) : x.row r = v.row r := by
  rw [Vks.row, h.outside.rows]
  rfl

theorem SameGround.turns {x v : Vks} (h : SameGround x v) : TurnsAway x ↔ TurnsAway v := by
  rw [TurnsAway, TurnsAway, h.queue]

/-- The context of an attempt that has been closed (R36, R37). -/
def closedContext (verdict : Verdict) (p : Nat) (c : Context) : Context :=
  { c with verdict := some verdict, verdictPosition := p, closed := true }

/-- The closing response's request (R36, R37). -/
def closingRequest (verdict : Verdict) (p : Nat) (v : Vks) : Vks × Option Nat :=
  requestEngine .response (v.row (closeRow verdict (closeClass verdict v.attempt.ctx)))
    ⟨v.entry v.attempt.ctx.word, v.attempt.ctx.buffer, p, some verdict⟩ (setContext (closedContext verdict p v.attempt.ctx) v)

/-- The part of a close before an ended closing response is acted on (R37). -/
def closedPart (verdict : Verdict) (p : Nat) (v : Vks) : Vks :=
  let r := closingRequest verdict p v
  let v2 := setAwaited (r.2.map (fun id => (.closing, id))) r.1
  let v3 := raiseNotice (closedNotice v2.attempt.ctx) v2
  let v4 := countClose v3.attempt.ctx.word verdict (closeClass verdict v.attempt.ctx) v3.attempt.ctx.origin v3
  let v5 := setAttemptState .responding v4
  if verdict = .exact then startCorrect v5 else startWrong v5

theorem closeAttempt_eq (verdict : Verdict) (p : Nat) (v : Vks) : closeAttempt verdict p v
    = if (closingRequest verdict p v).2.isNone then closingEnded (closedPart verdict p v) else closedPart verdict p v := rfl

theorem closeAttempt_of_ended {verdict : Verdict} {p : Nat} {v : Vks} (h : (closingRequest verdict p v).2 = none) :
    closeAttempt verdict p v = closingEnded (closedPart verdict p v) := by
  rw [closeAttempt_eq, h]
  rfl

theorem closeAttempt_of_spoken {verdict : Verdict} {p : Nat} {v : Vks} {id : Nat} (h : (closingRequest verdict p v).2 = some id) :
    closeAttempt verdict p v = closedPart verdict p v := by
  rw [closeAttempt_eq, h]
  rfl

/-- The count of a close reads the records and the known streak alone (R63, R64, R71). -/
theorem countClose_congr {a b : Vks} (w : Nat) (verdict : Verdict) (cls : CloseClass) (origin : Origin) (hlesson : a.lesson = b.lesson)
    (hparams : a.params = b.params) : (countClose w verdict cls origin a).lesson = (countClose w verdict cls origin b).lesson := by
  have hrecord : a.record w = b.record w := by rw [Vks.record, hlesson]; rfl
  unfold countClose
  simp only [hrecord, hparams]
  split
  · simp only [hlesson]
  · simp only [raiseNotice_lesson, hlesson]

/-- What the close leaves of attempt and lesson unit before an ended closing response is acted on. -/
theorem closedPart_frame (verdict : Verdict) (p : Nat) (v : Vks) :
    (closedPart verdict p v).attempt.state = .responding
    ∧ (closedPart verdict p v).attempt.shelf = v.attempt.shelf
    ∧ (closedPart verdict p v).attempt.ctx = { closedContext verdict p v.attempt.ctx with
        awaited := (closingRequest verdict p v).2.map (fun id => (.closing, id))
        outstanding := (closingRequest verdict p v).1.attempt.ctx.outstanding }
    ∧ (closedPart verdict p v).lesson
        = (countClose v.attempt.ctx.word verdict (closeClass verdict v.attempt.ctx) v.attempt.ctx.origin v).lesson
    ∧ OutsideAttempt (closedPart verdict p v) v
    ∧ ((verdict = .exact → (closedPart verdict p v).notices.correct = some 1000)
      ∧ (verdict ≠ .exact → (closedPart verdict p v).notices.wrong = some 1000)) := by
  obtain ⟨⟨outstanding, hattempt⟩, hlesson, -, -⟩ := requestEngine_only .response
    (v.row (closeRow verdict (closeClass verdict v.attempt.ctx))) ⟨v.entry v.attempt.ctx.word, v.attempt.ctx.buffer, p, some verdict⟩
    (setContext (closedContext verdict p v.attempt.ctx) v)
  replace hattempt : (closingRequest verdict p v).1.attempt = _ := hattempt
  replace hlesson : (closingRequest verdict p v).1.lesson = v.lesson := hlesson
  have hparams : (closingRequest verdict p v).1.params = v.params := (requestEngine_outside _ _ _ _).params
  have hcount (x : Vks) (w : Nat) (o : Origin) : (countClose w verdict (closeClass verdict v.attempt.ctx) o x).attempt = x.attempt :=
    (Grading.countClose_lists x w verdict (closeClass verdict v.attempt.ctx) o).2.2.2.2
  have houtside : OutsideAttempt (closedPart verdict p v) v := by
    unfold closedPart
    extract_lets r v2 v3 v4 v5
    have h5 : OutsideAttempt v5 v := (setAttemptState_outside _ v4).trans ((countClose_outside _ _ _ _ v3).trans
      ((raiseNotice_untouched _ v2).outside.trans ((setAwaited_outside _ _).trans ((requestEngine_outside _ _ _ _).trans
        (setContext_outside _ v)))))
    split
    · exact (startCorrect_outside v5).trans h5
    · exact (startWrong_outside v5).trans h5
  have hpart : (closedPart verdict p v).attempt = { v.attempt with
      state := .responding, inactivity := none
      ctx := { closedContext verdict p v.attempt.ctx with
        awaited := (closingRequest verdict p v).2.map (fun id => (.closing, id))
        outstanding := (closingRequest verdict p v).1.attempt.ctx.outstanding } } := by
    unfold closedPart
    simp only
    split <;> simp [startCorrect, startWrong, setAttemptState, hcount, setAwaited, setContext, hattempt]
  refine ⟨by rw [hpart], by rw [hpart], by rw [hpart], ?_, houtside, fun h => ?_, fun h => ?_⟩
  · have hctx : (closingRequest verdict p v).1.attempt.ctx.word = v.attempt.ctx.word
        ∧ (closingRequest verdict p v).1.attempt.ctx.origin = v.attempt.ctx.origin := by
      rw [hattempt]
      exact ⟨rfl, rfl⟩
    have hsame : (closedPart verdict p v).lesson = (countClose v.attempt.ctx.word verdict (closeClass verdict v.attempt.ctx)
        v.attempt.ctx.origin (raiseNotice (closedNotice (setAwaited ((closingRequest verdict p v).2.map (fun id => (.closing, id)))
          (closingRequest verdict p v).1).attempt.ctx) (setAwaited ((closingRequest verdict p v).2.map (fun id => (.closing, id)))
          (closingRequest verdict p v).1))).lesson := by
      unfold closedPart
      simp only [raiseNotice_attempt]
      rw [show (setAwaited ((closingRequest verdict p v).2.map (fun id => (AwaitKind.closing, id))) (closingRequest verdict p v).1).attempt.ctx.word
          = v.attempt.ctx.word from hctx.1,
        show (setAwaited ((closingRequest verdict p v).2.map (fun id => (AwaitKind.closing, id))) (closingRequest verdict p v).1).attempt.ctx.origin
          = v.attempt.ctx.origin from hctx.2]
      split <;> rfl
    rw [hsame]
    exact countClose_congr _ _ _ _ ((raiseNotice_lesson _ _).trans hlesson) ((raiseNotice_untouched _ _).params.trans hparams)
  · unfold closedPart
    simp only [if_pos h]
    rfl
  · unfold closedPart
    simp only [if_neg h]
    rfl

theorem startCorrect_kept {i : VoiceId} (v : Vks) : Kept i (startCorrect v) v := .of_same rfl rfl

theorem startWrong_kept {i : VoiceId} (v : Vks) : Kept i (startWrong v) v := .of_same rfl rfl

theorem closedPart_kept {i : VoiceId} (verdict : Verdict) (p : Nat) (v : Vks) :
    Kept i (closedPart verdict p v) (closingRequest verdict p v).1 := by
  unfold closedPart
  extract_lets r v2 v3 v4 v5
  have h5 : Kept i v5 (closingRequest verdict p v).1 := (setAttemptState_kept _ v4).trans ((countClose_kept _ _ _ _ v3).trans
    ((raiseNotice_kept _ v2).trans (setAwaited_kept _ _)))
  split
  · exact (startCorrect_kept v5).trans h5
  · exact (startWrong_kept v5).trans h5

theorem closeAttempt_kept {i : VoiceId} (verdict : Verdict) (p : Nat) (v : Vks) : Kept i (closeAttempt verdict p v) v := by
  have h : Kept i (closedPart verdict p v) v := (closedPart_kept verdict p v).trans
    ((requestEngine_kept _ _ _ _).trans (setContext_kept _ v))
  rw [closeAttempt_eq]
  split
  · exact (closingEnded_kept _).trans h
  · exact h

/-- R22: an awaited response that is spoken or waiting. -/
theorem awaitsResponse_of_holds {t : Vks} {w u : Utterance} {kind : AwaitKind} {items : List Item} (h : Holds .main t w)
    (hsame : SameSpeech w u) (hsource : u.source = .response) (hitems : u.items = items.take 40)
    (hawaited : t.attempt.ctx.awaited = some (kind, u.id)) (houtstanding : u.id ∈ t.attempt.ctx.outstanding) :
    AwaitsResponse t kind items := by
  obtain ⟨hid, hs, hi⟩ := hsame
  refine ⟨w, ?_, hs.trans hsource, hi.trans hitems, by rw [hid]; exact hawaited, by rw [hid]; exact houtstanding⟩
  rcases h with h | ⟨-, h⟩
  · exact List.mem_append_left _ h
  · refine List.mem_append_right _ ?_
    rw [show t.reader.mainVoice.utterance = some w from h]
    exact List.mem_singleton.mpr rfl

/-- R37, R64: the notices of a close, stated where nothing is raised before them. -/
theorem closedPart_told (verdict : Verdict) (p : Nat) (v : Vks) (hamp : v.power.amp ≠ .on) (hwarmup : v.params.ampWarmup ≠ 0)
    (hroom : v.sched.queue.length < 16) (hnotices : v.notices.queue.length < 15) (hsized : v.lesson.records.length = 512)
    (hword : v.attempt.ctx.word < 512) :
    (closedPart verdict p v).notices.queue = v.notices.queue ++ [closedNotice (closedContext verdict p v.attempt.ctx)]
      ++ (let old := v.record v.attempt.ctx.word
          let new := (countClose v.attempt.ctx.word verdict (closeClass verdict v.attempt.ctx) v.attempt.ctx.origin v).record v.attempt.ctx.word
          if new.mastery = old.mastery then []
          else [.mastery v.attempt.ctx.word old.mastery.code new.mastery.code new.streak]) := by
  obtain ⟨⟨outstanding, hattempt⟩, hlesson, -, -⟩ := requestEngine_only .response
    (v.row (closeRow verdict (closeClass verdict v.attempt.ctx))) ⟨v.entry v.attempt.ctx.word, v.attempt.ctx.buffer, p, some verdict⟩
    (setContext (closedContext verdict p v.attempt.ctx) v)
  replace hattempt : (closingRequest verdict p v).1.attempt = _ := hattempt
  replace hlesson : (closingRequest verdict p v).1.lesson = v.lesson := hlesson
  have hparams : (closingRequest verdict p v).1.params = v.params := (requestEngine_outside _ _ _ _).params
  have hquiet : (closingRequest verdict p v).1.notices = v.notices := requestEngine_quiet _ _ _ _ hamp hwarmup hroom
  unfold closedPart
  extract_lets r v2 v3 v4 v5 old new
  have hv2 : v2.attempt.ctx = { closedContext verdict p v.attempt.ctx with
      awaited := r.2.map (fun id => (.closing, id)), outstanding := outstanding } := by
    show { r.1.attempt.ctx with awaited := r.2.map (fun id => (AwaitKind.closing, id)) } = _
    rw [show r.1.attempt = _ from hattempt]
    rfl
  have hclosed : closedNotice v2.attempt.ctx = closedNotice (closedContext verdict p v.attempt.ctx) := by
    rw [hv2]
    rfl
  have h3 : v3.notices.queue = v.notices.queue ++ [closedNotice (closedContext verdict p v.attempt.ctx)] := by
    rw [← hclosed, show v3 = raiseNotice (closedNotice v2.attempt.ctx) v2 from rfl,
      raiseNotice_queue _ v2 (by rw [show v2.notices = v.notices from hquiet]; omega), show v2.notices = v.notices from hquiet]
  have hv3 : v3.attempt.ctx.word = v.attempt.ctx.word ∧ v3.attempt.ctx.origin = v.attempt.ctx.origin := by
    rw [show v3.attempt = v2.attempt from raiseNotice_attempt _ v2, hv2]
    exact ⟨rfl, rfl⟩
  have hrecord (w : Nat) : v3.record w = v.record w := by
    rw [Vks.record, show v3.lesson = v.lesson from (raiseNotice_lesson _ v2).trans hlesson]
    rfl
  have hp3 : v3.params = v.params := (raiseNotice_untouched _ v2).params.trans hparams
  have hcount := Grading.record_countClose_same v v.attempt.ctx.word verdict (closeClass verdict v.attempt.ctx) v.attempt.ctx.origin hsized hword
  obtain ⟨hsilent, hraised⟩ := Grading.countClose_notices v3 v.attempt.ctx.word verdict (closeClass verdict v.attempt.ctx) v.attempt.ctx.origin
  rw [hrecord, hp3] at hsilent hraised
  have h4 : v4 = countClose v.attempt.ctx.word verdict (closeClass verdict v.attempt.ctx) v.attempt.ctx.origin v3 := by
    show countClose v3.attempt.ctx.word _ _ v3.attempt.ctx.origin v3 = _
    rw [hv3.1, hv3.2]
  have h6 : (if verdict = .exact then startCorrect v5 else startWrong v5).notices.queue = v4.notices.queue := by
    split <;> rfl
  rw [h6, h4]
  rw [show new = _ from hcount]
  split
  · next hsame => rw [hsilent hsame, h3, List.append_nil]
  · next hchanged =>
    rw [hraised hchanged (by rw [h3, List.length_append, List.length_singleton]; omega)]
    show v3.notices.queue ++ _ = _
    rw [h3]

/-- What the rest of an event leaves of the attempt's last step: attempt, lesson unit and lamps, what is spoken or waiting, and
the notices raised. -/
structure StaysSaid (t y : Vks) : Prop where
  kept : Kept .main t y
  state : t.attempt.state = y.attempt.state
  ctx : t.attempt.ctx = y.attempt.ctx
  lesson : t.lesson = y.lesson
  correct : t.notices.correct = y.notices.correct
  wrong : t.notices.wrong = y.notices.wrong
  join : NoticesJoin t y

theorem StaysSaid.refl (v : Vks) : StaysSaid v v := ⟨.refl v, rfl, rfl, rfl, rfl, rfl, .refl v⟩

theorem settle_staysSaid (v : Vks) : StaysSaid (settle v) v where
  kept := settle_kept v
  state := (settle_untouched v).state
  ctx := (settle_untouched v).ctx
  lesson := (settle_untouched v).lesson
  correct := (settle_untouched v).correct
  wrong := (settle_untouched v).wrong
  join := settle_join v

/-- R36, R37: a close of the attempt as the event's earlier steps left it, in an event that goes on. -/
theorem closeAttempt_closes {t x v : Vks} {c : Context} (verdict : Verdict) (p : Nat) (hground : SameGround x v)
    {a : Option Verdict} {b : Nat} {o : List Nat}
    (hctx : x.attempt.ctx = { c with verdict := a, verdictPosition := b, outstanding := o })
    (hstays : StaysSaid t (closeAttempt verdict p x)) : ClosesAttempt v t c verdict p := by
  obtain ⟨hstayKept, hstayState, hstayCtx, hstayLesson, hstayCorrect, hstayWrong, hstayJoin⟩ := hstays
  obtain ⟨hstate, -, hpartCtx, hlesson, houtside, hlamps⟩ := closedPart_frame verdict p x
  have hcls : closeClass verdict x.attempt.ctx = closeClass verdict c := by
    rw [hctx]
    rfl
  have hcounted : (closedPart verdict p x).lesson = (countClose c.word verdict (closeClass verdict c) c.origin v).lesson := by
    rw [hlesson, hcls, hctx]
    exact countClose_congr _ _ _ _ hground.lesson hground.outside.params
  have hkept : { closedContext verdict p x.attempt.ctx with
      awaited := (closingRequest verdict p x).2.map (fun id => (AwaitKind.closing, id))
      outstanding := (closingRequest verdict p x).1.attempt.ctx.outstanding }
      = { closedContext verdict p c with
        awaited := (closingRequest verdict p x).2.map (fun id => (AwaitKind.closing, id))
        outstanding := (closingRequest verdict p x).1.attempt.ctx.outstanding } := by
    rw [hctx]
    rfl
  rw [hkept] at hpartCtx
  have hitems : expandAll (setContext (closedContext verdict p x.attempt.ctx) x)
      ⟨x.entry x.attempt.ctx.word, x.attempt.ctx.buffer, p, some verdict⟩
      (x.row (closeRow verdict (closeClass verdict x.attempt.ctx)))
      = expandAll v ⟨v.entry c.word, c.buffer, p, some verdict⟩ (v.row (closeRow verdict (closeClass verdict c))) := by
    rw [hcls, hground.entry, hground.row, hctx]
    exact expandAll_congr (a := setContext _ x) hground.outside.words _ _
  have hjoin : NoticesJoin (closeAttempt verdict p x) (closedPart verdict p x) := by
    rw [closeAttempt_eq]
    split
    · exact moves_join (l := 1) (closingEnded_moves _)
    · exact .refl _
  refine ⟨⟨fun hsome hroom => ?_, fun hended => ?_⟩, ?_, fun hamp hwarmup hroom hnotices hsized hword => ?_⟩
  · obtain ⟨hid, houtstanding, w, hw, hsource, hsame⟩ := requestEngine_speaks .response
      (v := setContext (closedContext verdict p x.attempt.ctx) x) (by rw [hitems]; exact hsome)
      (fun hturned => hroom (hground.turns.mp hturned)) (by decide)
    replace hid : (closingRequest verdict p x).2 = _ := hid
    replace houtstanding : (closingRequest verdict p x).1.attempt.ctx.outstanding = _ := houtstanding
    rw [closeAttempt_of_spoken hid] at hstayKept hstayState hstayCtx hstayLesson
    obtain ⟨y, hy, hsame'⟩ := (hstayKept.trans (closedPart_kept verdict p x)).holds w hsource hw
    replace hpartCtx := hstayCtx.trans hpartCtx
    refine ⟨hstayState.trans hstate, awaitsResponse_of_holds hy (hsame'.trans hsame) rfl ?_ ?_ ?_, ?_, hstayLesson.trans hcounted⟩
    · exact congrArg (List.take 40) hitems
    · rw [hpartCtx, hid]
      rfl
    · rw [hpartCtx, houtstanding]
      exact List.mem_append_right _ (List.mem_singleton.mpr rfl)
    · rw [hpartCtx]
      rfl
  · have hend : (closingRequest verdict p x).2 = none := requestEngine_ended .response
      (hended.imp (fun h => hitems.trans h) fun h => hground.turns.mpr h)
    rw [closeAttempt_of_ended hend] at hstayState hstayCtx hstayLesson
    exact leavesClosing_of_same hstayState hstayCtx hstayLesson (closingEnded_after (houtside.words.trans hground.outside.words)
      (houtside.params.trans hground.outside.params) hcounted hpartCtx).leaves
  · have hlit (y : Vks) (h : y.notices.correct = (closedPart verdict p x).notices.correct
        ∧ y.notices.wrong = (closedPart verdict p x).notices.wrong) :
        (verdict = .exact → y.notices.correct = some 1000) ∧ (verdict ≠ .exact → y.notices.wrong = some 1000) := by
      rw [h.1, h.2]
      exact hlamps
    rw [hstayCorrect, hstayWrong]
    refine hlit _ ?_
    rw [closeAttempt_eq]
    split
    · exact closingEnded_lamps _
    · exact ⟨rfl, rfl⟩
  · obtain ⟨hxamp, hxnotices⟩ := hground.nextNotices hamp hwarmup
    have htold := closedPart_told verdict p x hxamp (by rw [hground.outside.params]; exact hwarmup)
      (by rw [hground.queue]; exact hroom) (by rw [hxnotices]; exact hnotices) (by rw [hground.lesson]; exact hsized.records)
      (by rw [hctx]; exact hword)
    obtain ⟨⟨later, hlater⟩, -⟩ := hstayJoin.trans hjoin
    have hword' : x.attempt.ctx.word = c.word := by rw [hctx]
    have horigin : x.attempt.ctx.origin = c.origin := by rw [hctx]
    have hnotice : closedNotice (closedContext verdict p x.attempt.ctx)
        = .attemptClosed c.word verdict.code c.tryNumber c.hintsUsed c.mistakes p := by
      rw [hctx]
      rfl
    have hrecord : x.record c.word = v.record c.word := by rw [Vks.record, hground.lesson]; rfl
    have hcountRecord : (countClose c.word verdict (closeClass verdict c) c.origin x).record c.word
        = (countClose c.word verdict (closeClass verdict c) c.origin v).record c.word := by
      rw [Vks.record, countClose_congr c.word verdict (closeClass verdict c) c.origin hground.lesson hground.outside.params]
      rfl
    rw [hcls, hword', horigin, hnotice, hrecord, hcountRecord, hxnotices] at htold
    exact ⟨later, hlater.trans (by rw [htold])⟩

/-- The try response's request (R35). -/
def tryRequest (verdict : Verdict) (p : Nat) (v : Vks) : Vks × Option Nat :=
  requestEngine .response (v.row (tryRow verdict)) (attemptExpansion v p (some verdict)) v

/-- The part of a failed try before an ended response is acted on (R35). -/
def failedPart (verdict : Verdict) (p : Nat) (v : Vks) : Vks :=
  let r := tryRequest verdict p v
  let v1 := setAwaited (r.2.map (fun id => (.tryResponse, id))) r.1
  let v2 := raiseNotice (.tryFailed v1.attempt.ctx.word verdict.code v1.attempt.ctx.tryNumber p) v1
  setAttemptState .responding (startWrong v2)

theorem failTry_of_ended {verdict : Verdict} {p : Nat} {v : Vks} (h : (tryRequest verdict p v).2 = none) :
    failTry verdict p v = tryEnded (failedPart verdict p v) := by
  rw [show failTry verdict p v = if (tryRequest verdict p v).2.isNone then tryEnded (failedPart verdict p v)
    else failedPart verdict p v from rfl, h]
  rfl

theorem failTry_of_spoken {verdict : Verdict} {p : Nat} {v : Vks} {id : Nat} (h : (tryRequest verdict p v).2 = some id) :
    failTry verdict p v = failedPart verdict p v := by
  rw [show failTry verdict p v = if (tryRequest verdict p v).2.isNone then tryEnded (failedPart verdict p v)
    else failedPart verdict p v from rfl, h]
  rfl

theorem failedPart_kept {i : VoiceId} (verdict : Verdict) (p : Nat) (v : Vks) :
    Kept i (failedPart verdict p v) (tryRequest verdict p v).1 :=
  (setAttemptState_kept _ _).trans ((startWrong_kept _).trans ((raiseNotice_kept _ _).trans (setAwaited_kept _ _)))

/-- R35: a failed try of the attempt as the event's earlier steps left it. -/
theorem failTry_fails {x v : Vks} {c : Context} (verdict : Verdict) (p : Nat) (hground : SameGround x v) {o : List Nat}
    (hctx : x.attempt.ctx = { c with verdict := some verdict, verdictPosition := p, outstanding := o }) :
    FailsTry v (failTry verdict p x) c verdict p := by
  obtain ⟨⟨outstanding, hattempt⟩, hlesson, -, -⟩ := requestEngine_only .response (x.row (tryRow verdict))
    (attemptExpansion x p (some verdict)) x
  replace hattempt : (tryRequest verdict p x).1.attempt = _ := hattempt
  replace hlesson : (tryRequest verdict p x).1.lesson = x.lesson := hlesson
  have hpartCtx : (failedPart verdict p x).attempt.ctx = { c with
      verdict := some verdict, verdictPosition := p
      awaited := (tryRequest verdict p x).2.map (fun id => (.tryResponse, id)), outstanding := outstanding } := by
    unfold failedPart
    simp only [setAttemptState, startWrong, raiseNotice_attempt, setAwaited, setContext, hattempt, hctx]
  have hpartLesson : (failedPart verdict p x).lesson = v.lesson :=
    (raiseNotice_lesson _ _).trans (hlesson.trans hground.lesson)
  have hitems : expandAll x (attemptExpansion x p (some verdict)) (x.row (tryRow verdict))
      = expandAll v ⟨v.entry c.word, c.buffer, p, some verdict⟩ (v.row (tryRow verdict)) := by
    rw [expandAll_congr hground.outside.words, hground.row]
    rw [show attemptExpansion x p (some verdict) = ⟨v.entry c.word, c.buffer, p, some verdict⟩ from by
      rw [attemptExpansion, Vks.attemptEntry, hground.entry, hctx]]
  have houtcome : (∃ id, (tryRequest verdict p x).2 = some id ∧ failTry verdict p x = failedPart verdict p x)
      ∨ ((tryRequest verdict p x).2 = none ∧ failTry verdict p x = tryEnded (failedPart verdict p x)) := by
    cases h : (tryRequest verdict p x).2 with
    | none => exact .inr ⟨rfl, failTry_of_ended h⟩
    | some id => exact .inl ⟨id, rfl, failTry_of_spoken h⟩
  refine ⟨⟨fun hsome hroom => ?_, fun hended => ?_⟩, ?_, ?_, fun hamp hwarmup hroom hnotices => ?_⟩
  · obtain ⟨hid, houtstanding, w, hw, hsource, hsame⟩ := requestEngine_speaks .response (by rw [hitems]; exact hsome)
      (fun hturned => hroom (hground.turns.mp hturned)) (by decide)
    replace hid : (tryRequest verdict p x).2 = _ := hid
    replace houtstanding : (tryRequest verdict p x).1.attempt.ctx.outstanding = _ := houtstanding
    obtain ⟨y, hy, hsame'⟩ := (failedPart_kept verdict p x).holds w hsource hw
    rw [hattempt] at houtstanding
    rw [failTry_of_spoken hid]
    refine ⟨rfl, awaitsResponse_of_holds hy (hsame'.trans hsame) rfl ?_ ?_ ?_, ?_⟩
    · exact congrArg (List.take 40) hitems
    · rw [hpartCtx, hid]
      rfl
    · rw [hpartCtx]
      show _ ∈ outstanding
      rw [show outstanding = _ from houtstanding]
      exact List.mem_append_right _ (List.mem_singleton.mpr rfl)
    · rw [hpartCtx]
  · have hend : (tryRequest verdict p x).2 = none := requestEngine_ended .response
      (hended.imp (fun h => hitems.trans h) fun h => hground.turns.mpr h)
    rw [failTry_of_ended hend]
    refine ⟨rfl, ?_⟩
    show { (failedPart verdict p x).attempt.ctx with
      buffer := [], tryNumber := (failedPart verdict p x).attempt.ctx.tryNumber + 1, hintStage := 0, hintPosition := 0
      awaited := none } = { c with
        verdict := some verdict, verdictPosition := p, buffer := [], tryNumber := c.tryNumber + 1, hintStage := 0
        hintPosition := 0, awaited := none, outstanding := (failedPart verdict p x).attempt.ctx.outstanding }
    rw [hpartCtx]
  · rcases houtcome with ⟨id, -, h⟩ | ⟨-, h⟩ <;> rw [h] <;> exact hpartLesson
  · rcases houtcome with ⟨id, -, h⟩ | ⟨-, h⟩ <;> rw [h] <;> rfl
  · obtain ⟨hxamp, hxnotices⟩ := hground.nextNotices hamp hwarmup
    have hquiet : (tryRequest verdict p x).1.notices = x.notices := requestEngine_quiet _ _ _ x hxamp
      (by rw [hground.outside.params]; exact hwarmup) (by rw [hground.queue]; exact hroom)
    have htold : (failedPart verdict p x).notices.queue
        = v.notices.queue ++ [.tryFailed c.word verdict.code c.tryNumber p] := by
      unfold failedPart
      extract_lets r v1 v2
      have hv1 : v1.attempt.ctx.word = c.word ∧ v1.attempt.ctx.tryNumber = c.tryNumber := by
        show r.1.attempt.ctx.word = _ ∧ r.1.attempt.ctx.tryNumber = _
        rw [show r.1.attempt = _ from hattempt, hctx]
        exact ⟨rfl, rfl⟩
      have hqueue : v1.notices.queue = v.notices.queue := (congrArg NoticeUnit.queue hquiet).trans hxnotices
      show v2.notices.queue = _
      rw [← hqueue, ← hv1.1, ← hv1.2]
      exact raiseNotice_queue _ v1 (by rw [hqueue]; exact hnotices)
    refine ⟨[], ?_⟩
    rcases houtcome with ⟨id, -, h⟩ | ⟨-, h⟩ <;> rw [h]
    · exact htold
    · exact htold

end Sys2Proof.AttemptEnds
end

section
/-! SUPPORT. Opening attempts: ATTEMPT OPEN (R24), and LESSON START and LESSON STOP (R56, R57). -/

namespace Sys2Proof.Openings

open Sys2Proof.Machine Sys2Proof.EventMoves Sys2Proof.EventFrames Sys2Proof.VoiceFrames Sys2Proof.SpeechKept
  Sys2Proof.AttemptSteps Sys2Proof.AttemptEnds Sys2Proof.Stores Sys2Proof.Words Sys2Proof.Resets Sys2Proof.Expansions
  Sys2Proof.Invariants

/-- A prompt that has been requested is still spoken or waiting when the event has settled. -/
theorem settle_holds {v : Vks} {w u : Utterance} (h : Holds .main v w) (hsource : w.source ≠ .say) (hsame : SameSpeech w u) :
    ∃ y, Holds .main (settle v) y ∧ SameSpeech y u := by
  obtain ⟨y, hy, hys⟩ := (settle_kept (i := .main) v).holds w hsource h
  exact ⟨y, hy, hys.trans hsame⟩

/-! ### ATTEMPT OPEN (R24) -/

/-- An ATTEMPT OPEN argument: the word, and the mode byte where there is one. -/
def openForm (w : Nat) (third : Option Nat) : List Byte := leBytes 2 w ++ third.toList.flatMap (leBytes 1)

theorem openForm_read (w : Nat) (third : Option Nat) (hw : w < 512) (hthird : ∀ b, third = some b → b < 256) :
    fieldAt (openForm w third) 0 2 = w ∧ byteAt (openForm w third) 2 = third.getD 0
    ∧ (openForm w third).length = 2 + third.toList.length := by
  have hword : w % 65536 = w := Nat.mod_eq_of_lt (by omega)
  cases third with
  | none => exact ⟨by simp [openForm, hword], rfl, rfl⟩
  | some b => exact ⟨by simp [openForm, hword], by simp [openForm, Nat.mod_eq_of_lt (hthird b rfl)], rfl⟩

/-- The check mode an ATTEMPT OPEN asks for (R24). -/
theorem modeOverride_eq {arg : List Byte} {third : Option Nat} (h : byteAt arg 2 = third.getD 0) : modeOverride arg
    = if third = some 1 then some .immediate else if third = some 2 then some .deferred else none := by
  rw [modeOverride, h]
  cases third with
  | none => rfl
  | some b =>
    simp only [Option.getD_some, Option.some.injEq]
    split
    · rfl
    · rfl
    · next h1 h2 => rw [if_neg h1, if_neg h2]

/-- R24: an ATTEMPT OPEN that passes its checks. -/
theorem handleAttemptOpen_eq {v : Vks} {w : Nat} {e : WordEntry} {third : Option Nat} (hw : w < 512) (hentry : v.entry w = some e)
    (hthird : ∀ b, third = some b → b ≤ 2) : handleAttemptOpen (openForm w third) v
      = if v.attempt.state.isOpen then busyAttempt v
        else
          let v1 := openAttempt w .command (modeOverride (openForm w third)) v
          (settle v1, answerOk (leBytes 1 v1.attempt.ctx.settings.checkMode.code ++ leBytes 1 v1.target.length
            ++ leBytes 1 v1.attempt.state.code)) := by
  obtain ⟨hfield, hbyte, hlength⟩ := openForm_read w third hw fun b hb => by have := hthird b hb; omega
  have hpass : ∀ c ∈ attemptOpenChecks (openForm w third) v, c.1 = false := by
    have hlen : third.toList.length ≤ 1 := by cases third <;> simp
    have hmode : third.getD 0 ≤ 2 := by
      cases third with
      | none => decide
      | some b => exact hthird b rfl
    simp only [attemptOpenChecks, hfield, hbyte, hlength, hentry, Config.words, List.forall_mem_cons, Bool.and_eq_false_iff,
      decide_eq_false_iff_not, Option.isNone_some, List.not_mem_nil, false_imp_iff, implies_true, and_true]
    omega
  rw [handleAttemptOpen, checked_pass _ _ _ hpass, hfield]

theorem isOpen_eq_false {a : AttemptState} (h : a = .idle ∨ a = .gap) : a.isOpen = false := by
  rcases h with h | h <;> rw [h] <;> rfl

/-- R24: the request that opens an attempt. -/
theorem exec_attemptOpen (s : State) (tag : Byte) {w : Nat} {e : WordEntry} {third : Option Nat} (hawake : Awake s) (hw : w < 512)
    (hentry : s.vks.entry w = some e) (hthird : ∀ b, third = some b → b ≤ 2)
    (hstate : s.vks.attempt.state = .idle ∨ s.vks.attempt.state = .gap) {mode : CheckMode}
    (hmode : (modeOverride (openForm w third)).getD e.settings.checkMode = mode) :
    exec (.attemptOpen tag (openForm w third)) s
      = .next (withPart s (replying 0x20#8 tag .ok [BitVec.ofNat 8 mode.code, BitVec.ofNat 8 e.letters.length,
          BitVec.ofNat 8 (beginPrompting (opening w e .command (modeOverride (openForm w third)) s.vks)).attempt.state.code, 0#8] []
          (settle (beginPrompting (opening w e .command (modeOverride (openForm w third)) s.vks))))) := by
  have hlen : (openForm w third).length ≤ 58 := by
    cases third <;> simp [openForm]
  obtain ⟨-, -, ⟨awaited, outstanding, hctx⟩, -, -⟩ := beginPrompting_begins (opening w e .command (modeOverride (openForm w third)) s.vks)
  refine exec_answered _ 0x20#8 tag _ handleAttemptOpen s _ .ok (leBytes 1 mode.code ++ leBytes 1 e.letters.length ++ leBytes 1
    (beginPrompting (opening w e .command (modeOverride (openForm w third)) s.vks)).attempt.state.code) _ [] rfl hawake hlen ?_
    (by simp [padTo, leBytes])
  rw [handleAttemptOpen_eq hw hentry hthird, if_neg (by rw [isOpen_eq_false hstate]; decide), openAttempt_of_valid _ _ hentry]
  have hwords : (beginPrompting (opening w e .command (modeOverride (openForm w third)) s.vks)).words = s.vks.words :=
    (beginPrompting_outside _).words
  have htarget : (beginPrompting (opening w e .command (modeOverride (openForm w third)) s.vks)).target = e.letters := by
    rw [Vks.target, Vks.attemptEntry, hctx, Vks.entry, hwords]
    show (match s.vks.entry w with | some e => e.letters | none => []) = _
    rw [hentry]
  simp only [htarget]
  rw [hctx]
  show (_, answerOk (leBytes 1 ((modeOverride (openForm w third)).getD e.settings.checkMode).code ++ _ ++ _)) = _
  rw [hmode]
  rfl

/-- R23, R97: the items of a prompt list. -/
theorem promptItems_of_entry {v : Vks} {e : WordEntry} (h : v.attemptEntry = some e) : promptItems v
    = expandAll v ⟨some e, v.attempt.ctx.buffer, 0, none⟩ (if e.prompts = [] then v.row 15 else [.prompt]) := by
  rw [promptItems, attemptExpansion, promptParts, h]

theorem promptItems_of_prompts {v : Vks} {e : WordEntry} (h : v.attemptEntry = some e) (hprompts : e.prompts ≠ []) :
    promptItems v = e.prompts.map Item.seg := by
  rw [promptItems_of_entry h, if_neg hprompts, expandAll]
  exact List.append_nil _

/-- What an opened attempt has when its event has settled: where it begins, what it was opened with, and its prompt. -/
theorem opened_settled (v : Vks) : Begins (settle (beginPrompting v)) v
    ∧ (promptItems v ≠ [] → v.sched.queue.length < 16 → (settle (beginPrompting v)).attempt.state = .prompting
      ∧ (settle (beginPrompting v)).attempt.ctx.awaited = some (.prompt, v.sched.nextId)
      ∧ (settle (beginPrompting v)).attempt.ctx.outstanding
        = v.attempt.ctx.outstanding.filter (fun y => y ≠ v.sched.nextId) ++ [v.sched.nextId]
      ∧ EngineQueued v (settle (beginPrompting v)) .prompt (promptItems v))
    ∧ (v.power.amp ≠ .on → v.params.ampWarmup ≠ 0 → v.sched.queue.length < 16 → v.notices.queue.length < 16 →
        ∃ later, (settle (beginPrompting v)).notices.queue = v.notices.queue ++ openedNotice v.attempt.ctx :: later)
    ∧ OutsideAttempt (settle (beginPrompting v)) v := by
  have hsettle := settle_untouched (beginPrompting v)
  obtain ⟨hstate, hshelf, hctx, hawaits, hlesson⟩ := beginPrompting_begins v
  refine ⟨⟨by rw [hsettle.state]; exact hstate, hsettle.shelf.trans hshelf, by rw [hsettle.ctx]; exact hctx,
    by rw [hsettle.ctx]; exact hawaits, hsettle.lesson.trans hlesson⟩, fun hitems hroom => ?_,
    fun hamp hwarmup hroom hnotices => ?_, hsettle.outside.trans (beginPrompting_outside v)⟩
  · obtain ⟨hprompting, hawaited, houtstanding, w, hw, hsource, hsame⟩ := beginPrompting_speaks hitems
      fun hturned => Nat.not_le.mpr hroom hturned.1
    obtain ⟨y, hy, hsame'⟩ := settle_holds hw hsource hsame
    rw [hsettle.state, hsettle.ctx]
    exact ⟨hprompting, hawaited, houtstanding, engineQueued_of_holds hy hsame' rfl rfl rfl⟩
  · have htold := beginPrompting_told v hamp hwarmup hroom hnotices
    obtain ⟨later, hlater⟩ := (settle_join (beginPrompting v)).joined
    exact ⟨later, by rw [hlater, htold, List.append_assoc, List.singleton_append]⟩

/-- Settles O31: the open by its steps, BUSY in an open attempt, and each cause. -/
theorem attemptOpenFillsTheContext : Obligations.AttemptOpenFillsTheContext := by
  intro s tag w hawake hw
  have hrefused (arg : List Byte) (hfits : arg.length ≤ 58) (n : Nat) (hcause : firstCause (attemptOpenChecks arg s.vks) = some n) :
      exec (.attemptOpen tag arg) s = .next (withPart s (replying 0x20#8 tag .badArgs [BitVec.ofNat 8 n, 0#8, 0#8, 0#8] [] s.vks)) :=
    exec_badArgs s 0x20#8 tag arg _ handleAttemptOpen n rfl hawake hfits (checked_badArgs _ _ _ n hcause)
  refine ⟨fun e third hentry hthird => ?taken, fun hinvalid => ?invalid, fun b hlow hhigh => ?mode, fun x hlow hhigh => ?index,
    fun arg hshort hlong hfits => ?length⟩
  case taken =>
    intro arg mode
    refine ⟨fun hstate => ?_, fun hopen => ?_⟩
    · have hbyte := (openForm_read w third hw fun b hb => by have := hthird b hb; omega).2.1
      have hmode : (modeOverride (openForm w third)).getD e.settings.checkMode = mode := by
        rw [modeOverride_eq hbyte]
        simp only [mode]
        split_ifs <;> rfl
      have hexec := exec_attemptOpen s tag hawake hw hentry hthird hstate hmode
      have hsettings : ({ e.settings with checkMode := (modeOverride (openForm w third)).getD e.settings.checkMode } : Settings)
          = { e.settings with checkMode := mode } := by rw [hmode]
      have hctxOpen : (opening w e .command (modeOverride (openForm w third)) s.vks).attempt.ctx
          = { openedContext w e .command none with settings := { e.settings with checkMode := mode } } := by
        show openedContext w e .command (modeOverride (openForm w third)) = _
        rw [openedContext, hsettings]
        rfl
      have hcode := (settle_untouched (beginPrompting (opening w e .command (modeOverride (openForm w third)) s.vks))).state
      obtain ⟨⟨hprompting, hshelf, ⟨awaited, outstanding, hctx⟩, -, hlesson⟩, hspeaks, htold, houtside⟩ :=
        opened_settled (opening w e .command (modeOverride (openForm w third)) s.vks)
      have hitems (hprompts : e.prompts ≠ []) : promptItems (opening w e .command (modeOverride (openForm w third)) s.vks)
          = e.prompts.map Item.seg := by
        refine promptItems_of_prompts ?_ hprompts
        rw [Vks.attemptEntry, hctxOpen]
        exact hentry
      have hground : OutsideAttempt (opening w e .command (modeOverride (openForm w third)) s.vks) s.vks :=
        (setContext_outside _ _).trans (stopGap_outside _)
      rw [hctxOpen] at hctx htold
      rw [← hcode] at hexec
      generalize settle (beginPrompting (opening w e .command (modeOverride (openForm w third)) s.vks)) = t at *
      refine ⟨_, hexec, rfl, rfl, congrArg Context.word hctx, congrArg Context.settings hctx, congrArg Context.tryNumber hctx,
        congrArg Context.buffer hctx, congrArg Context.mistakes hctx, congrArg Context.hintsUsed hctx, congrArg Context.hintStage hctx,
        congrArg Context.hintPosition hctx, congrArg Context.nudged hctx, congrArg Context.origin hctx, congrArg Context.verdict hctx,
        congrArg Context.closed hctx, hshelf, hprompting, fun hprompts hroom => ?_, hlesson, fun hamp hwarmup hroom hnotices => ?_,
        replying_outside _ _ _ _ _ (houtside.trans hground)⟩
      · obtain ⟨hst, haw, hout, hqueued⟩ := hspeaks (by rw [hitems hprompts]; simpa using hprompts) hroom
        rw [hitems hprompts] at hqueued
        exact ⟨hst, haw, hout, hqueued⟩
      · exact htold hamp hwarmup hroom hnotices
    · have hisOpen : s.vks.attempt.state.isOpen = true := (isOpen_eq_true_iff _).mpr hopen
      refine exec_answered _ 0x20#8 tag _ handleAttemptOpen s _ .busy (leBytes 1 s.vks.attempt.state.code) _ [] rfl hawake
        (by cases third <;> simp [arg]) ?_ (padTo_four_one _)
      show handleAttemptOpen (openForm w third) s.vks = _
      rw [handleAttemptOpen_eq hw hentry hthird, if_pos hisOpen]
      rfl
  case invalid =>
    obtain ⟨hfield, hbyte, -⟩ := openForm_read w none hw fun b hb => by cases hb
    refine hrefused (openForm w none) (by simp [openForm]) 10 ?_
    rw [attemptOpenChecks, hfield, hbyte, hinvalid]
    simp [openForm, firstCause, Config.words, hw]
  case mode =>
    obtain ⟨hfield, hbyte, hlength⟩ := openForm_read w (some b) hw fun c hc => by cases hc; exact hhigh
    have harg : openForm w (some b) = leBytes 2 w ++ leBytes 1 b := by simp [openForm]
    rw [harg] at hfield hbyte hlength
    refine hrefused (leBytes 2 w ++ leBytes 1 b) (by simp) 7 ?_
    rw [attemptOpenChecks, hfield, hbyte, hlength]
    simp [firstCause, Config.words, hw, hlow]
  case index =>
    refine hrefused (leBytes 2 x) (by simp) 2 ?_
    rw [attemptOpenChecks, field_two x hhigh]
    simp [firstCause, Config.words, hlow]
  case length =>
    refine hrefused arg hfits 1 ?_
    simp [attemptOpenChecks, firstCause, hshort, hlong]

theorem setLesson_outside (u : LessonUnit) (v : Vks) : OutsideAttempt { v with lesson := u } v := by constructor <;> rfl

/-! ### LESSON START and LESSON STOP (R56, R57) -/

/-- The answer to a LESSON START (R56). -/
def lessonStarted (was : Bool) (v : Vks) (opened : Nat) : Answer :=
  answerOk ([flagByte was] ++ leBytes 1 v.attempt.state.code ++ leBytes 2 opened)

theorem handleLessonStart_idle {v : Vks} (h : v.attempt.state = .idle) : handleLessonStart [] v
    = (settle (lessonWalk (setAuto true v)), lessonStarted v.lesson.auto (settle (lessonWalk (setAuto true v)))
        (if (settle (lessonWalk (setAuto true v))).attempt.state ≠ .idle
          then (settle (lessonWalk (setAuto true v))).attempt.ctx.word else 0xFFFF)) := by
  rw [handleLessonStart, withoutArgument_nil]
  simp only [h, if_true, true_and]
  rfl

theorem handleLessonStart_other {v : Vks} (h : v.attempt.state ≠ .idle) : handleLessonStart [] v
    = (setAuto true v, lessonStarted v.lesson.auto v 0xFFFF) := by
  rw [handleLessonStart, withoutArgument_nil]
  simp only [if_neg h, if_neg (show ¬ (v.attempt.state = .idle ∧ (setAuto true v).attempt.state ≠ .idle) from fun hn => h hn.1)]
  rfl

theorem lessonStarted_bytes (was : Bool) (code opened : Nat) : padTo 4 ([flagByte was] ++ leBytes 1 code ++ leBytes 2 opened)
    = [if was then 1#8 else 0#8, BitVec.ofNat 8 code] ++ leBytes 2 opened := by
  simp [padTo, leBytes, flagByte]

/-- Settles O29: the walk of a start in IDLE, with a valid word and without one, and the stop of a running gap. -/
theorem lessonStartAndStop : Obligations.LessonStartAndStop := by
  intro s tag hawake
  have hstart (h : s.vks.attempt.state = .idle) (opened : Nat)
      (hopened : (if (settle (lessonWalk (setAuto true s.vks))).attempt.state ≠ .idle
        then (settle (lessonWalk (setAuto true s.vks))).attempt.ctx.word else 0xFFFF) = opened) :
      exec (.lessonStart tag []) s = .next (withPart s (replying 0x2B#8 tag .ok ([if s.vks.lesson.auto then 1#8 else 0#8,
        BitVec.ofNat 8 (settle (lessonWalk (setAuto true s.vks))).attempt.state.code] ++ leBytes 2 opened) []
        (settle (lessonWalk (setAuto true s.vks))))) := by
    refine exec_answered _ 0x2B#8 tag _ handleLessonStart s _ .ok ([flagByte s.vks.lesson.auto]
      ++ leBytes 1 (settle (lessonWalk (setAuto true s.vks))).attempt.state.code ++ leBytes 2 opened) _ [] rfl hawake
      (Nat.zero_le _) ?_ (lessonStarted_bytes _ _ _)
    rw [handleLessonStart_idle h, hopened]
    rfl
  have hsettle := settle_untouched (lessonWalk (setAuto true s.vks))
  have htakes := lessonWalk_takes (setAuto true s.vks)
  refine ⟨fun hidle bad e rest x hentries hbad hvalid => ?opens, fun hidle hbad => ?empties, fun hbusy => ?busy, fun hother => ?stop,
    fun hgap => ?gap⟩
  case opens =>
    obtain ⟨hlesson, hstate, hword, horigin, hsettings⟩ := htakes.opens bad e rest x hentries hbad hvalid
    have hwalk := lessonWalk_of_valid (v := setAuto true s.vks) hentries hbad hvalid
    obtain ⟨-, -, ⟨awaited, outstanding, hctx⟩, -, -⟩ := beginPrompting_begins (opening e.word x (.lesson e.retries) none
      { setAuto true s.vks with lesson := { (setAuto true s.vks).lesson with entries := rest, gapTimer := none } })
    rw [← hwalk] at hctx
    have houtside := (hsettle.outside.trans (lessonWalk_outside _)).trans (setLesson_outside { s.vks.lesson with auto := true } s.vks)
    have hnotIdle : (lessonWalk (setAuto true s.vks)).attempt.state ≠ .idle := by
      rcases hstate with h | h <;> rw [h] <;> decide
    have hexec := hstart hidle e.word (by rw [hsettle.state, hsettle.ctx, if_pos hnotIdle, hword])
    rw [← hsettle.lesson] at hlesson
    rw [← hsettle.state] at hstate
    rw [← hsettle.ctx] at hword horigin hsettings hctx
    generalize settle (lessonWalk (setAuto true s.vks)) = t at hexec hlesson hstate hword horigin hsettings hctx houtside
    exact ⟨_, hexec, rfl, rfl, hlesson, hstate, hword, horigin, hsettings, congrArg Context.tryNumber hctx,
      congrArg Context.buffer hctx, rfl, houtside.words, houtside.keys, houtside.params⟩
  case empties =>
    obtain ⟨hlesson, hstate⟩ := htakes.empties hbad
    have hwalk := lessonWalk_of_none (v := setAuto true s.vks) hbad
    have hjoin := settle_join (lessonWalk (setAuto true s.vks))
    have hexec := hstart hidle 0xFFFF (by rw [hsettle.state, hstate, if_neg (by decide)])
    have htold : s.vks.notices.queue.length < 16 → ∃ later, (settle (lessonWalk (setAuto true s.vks))).notices.queue
        = s.vks.notices.queue ++ .lessonEmpty s.vks.lesson.entries.length :: later := by
      rw [hwalk] at hjoin ⊢
      intro hroom
      have hraised := NoticesJoin.raised _ hjoin hroom
      exact hraised
    rw [← hsettle.lesson] at hlesson
    rw [← hsettle.state] at hstate
    generalize settle (lessonWalk (setAuto true s.vks)) = t at hexec hlesson hstate htold
    rw [hstate] at hexec
    exact ⟨_, hexec, hlesson, hstate, htold, rfl⟩
  case busy =>
    refine exec_answered _ 0x2B#8 tag _ handleLessonStart s _ .ok ([flagByte s.vks.lesson.auto]
      ++ leBytes 1 s.vks.attempt.state.code ++ leBytes 2 0xFFFF) _ [] rfl hawake (Nat.zero_le _) ?_ (lessonStarted_bytes _ _ _)
    rw [handleLessonStart_other hbusy]
    rfl
  case stop =>
    refine exec_answered _ 0x2C#8 tag _ handleLessonStop s _ .ok ([flagByte s.vks.lesson.auto]
      ++ leBytes 1 s.vks.attempt.state.code) _ [] rfl hawake (Nat.zero_le _) ?_ (by simp [padTo, leBytes, flagByte])
    rw [handleLessonStop, withoutArgument_nil]
    simp only [if_neg hother]
    rfl
  case gap =>
    have hend := settle_untouched (setAttemptState .idle (stopGap (setAuto false s.vks)))
    have hexec : exec (.lessonStop tag []) s = .next (withPart s (replying 0x2C#8 tag .ok
        [if s.vks.lesson.auto then 1#8 else 0#8, 0#8, 0#8, 0#8] []
        (settle (setAttemptState .idle (stopGap (setAuto false s.vks)))))) := by
      refine exec_answered _ 0x2C#8 tag _ handleLessonStop s _ .ok ([flagByte s.vks.lesson.auto]
        ++ leBytes 1 AttemptState.idle.code) _ [] rfl hawake (Nat.zero_le _) ?_ (by simp [padTo, leBytes, flagByte, AttemptState.code])
      rw [handleLessonStop, withoutArgument_nil]
      simp only [if_pos hgap, hend.state]
      rfl
    have hstate : (settle (setAttemptState .idle (stopGap (setAuto false s.vks)))).attempt.state = .idle := hend.state
    have hlesson : (settle (setAttemptState .idle (stopGap (setAuto false s.vks)))).lesson
        = { s.vks.lesson with auto := false, gapTimer := none } := hend.lesson
    generalize settle (setAttemptState .idle (stopGap (setAuto false s.vks))) = t at hexec hstate hlesson
    exact ⟨_, hexec, hstate, hlesson, rfl⟩

end Sys2Proof.Openings
end

section
/-! SUPPORT. ATTEMPT CANCEL, SHELVE and UNSHELVE (R46 to R49): what is cut, and what the starts of the event find left. -/

namespace Sys2Proof.Interruptions

open Sys2Proof.Machine Sys2Proof.EventMoves Sys2Proof.EventFrames Sys2Proof.VoiceFrames Sys2Proof.SpeechKept
  Sys2Proof.AttemptSteps Sys2Proof.AttemptEnds Sys2Proof.Openings Sys2Proof.Stores Sys2Proof.Words Sys2Proof.Resets
  Sys2Proof.Expansions Sys2Proof.Invariants

/-! ### What starts take (R107, R110) -/

theorem goesOn_utterance {a b : Voice} (h : VoiceGoesOn a b) : a.utterance = b.utterance := by
  by_cases hidle : b.state = .idle
  · rw [h.still (.inl hidle)]
  · exact (h.on hidle).2

/-- What the main voice holds and what waits for it come from the main voice and the queue the event's end found. -/
structure TakesFromQueue (a b : Vks) : Prop where
  queue : ∀ u ∈ a.sched.queue, u ∈ b.sched.queue
  voice : ∀ u, a.reader.mainVoice.utterance = some u →
    b.reader.mainVoice.utterance = some u ∨ ∃ h ∈ b.sched.queue, u = begun h

theorem TakesFromQueue.of_alone {a b : Vks} (h : MainAlone a b) : TakesFromQueue a b where
  queue u hu := by rw [← h.queue]; exact hu
  voice u hu := .inl (by rw [← hu]; exact (goesOn_utterance h.voice).symm)

/-- Two ends of the event's starts in a row: what the first took was begun from the queue. -/
theorem TakesFromQueue.alone_trans {a b c : Vks} (h : MainAlone a b) (k : TakesFromQueue b c) : TakesFromQueue a c where
  queue u hu := k.queue u (by rw [← h.queue]; exact hu)
  voice u hu := k.voice u (by rw [← hu]; exact (goesOn_utterance h.voice).symm)

theorem startMainHead_takes (v : Vks) : TakesFromQueue (startMainHead v) v := by
  by_cases hidle : v.reader.mainVoice.state = .idle
  · cases hopen : v.storeOpen with
    | false =>
      rw [startMainHead_of_closed v hopen]
      exact .of_alone (.refl v)
    | true =>
      cases hqueue : v.sched.queue with
      | nil =>
        rw [startMainHead_of_nil v hqueue]
        exact .of_alone (.refl v)
      | cons u q =>
        rw [startMainHead_of_cons v hidle hopen hqueue]
        refine ⟨fun w hw => ?_, fun w hw => .inr ⟨u, by rw [hqueue]; exact List.mem_cons_self, ?_⟩⟩
        · rw [show (startVoice .main u (setQueue q v)).sched.queue = q from startVoice_waiting .main .main u (setQueue q v)] at hw
          rw [hqueue]
          exact List.mem_cons_of_mem u hw
        · have hspeaks := (startVoice_speaks .main u (setQueue q v)).2
          exact Option.some.inj (hw.symm.trans hspeaks)
  · rw [startMainHead_of_busy v hidle]
    exact .of_alone (.refl v)

theorem startEchoHead_alone (v : Vks) : MainAlone (startEchoHead v) v :=
  ⟨(startEchoHead_main v).1, (startEchoHead_main v).2.1⟩

theorem startHeads_takes (v : Vks) : TakesFromQueue (startHeads v) v :=
  .alone_trans (startEchoHead_alone _) (startMainHead_takes v)

theorem settle_takes (v : Vks) : TakesFromQueue (settle v) v := by
  have h := settle_goesOn v
  exact .alone_trans ⟨h.voices .main, congrArg Scheduler.queue h.sched⟩ (startHeads_takes v)

/-- A property of identity, source and tag that the main voice's utterance and all waiting ones have, they have after the starts. -/
theorem TakesFromQueue.all {a b : Vks} (P : Utterance → Prop) (hbegun : ∀ u, P u → P (begun u)) (h : TakesFromQueue a b)
    (hqueue : ∀ u ∈ b.sched.queue, P u) (hvoice : ∀ u, b.reader.mainVoice.utterance = some u → P u) :
    (∀ u ∈ a.sched.queue, P u) ∧ ∀ u, a.reader.mainVoice.utterance = some u → P u := by
  refine ⟨fun u hu => hqueue u (h.queue u hu), fun u hu => ?_⟩
  rcases h.voice u hu with hu | ⟨w, hw, rfl⟩
  · exact hvoice u hu
  · exact hbegun w (hqueue w hw)

/-! ### The cut (R113) -/

/-- What a cut leaves: everything but the main voice, the main queue and the read engine. -/
structure CutOnly (a b : Vks) : Prop where
  outside : OutsideAttempt a b
  attempt : a.attempt = b.attempt
  lesson : a.lesson = b.lesson
  echoLine : a.sched.echoLine = b.sched.echoLine
  echoVoice : a.reader.echoVoice = b.reader.echoVoice
  notices : a.notices = b.notices
  power : a.power = b.power

theorem cutNamed_only (ids : List Nat) (v : Vks) : CutOnly (cutNamed ids v) v := by
  refine ⟨cutNamed_outside ids v, ?_, ?_, ?_, ?_, ?_, ?_⟩ <;> unfold cutNamed <;> simp only <;> split <;> rfl

theorem cutNamed_queue (ids : List Nat) (v : Vks) : (cutNamed ids v).sched.queue = v.sched.queue.filter (fun u => u.id ∉ ids) := by
  unfold cutNamed
  simp only
  split <;> rfl

/-- R113: a named utterance on the main voice is stopped, and any other stays. -/
theorem cutNamed_voice (ids : List Nat) (v : Vks) :
    (∀ u, v.reader.mainVoice.utterance = some u → u.id ∈ ids → (cutNamed ids v).reader.mainVoice = Voice.idle)
    ∧ ((∀ u, v.reader.mainVoice.utterance = some u → u.id ∉ ids) → (cutNamed ids v).reader.mainVoice = v.reader.mainVoice) := by
  have hon : onVoice (setQueue (v.sched.queue.filter (fun u => u.id ∉ ids)) v) .main = v.reader.mainVoice.utterance.toList := rfl
  refine ⟨fun u hu hid => ?_, fun hnone => ?_⟩
  · unfold cutNamed
    simp only [hon, hu]
    rw [if_pos (by simpa using hid)]
    rfl
  · unfold cutNamed
    simp only [hon]
    rw [if_neg]
    · rfl
    · cases hu : v.reader.mainVoice.utterance with
      | none => simp
      | some u => simpa using hnone u hu

/-- After a cut the main voice and the main queue hold none of the named. -/
theorem cutNamed_none (ids : List Nat) (v : Vks) : (∀ u ∈ (cutNamed ids v).sched.queue, u ∈ v.sched.queue ∧ u.id ∉ ids)
    ∧ ∀ u, (cutNamed ids v).reader.mainVoice.utterance = some u → v.reader.mainVoice.utterance = some u ∧ u.id ∉ ids := by
  obtain ⟨hcut, hstay⟩ := cutNamed_voice ids v
  refine ⟨fun u hu => ?_, fun u hu => ?_⟩
  · rw [cutNamed_queue, List.mem_filter] at hu
    exact ⟨hu.1, by simpa using hu.2⟩
  · by_cases hnone : ∀ w, v.reader.mainVoice.utterance = some w → w.id ∉ ids
    · rw [hstay hnone] at hu
      exact ⟨hu, hnone u hu⟩
    · obtain ⟨w, hw⟩ := not_forall.mp hnone
      obtain ⟨hw, hid⟩ := Classical.not_imp.mp hw
      rw [hcut w hw (not_not.mp hid)] at hu
      cases hu

/-- The attempt's engine utterances (R46, R113): those the main voice and the main queue hold that are outstanding. -/
theorem mem_outstandingEngine (v : Vks) (id : Nat) : id ∈ outstandingEngine v ↔ ∃ u, (v.reader.mainVoice.utterance = some u ∨ u ∈ v.sched.queue)
    ∧ u.source ≠ .say ∧ u.source ≠ .echo ∧ u.id ∈ v.attempt.ctx.outstanding ∧ u.id = id := by
  simp only [outstandingEngine, onVoice, Vks.voice, List.mem_map, List.mem_filter, List.mem_append, Option.mem_toList,
    decide_eq_true_eq]
  exact exists_congr fun u => by tauto

/-- What remains on the main voice and waiting for it when the attempt's engine utterances have gone. -/
theorem cut_engine_remains (v : Vks) :
    let c := cutNamed (outstandingEngine v) v
    let remains := fun u : Utterance => u.source = .say ∨ u.source = .echo ∨ u.id ∉ v.attempt.ctx.outstanding
    (∀ u ∈ c.sched.queue, u ∈ v.sched.queue ∧ remains u) ∧ (∀ u, c.reader.mainVoice.utterance = some u → remains u)
    ∧ (∀ u, v.reader.mainVoice.utterance = some u → u.id ∉ v.attempt.ctx.outstanding →
        c.reader.mainVoice = v.reader.mainVoice) := by
  intro c remains
  obtain ⟨hqueue, hvoice⟩ := cutNamed_none (outstandingEngine v) v
  have hleft (u : Utterance) (hheld : v.reader.mainVoice.utterance = some u ∨ u ∈ v.sched.queue) (hid : u.id ∉ outstandingEngine v) :
      remains u := by
    by_contra hnot
    simp only [remains, not_or, not_not] at hnot
    exact hid ((mem_outstandingEngine v u.id).mpr ⟨u, hheld, hnot.1, hnot.2.1, hnot.2.2, rfl⟩)
  refine ⟨fun u hu => ⟨(hqueue u hu).1, hleft u (.inr (hqueue u hu).1) (hqueue u hu).2⟩,
    fun u hu => hleft u (.inl (hvoice u hu).1) (hvoice u hu).2, fun u hu hid => ?_⟩
  refine (cutNamed_voice (outstandingEngine v) v).2 fun w hw hin => ?_
  obtain ⟨x, -, -, -, hout, hx⟩ := (mem_outstandingEngine v w.id).mp hin
  rw [hu] at hw
  cases hw
  exact hid (hx ▸ hout)

/-! ### The end of a request that cuts -/

/-- What an event's last starts and readings leave: attempt, lesson and, with nothing waiting for it or a busy voice, the echo. -/
theorem settle_startHeads_untouched (v : Vks) : Untouched (settle (startHeads v)) v := (settle_untouched _).trans (startHeads_untouched v)

theorem settle_startHeads_all (P : Utterance → Prop) (hbegun : ∀ u, P u → P (begun u)) (v : Vks)
    (hqueue : ∀ u ∈ v.sched.queue, P u) (hvoice : ∀ u, v.reader.mainVoice.utterance = some u → P u) :
    (∀ u ∈ (settle (startHeads v)).sched.queue, u ∈ v.sched.queue ∧ P u)
    ∧ ∀ u, (settle (startHeads v)).reader.mainVoice.utterance = some u → P u := by
  obtain ⟨hq, hv⟩ := (startHeads_takes v).all P hbegun hqueue hvoice
  obtain ⟨hq', hv'⟩ := (settle_takes (startHeads v)).all P hbegun hq hv
  exact ⟨fun u hu => ⟨(startHeads_takes v).queue u ((settle_takes (startHeads v)).queue u hu), hq' u hu⟩, hv'⟩

theorem settle_startHeads_busy (i : VoiceId) (v : Vks) (hbusy : (v.voice i).state ≠ .idle) :
    VoiceGoesOn ((settle (startHeads v)).voice i) (v.voice i) :=
  ((settle_kept (i := i) (startHeads v)).trans (startHeads_kept v)).busy hbusy

/-- The echo's side where nothing waits for its voice. -/
theorem settle_startHeads_echo_of_no_line (v : Vks) (hline : v.sched.echoLine = none) :
    (settle (startHeads v)).sched.echoLine = none
    ∧ (settle (startHeads v)).reader.echoVoice.utterance = v.reader.echoVoice.utterance := by
  obtain ⟨hvoice, hkeep, -⟩ := startMainHead_echo v
  have hheads : startHeads v = startMainHead v := startEchoHead_of_none _ (hkeep.trans hline)
  obtain ⟨hend, hnone⟩ := settle_echo_of_no_line (startHeads v) (by rw [hheads]; exact hkeep.trans hline)
  rw [hheads] at hend hnone ⊢
  generalize settle (startMainHead v) = t at hend hnone ⊢
  exact ⟨hnone, (goesOn_utterance hend).trans (goesOn_utterance hvoice)⟩

/-- The echo's side where its voice is busy. -/
theorem settle_startHeads_echo_of_busy (v : Vks) (hbusy : v.reader.echoVoice.state ≠ .idle) :
    (settle (startHeads v)).sched.echoLine = v.sched.echoLine
    ∧ (settle (startHeads v)).reader.echoVoice.utterance = v.reader.echoVoice.utterance := by
  have hline (x : Vks) (hx : x.reader.echoVoice.state ≠ .idle) : (startHeads x).sched.echoLine = x.sched.echoLine
      ∧ (startHeads x).reader.echoVoice.state ≠ .idle := by
    obtain ⟨hvoice, hkeep, -⟩ := startMainHead_echo x
    have hon : (startMainHead x).reader.echoVoice.state ≠ .idle := (hvoice.on hx).1
    rw [startHeads, startEchoHead_of_busy _ hon]
    exact ⟨hkeep, hon⟩
  obtain ⟨hfirst, hon⟩ := hline v hbusy
  have hutterance := goesOn_utterance (settle_startHeads_busy .echo v hbusy)
  have hsched := (settle_goesOn (startHeads v)).sched
  generalize settle (startHeads v) = t at hutterance hsched ⊢
  exact ⟨by rw [hsched, (hline (startHeads v) hon).1, hfirst], hutterance⟩

/-! ### ATTEMPT CANCEL (R46) -/

/-- R46: a taken ATTEMPT CANCEL, by what it does before the state becomes IDLE. -/
theorem exec_attemptCancel (s : State) (tag : Byte) (hawake : Awake s) (hstate : s.vks.attempt.state ≠ .idle) (closes : Bool) (x : Vks)
    (hcloses : cancelCloses s.vks = closes)
    (hx : (if closes then cancelOpen (setAuto false s.vks) else if s.vks.attempt.state = .gap then stopGap (setAuto false s.vks)
      else cancelClosing (setAuto false s.vks)) = x) :
    exec (.attemptCancel tag []) s = .next (withPart s (replying 0x21#8 tag .ok
      [BitVec.ofNat 8 s.vks.attempt.state.code, if closes then 1#8 else 0#8, 0#8, 0#8] []
      (settle (startHeads (setAttemptState .idle x))))) := by
  refine exec_answered _ 0x21#8 tag _ handleAttemptCancel s _ .ok (leBytes 1 s.vks.attempt.state.code ++ [flagByte closes]) _ [] rfl
    hawake (Nat.zero_le _) ?_ (by simp [padTo, leBytes, flagByte])
  rw [handleAttemptCancel, withoutArgument_nil, if_neg hstate]
  simp only [hcloses, hx]
  rfl

/-- The part of a cancelled attempt before its notice (R46). -/
def cancelledPart (v : Vks) : Vks :=
  let v2 := releaseUtterances (setEchoLine none (cutNamed (outstandingEngine v) v))
  setContext { v2.attempt.ctx with verdict := some .cancelled, verdictPosition := 0, closed := true } v2

theorem cancelOpen_eq (v : Vks) : cancelOpen v = raiseNotice (closedNotice (cancelledPart v).attempt.ctx) (cancelledPart v) := rfl

/-- R46: the open attempt closes CANCELLED. -/
theorem cancelOpen_frame (v : Vks) :
    (cancelOpen v).attempt = { v.attempt with ctx := { v.attempt.ctx with
      verdict := some .cancelled, verdictPosition := 0, closed := true, awaited := none, outstanding := [] } }
    ∧ (cancelOpen v).lesson = v.lesson ∧ (cancelOpen v).sched.echoLine = none
    ∧ (cancelOpen v).reader = (cutNamed (outstandingEngine v) v).reader
    ∧ (cancelOpen v).sched.queue = (cutNamed (outstandingEngine v) v).sched.queue
    ∧ OutsideAttempt (cancelOpen v) v
    ∧ (v.notices.queue.length < 16 → (cancelOpen v).notices.queue = v.notices.queue
        ++ [.attemptClosed v.attempt.ctx.word 8 v.attempt.ctx.tryNumber v.attempt.ctx.hintsUsed v.attempt.ctx.mistakes 0]) := by
  obtain ⟨houtside, hattempt, hlesson, -, -, hnotices, -⟩ := cutNamed_only (outstandingEngine v) v
  rw [cancelOpen_eq]
  have hv3 : (cancelledPart v).attempt = { v.attempt with ctx := { v.attempt.ctx with
      verdict := some .cancelled, verdictPosition := 0, closed := true, awaited := none, outstanding := [] } } := by
    show { (cutNamed (outstandingEngine v) v).attempt with ctx := { (cutNamed (outstandingEngine v) v).attempt.ctx with
      verdict := some .cancelled, verdictPosition := 0, closed := true, awaited := none, outstanding := [] } } = _
    rw [hattempt]
  have hnotice : closedNotice (cancelledPart v).attempt.ctx
      = .attemptClosed v.attempt.ctx.word 8 v.attempt.ctx.tryNumber v.attempt.ctx.hintsUsed v.attempt.ctx.mistakes 0 := by
    rw [hv3]
    rfl
  refine ⟨(raiseNotice_attempt _ _).trans hv3, (raiseNotice_lesson _ _).trans hlesson, by rw [raiseNotice_sched]; rfl,
    raiseNotice_reader _ _, by rw [raiseNotice_sched]; rfl, ?_, fun hroom => ?_⟩
  · exact (raiseNotice_untouched _ _).outside.trans ((setContext_outside _ _).trans ((setContext_outside _ _).trans
      ((setEchoLine_untouched none _).outside.trans houtside)))
  · have hqueue : (cancelledPart v).notices = v.notices := hnotices
    rw [hnotice, raiseNotice_queue _ _ (by rw [hqueue]; exact hroom), hqueue]

/-- R46: the closing response of a closed attempt goes, and its context stays but for what is awaited and outstanding. -/
theorem cancelClosing_frame (v : Vks) : (cancelClosing v).attempt = { v.attempt with
      ctx := { v.attempt.ctx with awaited := none, outstanding := [] } }
    ∧ (cancelClosing v).lesson = v.lesson ∧ OutsideAttempt (cancelClosing v) v
    ∧ (∀ k, v.attempt.ctx.awaited = some k → (∀ u ∈ (cancelClosing v).sched.queue, u ∈ v.sched.queue ∧ u.id ≠ k.2)
      ∧ ∀ u, (cancelClosing v).reader.mainVoice.utterance = some u → u.id ≠ k.2) := by
  cases hawaited : v.attempt.ctx.awaited with
  | none =>
    have heq : cancelClosing v = releaseUtterances v := by rw [cancelClosing, hawaited]
    rw [heq]
    exact ⟨rfl, rfl, setContext_outside _ v, fun k hk => by cases hk⟩
  | some k =>
    have heq : cancelClosing v = releaseUtterances (cutNamed [k.2] v) := by rw [cancelClosing, hawaited]
    obtain ⟨houtside, hattempt, hlesson, -, -, -, -⟩ := cutNamed_only [k.2] v
    obtain ⟨hqueue, hvoice⟩ := cutNamed_none [k.2] v
    rw [heq]
    refine ⟨?_, hlesson, (setContext_outside _ _).trans houtside, fun k' hk => ?_⟩
    · show { (cutNamed [k.2] v).attempt with ctx := { (cutNamed [k.2] v).attempt.ctx with awaited := none, outstanding := [] } } = _
      rw [hattempt]
    · cases hk
      exact ⟨fun u hu => ⟨(hqueue u hu).1, fun hid => (hqueue u hu).2 (by rw [hid]; exact List.mem_singleton.mpr rfl)⟩,
        fun u hu hid => (hvoice u hu).2 (by rw [hid]; exact List.mem_singleton.mpr rfl)⟩

theorem cancelCloses_of_open {v : Vks} (h : v.attempt.state = .prompting ∨ v.attempt.state = .listening
    ∨ (v.attempt.state = .responding ∧ v.attempt.ctx.closed = false)) : cancelCloses v = true := by
  rcases h with h | h | ⟨h, hclosed⟩
  · rw [cancelCloses, h]; rfl
  · rw [cancelCloses, h]; rfl
  · rw [cancelCloses, h, hclosed]; rfl

/-- Settles O32: the refusal, and the three ways an ATTEMPT CANCEL leads to IDLE. -/
theorem attemptCancelClosesTheAttempt : Obligations.AttemptCancelClosesTheAttempt := by
  intro s tag hawake
  refine ⟨fun hidle => ?refused, fun hopen => ?opened, fun hresponding hclosed => ?closing, fun hgap => ?gap⟩
  case refused =>
    refine exec_answered _ 0x21#8 tag _ handleAttemptCancel s _ .noAttempt [] _ [] rfl hawake (Nat.zero_le _) ?_ rfl
    rw [handleAttemptCancel, withoutArgument_nil, if_pos hidle]
    rfl
  case opened =>
    have hnotIdle : s.vks.attempt.state ≠ .idle := by rcases hopen with h | h | ⟨h, -⟩ <;> rw [h] <;> decide
    have hexec := exec_attemptCancel s tag hawake hnotIdle true _ (cancelCloses_of_open hopen) rfl
    simp only [if_true] at hexec
    obtain ⟨hattempt, hlesson, hline, hreader, hqueue, houtside, htold⟩ := cancelOpen_frame (setAuto false s.vks)
    obtain ⟨hremainQueue, hremainVoice, hstays⟩ := cut_engine_remains (setAuto false s.vks)
    rw [← hqueue] at hremainQueue
    rw [← hreader] at hremainVoice hstays
    have hend := settle_startHeads_untouched (setAttemptState .idle (cancelOpen (setAuto false s.vks)))
    obtain ⟨hall, hvoice⟩ := settle_startHeads_all (fun u => u.source = .say ∨ u.source = .echo ∨ u.id ∉ s.vks.attempt.ctx.outstanding)
      (fun _ h => h) (setAttemptState .idle (cancelOpen (setAuto false s.vks))) (fun u hu => (hremainQueue u hu).2) hremainVoice
    have hbusy := settle_startHeads_busy .main (setAttemptState .idle (cancelOpen (setAuto false s.vks)))
    obtain ⟨hnoLine, hecho⟩ := settle_startHeads_echo_of_no_line (setAttemptState .idle (cancelOpen (setAuto false s.vks))) hline
    have hjoin : NoticesJoin (settle (startHeads (setAttemptState .idle (cancelOpen (setAuto false s.vks)))))
        (cancelOpen (setAuto false s.vks)) := moves_join (l := 1) ((settle_moves _).trans ((startHeads_moves _).trans (setAttemptState_moves _ _)))
    have hechoCut : (cancelOpen (setAuto false s.vks)).reader.echoVoice = s.vks.reader.echoVoice := by
      rw [hreader]
      exact (cutNamed_only _ _).echoVoice
    have hctx := hend.ctx
    have hshelf := hend.shelf
    rw [show (setAttemptState .idle (cancelOpen (setAuto false s.vks))).attempt.ctx
      = (cancelOpen (setAuto false s.vks)).attempt.ctx from rfl, hattempt] at hctx
    rw [show (setAttemptState .idle (cancelOpen (setAuto false s.vks))).attempt.shelf
      = (cancelOpen (setAuto false s.vks)).attempt.shelf from rfl, hattempt] at hshelf
    have hless := hend.lesson.trans hlesson
    have hstate : (settle (startHeads (setAttemptState .idle (cancelOpen (setAuto false s.vks))))).attempt.state = .idle := hend.state
    have hout := hend.outside.trans ((setAttemptState_outside _ _).trans (houtside.trans (setLesson_outside _ s.vks)))
    replace hbusy : ∀ u, s.vks.reader.mainVoice.state ≠ .idle → s.vks.reader.mainVoice.utterance = some u →
        u.id ∉ s.vks.attempt.ctx.outstanding →
        ((settle (startHeads (setAttemptState .idle (cancelOpen (setAuto false s.vks))))).voice .main).utterance = some u := by
      intro u hon hu hid
      have hsame : (cancelOpen (setAuto false s.vks)).reader.mainVoice = s.vks.reader.mainVoice := hstays u hu hid
      have hvoiceMain : (setAttemptState .idle (cancelOpen (setAuto false s.vks))).voice .main = s.vks.reader.mainVoice := hsame
      rw [hvoiceMain] at hbusy
      exact ((hbusy hon).on hon).2.trans hu
    replace hall : ∀ u ∈ (settle (startHeads (setAttemptState .idle (cancelOpen (setAuto false s.vks))))).sched.queue,
        u ∈ s.vks.sched.queue ∧ (u.source = .say ∨ u.source = .echo ∨ u.id ∉ s.vks.attempt.ctx.outstanding) :=
      fun u hu => ⟨(hremainQueue u (hall u hu).1).1, (hall u hu).2⟩
    generalize settle (startHeads (setAttemptState .idle (cancelOpen (setAuto false s.vks)))) = t at *
    exact ⟨_, hexec, rfl, rfl, hstate, hshelf, hctx, hless, hall, hvoice, hbusy, hnoLine,
      hecho.trans (congrArg Voice.utterance hechoCut), fun hroom => by
        obtain ⟨later, hlater⟩ := hjoin.joined
        exact ⟨later, by rw [show (withPart s (replying 0x21#8 tag .ok _ [] t)).vks.notices = t.notices from rfl, hlater, htold hroom,
          List.append_assoc]; rfl⟩,
      replying_outside _ _ _ _ _ hout⟩
  case closing =>
    have hnotIdle : s.vks.attempt.state ≠ .idle := by rw [hresponding]; decide
    have hexec := exec_attemptCancel s tag hawake hnotIdle false (cancelClosing (setAuto false s.vks))
      (by rw [cancelCloses, hresponding, hclosed]; rfl) (by simp [hresponding])
    rw [hresponding] at hexec
    obtain ⟨hattempt, hlesson, houtside, hgone⟩ := cancelClosing_frame (setAuto false s.vks)
    have hend := settle_startHeads_untouched (setAttemptState .idle (cancelClosing (setAuto false s.vks)))
    have hctx : (settle (startHeads (setAttemptState .idle (cancelClosing (setAuto false s.vks))))).attempt.ctx
        = { s.vks.attempt.ctx with awaited := none, outstanding := [] } :=
      hend.ctx.trans (congrArg AttemptUnit.ctx hattempt)
    have hstate : (settle (startHeads (setAttemptState .idle (cancelClosing (setAuto false s.vks))))).attempt.state = .idle := hend.state
    have hless := hend.lesson.trans hlesson
    have hout := hend.outside.trans ((setAttemptState_outside _ _).trans (houtside.trans (setLesson_outside _ s.vks)))
    have hleft (k : AwaitKind × Nat) (hk : s.vks.attempt.ctx.awaited = some k) := settle_startHeads_all (fun u => u.id ≠ k.2)
      (fun _ h => h) (setAttemptState .idle (cancelClosing (setAuto false s.vks))) (fun u hu => ((hgone k hk).1 u hu).2) (hgone k hk).2
    replace hleft : ∀ k, s.vks.attempt.ctx.awaited = some k →
        (∀ u ∈ (settle (startHeads (setAttemptState .idle (cancelClosing (setAuto false s.vks))))).sched.queue,
          u ∈ s.vks.sched.queue ∧ u.id ≠ k.2)
        ∧ ∀ u, (settle (startHeads (setAttemptState .idle (cancelClosing (setAuto false s.vks))))).reader.mainVoice.utterance = some u →
          u.id ≠ k.2 := fun k hk =>
      ⟨fun u hu => ⟨((hgone k hk).1 u ((hleft k hk).1 u hu).1).1, ((hleft k hk).1 u hu).2⟩, (hleft k hk).2⟩
    generalize settle (startHeads (setAttemptState .idle (cancelClosing (setAuto false s.vks)))) = t at *
    exact ⟨_, hexec, rfl, rfl, hstate, hctx, hless, hleft, replying_outside _ _ _ _ _ hout⟩
  case gap =>
    have hexec := exec_attemptCancel s tag hawake (by rw [hgap]; decide) false (stopGap (setAuto false s.vks))
      (by rw [cancelCloses, hgap]; rfl) (by simp [hgap])
    rw [hgap] at hexec
    have hend := settle_startHeads_untouched (setAttemptState .idle (stopGap (setAuto false s.vks)))
    have hstate : (settle (startHeads (setAttemptState .idle (stopGap (setAuto false s.vks))))).attempt.state = .idle := hend.state
    have hctx : (settle (startHeads (setAttemptState .idle (stopGap (setAuto false s.vks))))).attempt.ctx = s.vks.attempt.ctx := hend.ctx
    have hless : (settle (startHeads (setAttemptState .idle (stopGap (setAuto false s.vks))))).lesson
        = { s.vks.lesson with auto := false, gapTimer := none } := hend.lesson
    have hout := hend.outside.trans ((setAttemptState_outside _ _).trans ((stopGap_outside _).trans (setLesson_outside _ s.vks)))
    generalize settle (startHeads (setAttemptState .idle (stopGap (setAuto false s.vks)))) = t at *
    exact ⟨_, hexec, rfl, rfl, hstate, hctx, hless, replying_outside _ _ _ _ _ hout⟩

/-! ### ATTEMPT SHELVE and UNSHELVE (R47 to R49) -/

/-- The part of a shelved attempt before the event's starts (R47). -/
def shelvedPart (v : Vks) : Vks :=
  let kept := shelvedContext v.attempt.ctx
  let v1 := setContext kept (cutNamed (outstandingEngine v) (discardShelf v))
  setAuto false (setAttemptState .idle { v1 with attempt := { v1.attempt with shelf := some kept } })

theorem handleAttemptShelve_open {v : Vks} (h : v.attempt.state = .prompting ∨ v.attempt.state = .listening) :
    handleAttemptShelve [] v = (settle (startHeads (shelvedPart v)), answerOk ([flagByte v.attempt.shelf.isSome, 0#8]
      ++ leBytes 2 (v.attempt.shelf.elim 0 Context.word))) := by
  have hword : (match v.attempt.shelf with | some c => c.word | none => 0) = v.attempt.shelf.elim 0 Context.word := by
    cases v.attempt.shelf <;> rfl
  rw [handleAttemptShelve, withoutArgument_nil]
  rcases h with h | h
  · simp only [h, ← hword]
    rfl
  · simp only [h, ← hword]
    rfl

theorem discardShelf_frame (v : Vks) : (discardShelf v).reader = v.reader ∧ (discardShelf v).sched = v.sched
    ∧ (discardShelf v).attempt = v.attempt ∧ (discardShelf v).lesson = v.lesson ∧ OutsideAttempt (discardShelf v) v := by
  unfold discardShelf
  split
  · exact ⟨raiseNotice_reader _ v, raiseNotice_sched _ v, raiseNotice_attempt _ v, raiseNotice_lesson _ v,
      (raiseNotice_untouched _ v).outside⟩
  · exact ⟨rfl, rfl, rfl, rfl, .refl v⟩

theorem cutNamed_congr (ids : List Nat) {a b : Vks} (hreader : a.reader = b.reader) (hsched : a.sched = b.sched) :
    (cutNamed ids a).reader = (cutNamed ids b).reader ∧ (cutNamed ids a).sched = (cutNamed ids b).sched := by
  have hon : onVoice (setQueue (a.sched.queue.filter (fun u => u.id ∉ ids)) a) .main
      = onVoice (setQueue (b.sched.queue.filter (fun u => u.id ∉ ids)) b) .main := by
    show a.reader.mainVoice.utterance.toList = b.reader.mainVoice.utterance.toList
    rw [hreader]
  unfold cutNamed
  simp only [hon]
  split
  · simp only [idleVoice, setVoice, setQueue, hreader, hsched]
    exact ⟨trivial, trivial⟩
  · simp only [setQueue, hreader, hsched]
    exact ⟨trivial, trivial⟩

/-- R47, R48: what a shelved attempt leaves before the event's starts. -/
theorem shelvedPart_frame (v : Vks) :
    (shelvedPart v).attempt.state = .idle ∧ (shelvedPart v).attempt.ctx = shelvedContext v.attempt.ctx
    ∧ (shelvedPart v).attempt.shelf = some (shelvedContext v.attempt.ctx) ∧ (shelvedPart v).lesson = { v.lesson with auto := false }
    ∧ (shelvedPart v).reader = (cutNamed (outstandingEngine v) v).reader ∧ (shelvedPart v).sched = (cutNamed (outstandingEngine v) v).sched
    ∧ (shelvedPart v).notices = (discardShelf v).notices ∧ OutsideAttempt (shelvedPart v) v := by
  obtain ⟨hreader, hsched, -, hlesson, houtside⟩ := discardShelf_frame v
  have hcut := cutNamed_only (outstandingEngine v) (discardShelf v)
  obtain ⟨hcutReader, hcutSched⟩ := cutNamed_congr (outstandingEngine v) hreader hsched
  refine ⟨rfl, rfl, rfl, ?_, hcutReader, hcutSched, hcut.notices, ?_⟩
  · show { (cutNamed (outstandingEngine v) (discardShelf v)).lesson with auto := false } = _
    rw [hcut.lesson, hlesson]
  · have hshelf (v1 : Vks) (c : Option Context) : OutsideAttempt { v1 with attempt := { v1.attempt with shelf := c } } v1 := by
      constructor <;> rfl
    exact (setLesson_outside _ _).trans ((setAttemptState_outside _ _).trans ((hshelf _ _).trans
      ((setContext_outside _ _).trans (hcut.outside.trans houtside))))

/-- Settles O33: the shelving and what it cuts, the return from the shelf with its prompt, and the refusals. -/
theorem shelveAndUnshelveMoveTheAttempt : Obligations.ShelveAndUnshelveMoveTheAttempt := by
  intro s tag hawake
  refine ⟨fun hopen => ?shelve, fun hresponding => ?busy, fun hclosed => ?none, fun hclosed c hshelf => ?unshelve,
    fun hclosed hshelf => ?empty, fun hopen => ?opened⟩
  case shelve =>
    obtain ⟨hstate, hctx, hshelf, hlesson, hreader, hsched, hnotices, houtside⟩ := shelvedPart_frame s.vks
    obtain ⟨hremainQueue, hremainVoice, hstays⟩ := cut_engine_remains s.vks
    rw [← hsched] at hremainQueue
    rw [← hreader] at hremainVoice hstays
    have hcut := cutNamed_only (outstandingEngine s.vks) s.vks
    have hecho : (shelvedPart s.vks).reader.echoVoice = s.vks.reader.echoVoice := by rw [hreader]; exact hcut.echoVoice
    have hline : (shelvedPart s.vks).sched.echoLine = s.vks.sched.echoLine := by rw [hsched]; exact hcut.echoLine
    have hend := settle_startHeads_untouched (shelvedPart s.vks)
    obtain ⟨hall, hvoice⟩ := settle_startHeads_all (fun u => u.source = .say ∨ u.source = .echo ∨ u.id ∉ s.vks.attempt.ctx.outstanding)
      (fun _ h => h) (shelvedPart s.vks) (fun u hu => (hremainQueue u hu).2) hremainVoice
    replace hall : ∀ u ∈ (settle (startHeads (shelvedPart s.vks))).sched.queue,
        u ∈ s.vks.sched.queue ∧ (u.source = .say ∨ u.source = .echo ∨ u.id ∉ s.vks.attempt.ctx.outstanding) :=
      fun u hu => ⟨(hremainQueue u (hall u hu).1).1, (hall u hu).2⟩
    have hbusy : ∀ u, s.vks.reader.mainVoice.state ≠ .idle → s.vks.reader.mainVoice.utterance = some u →
        u.id ∉ s.vks.attempt.ctx.outstanding →
        ((settle (startHeads (shelvedPart s.vks))).voice .main).utterance = some u := by
      intro u hon hu hid
      have hgo := settle_startHeads_busy .main (shelvedPart s.vks)
      rw [show (shelvedPart s.vks).voice .main = s.vks.reader.mainVoice from hstays u hu hid] at hgo
      exact ((hgo hon).on hon).2.trans hu
    have hechoKept : s.vks.reader.echoVoice.state ≠ .idle →
        (settle (startHeads (shelvedPart s.vks))).sched.echoLine = s.vks.sched.echoLine
        ∧ (settle (startHeads (shelvedPart s.vks))).reader.echoVoice.utterance = s.vks.reader.echoVoice.utterance := by
      intro hon
      have h := settle_startHeads_echo_of_busy (shelvedPart s.vks) (by rw [hecho]; exact hon)
      rw [hline, hecho] at h
      exact h
    have hjoin : NoticesJoin (settle (startHeads (shelvedPart s.vks))) (shelvedPart s.vks) :=
      moves_join (l := 1) ((settle_moves _).trans (startHeads_moves _))
    have hout := hend.outside.trans houtside
    have hexec (data : List Byte) (hdata : padTo 4 ([flagByte s.vks.attempt.shelf.isSome, 0#8]
        ++ leBytes 2 (s.vks.attempt.shelf.elim 0 Context.word)) = data) : exec (.attemptShelve tag []) s
          = .next (withPart s (replying 0x22#8 tag .ok data [] (settle (startHeads (shelvedPart s.vks))))) :=
      exec_answered _ 0x22#8 tag _ handleAttemptShelve s _ .ok ([flagByte s.vks.attempt.shelf.isSome, 0#8]
        ++ leBytes 2 (s.vks.attempt.shelf.elim 0 Context.word)) data [] rfl hawake (Nat.zero_le _) (handleAttemptShelve_open hopen) hdata
    have hst := hend.state.trans hstate
    have hcx := hend.ctx.trans hctx
    have hsh := hend.shelf.trans hshelf
    have hls := hend.lesson.trans hlesson
    have htold : ∀ c, s.vks.attempt.shelf = some c → s.vks.notices.queue.length < 16 →
        ∃ later, (settle (startHeads (shelvedPart s.vks))).notices.queue = s.vks.notices.queue ++ .shelfLost c.word :: later := by
      intro c hc hroom
      obtain ⟨later, hlater⟩ := hjoin.joined
      have hdiscard : discardShelf s.vks = raiseNotice (.shelfLost c.word) s.vks := by rw [discardShelf, hc]
      exact ⟨later, by rw [hlater, hnotices, hdiscard, raiseNotice_queue _ _ hroom, List.append_assoc]; rfl⟩
    generalize settle (startHeads (shelvedPart s.vks)) = t at *
    cases hold : s.vks.attempt.shelf with
    | none =>
      exact ⟨_, hexec [0#8, 0#8, 0#8, 0#8] (by rw [hold]; rfl), rfl, rfl, hst, hcx, hsh, hls, hall, hvoice, hbusy, hechoKept,
        fun _ => replying_outside _ _ _ _ _ hout, fun c hc => by cases hc⟩
    | some c =>
      exact ⟨_, hexec ([1#8, 0#8] ++ leBytes 2 c.word) (by rw [hold]; rfl), rfl, rfl, hst, hcx, hsh, hls, hall, hvoice, hbusy,
        hechoKept, (by intro h; cases h), fun d hd => by
          cases hd
          exact ⟨replying_outside _ _ _ _ _ hout, htold c hold⟩⟩
  case busy =>
    refine exec_answered _ 0x22#8 tag _ handleAttemptShelve s _ .busy (leBytes 1 s.vks.attempt.state.code) _ [] rfl hawake
      (Nat.zero_le _) ?_ (by rw [hresponding]; rfl)
    rw [handleAttemptShelve, withoutArgument_nil]
    simp only [hresponding]
    rw [busyAttempt, hresponding]
    rfl
  case none =>
    refine exec_answered _ 0x22#8 tag _ handleAttemptShelve s _ .noAttempt [] _ [] rfl hawake (Nat.zero_le _) ?_ rfl
    rw [handleAttemptShelve, withoutArgument_nil]
    rcases hclosed with h | h
    · simp only [h]
      rfl
    · simp only [h]
      rfl
  case unshelve =>
    obtain ⟨⟨hstate, hshelfKept, ⟨awaited, outstanding, hctx⟩, hawaits, hlesson⟩, hspeaks, htold, hout⟩ := opened_settled
      (stopGap { s.vks with attempt := { s.vks.attempt with ctx := unshelvedContext c, shelf := none } })
    have hcode := (settle_untouched (beginPrompting
      (stopGap { s.vks with attempt := { s.vks.attempt with ctx := unshelvedContext c, shelf := none } }))).state
    have hground : OutsideAttempt (stopGap { s.vks with attempt := { s.vks.attempt with ctx := unshelvedContext c, shelf := none } }) s.vks := by
      constructor <;> rfl
    have hexec : exec (.attemptUnshelve tag []) s = .next (withPart s (replying 0x23#8 tag .ok (leBytes 2 c.word
        ++ [BitVec.ofNat 8 (settle (beginPrompting (stopGap { s.vks with
          attempt := { s.vks.attempt with ctx := unshelvedContext c, shelf := none } }))).attempt.state.code, 0#8]) []
        (settle (beginPrompting (stopGap { s.vks with
          attempt := { s.vks.attempt with ctx := unshelvedContext c, shelf := none } }))))) := by
      rw [hcode]
      refine exec_answered _ 0x23#8 tag _ handleAttemptUnshelve s _ .ok (leBytes 2 c.word ++ leBytes 1 (beginPrompting
        (stopGap { s.vks with attempt := { s.vks.attempt with ctx := unshelvedContext c, shelf := none } })).attempt.state.code) _ []
        rfl hawake (Nat.zero_le _) ?_ (by simp [padTo, leBytes])
      rw [handleAttemptUnshelve, withoutArgument_nil, if_neg (by rw [isOpen_eq_false hclosed]; decide)]
      simp only [hshelf]
      rfl
    have hitems (e : WordEntry) (hentry : s.vks.entry c.word = some e) (hprompts : e.prompts ≠ []) :
        promptItems (stopGap { s.vks with attempt := { s.vks.attempt with ctx := unshelvedContext c, shelf := none } })
          = e.prompts.map Item.seg := promptItems_of_prompts hentry hprompts
    generalize settle (beginPrompting (stopGap { s.vks with
      attempt := { s.vks.attempt with ctx := unshelvedContext c, shelf := none } })) = t at *
    refine ⟨_, hexec, rfl, rfl, hshelfKept, hstate, ⟨awaited, outstanding, hctx⟩, fun e hentry hprompts hroom hnone => ?_,
      fun hamp hwarmup hroom hnotices => htold hamp hwarmup hroom hnotices, hlesson, replying_outside _ _ _ _ _ (hout.trans hground)⟩
    obtain ⟨hst, haw, houts, hqueued⟩ := hspeaks (by rw [hitems e hentry hprompts]; simpa using hprompts) hroom
    rw [hitems e hentry hprompts] at hqueued
    refine ⟨hst, haw, ?_, hqueued⟩
    refine houts.trans ?_
    show c.outstanding.filter _ ++ [_] = _
    rw [hnone]
    rfl
  case empty =>
    refine exec_answered _ 0x23#8 tag _ handleAttemptUnshelve s _ .noAttempt [] _ [] rfl hawake (Nat.zero_le _) ?_ rfl
    rw [handleAttemptUnshelve, withoutArgument_nil, if_neg (by rw [isOpen_eq_false hclosed]; decide)]
    simp only [hshelf]
    rfl
  case opened =>
    refine exec_answered _ 0x23#8 tag _ handleAttemptUnshelve s _ .busy (leBytes 1 s.vks.attempt.state.code) _ [] rfl hawake
      (Nat.zero_le _) ?_ (padTo_four_one _)
    rw [handleAttemptUnshelve, withoutArgument_nil, if_pos ((isOpen_eq_true_iff _).mpr hopen)]
    rfl

end Sys2Proof.Interruptions
end

section
/-! SUPPORT. The attempt's timers: the nudge, the abandoned attempt and the end of the gap (R43, R45, R58), and what a close says of
the context where lesson auto mode is off. -/

namespace Sys2Proof.AttemptTimers

open Sys2Proof.Machine Sys2Proof.EventMoves Sys2Proof.EventFrames Sys2Proof.VoiceFrames Sys2Proof.SpeechKept
  Sys2Proof.AttemptSteps Sys2Proof.AttemptEnds

theorem stopInactivity_ground (v : Vks) : SameGround (stopInactivity v) v := ⟨stopInactivity_outside v, rfl, rfl, fun h _ => ⟨h, rfl⟩⟩

theorem setContext_ground (c : Context) (v : Vks) : SameGround (setContext c v) v :=
  ⟨setContext_outside c v, rfl, rfl, fun h _ => ⟨h, rfl⟩⟩

/-- The context of a closed attempt, lesson auto mode off: what it was closed with, what is awaited and outstanding aside. -/
theorem closes_context {v t : Vks} {c : Context} {verdict : Verdict} {p : Nat} (h : ClosesAttempt v t c verdict p)
    (hauto : v.lesson.auto = false) : (t.attempt.state = .responding ∨ t.attempt.state = .idle)
    ∧ ∃ awaited outstanding, t.attempt.ctx
      = { closedContext verdict p c with awaited := awaited, outstanding := outstanding } := by
  obtain ⟨⟨hspoken, hended⟩, -, -⟩ := h
  by_cases hend : expandAll v ⟨v.entry c.word, c.buffer, p, some verdict⟩ (v.row (closeRow verdict (closeClass verdict c))) = []
      ∨ TurnsAway v
  · have hcounted := (Grading.countClose_lists v c.word verdict (closeClass verdict c) c.origin).2.2.1
    obtain ⟨hstate, -, hctx⟩ := (hended hend).idle (hcounted.trans hauto)
    exact ⟨.inr hstate, _, _, hctx⟩
  · obtain ⟨hstate, -, hctx, -⟩ := hspoken (fun hn => hend (.inl hn)) fun hn => hend (.inr hn)
    exact ⟨.inl hstate, _, _, hctx⟩

/-! ### The inactivity timer (R43) -/

theorem exec_inactivityExpiry_due (s : State) (hstate : s.vks.attempt.state = .listening)
    (hout : s.vks.attempt.ctx.outstanding = []) (hon : s.vks.params.inactivity ≠ 0) (hdue : s.vks.attempt.inactivity = some 0) :
    exec .inactivityExpiry s = .next (withPart s (settle (inactivityExpires (stopInactivity s.vks)))) := by
  have hcounts : inactivityCounts s.vks = true := by simp [inactivityCounts, hstate, hout, hon]
  show Host.Outcome.next (withPart s (inactivityExpiry s.vks)) = _
  rw [inactivityExpiry, if_pos ⟨hdue, hcounts⟩]

/-- The part with `nudged` set, before row NUDGE is requested (R43). -/
def nudging (v : Vks) : Vks := setContext { v.attempt.ctx with nudged := true } (stopInactivity v)

/-- The items of a nudge (R43, R97). -/
def nudgeItems (v : Vks) : List Item := expandAll v ⟨v.attemptEntry, v.attempt.ctx.buffer,
  hintPosition v.attempt.ctx.buffer v.target, none⟩ (v.row 14)

theorem inactivityExpires_nudge {v : Vks} (h : v.attempt.ctx.nudged = false) : inactivityExpires (stopInactivity v)
    = (requestEngine .hint (v.row 14) ⟨v.attemptEntry, v.attempt.ctx.buffer,
        hintPosition v.attempt.ctx.buffer v.target, none⟩ (nudging v)).1 :=
  if_neg (show ¬ v.attempt.ctx.nudged = true by rw [h]; decide)

theorem inactivityExpires_abandon {v : Vks} (h : v.attempt.ctx.nudged = true) : inactivityExpires (stopInactivity v)
    = closeAttempt .abandoned 0 (stopInactivity v) := if_pos h

theorem nudge_spoken {v : Vks} (hout : v.attempt.ctx.outstanding = []) (hitems : nudgeItems v ≠ []) (hroom : v.sched.queue.length < 16) :
    (requestEngine .hint (v.row 14) ⟨v.attemptEntry, v.attempt.ctx.buffer,
      hintPosition v.attempt.ctx.buffer v.target, none⟩ (nudging v)).1.attempt.ctx.outstanding = [v.sched.nextId] := by
  have hitems' : expandAll (nudging v) ⟨v.attemptEntry, v.attempt.ctx.buffer, hintPosition v.attempt.ctx.buffer v.target, none⟩
      (v.row 14) ≠ [] := by
    rw [expandAll_congr (a := nudging v) (b := v) rfl]
    exact hitems
  obtain ⟨-, houtstanding, -⟩ := requestEngine_speaks .hint hitems' (fun h : TurnsAway (nudging v) => Nat.not_le.mpr hroom h.1) (by decide)
  rw [houtstanding]
  show v.attempt.ctx.outstanding.filter _ ++ _ = _
  rw [hout]
  rfl

/-! ### The obligation -/

/-- Settles O54: the nudge, the abandoned attempt, the walk at the end of the gap, and what is not due. -/
theorem attemptTimersActWhenDue : Obligations.AttemptTimersActWhenDue := by
  intro s
  refine ⟨fun hstate hout hon hdue => ⟨fun hnudged => ?nudge, fun hnudged hauto => ?abandon, fun hnudged => ?closes⟩,
    fun hnot => ?idle, fun hstate hdue => ⟨fun bad e rest x hentries hbad hvalid => ?walk, fun hbad => ?empty⟩, fun hnot => ?quiet⟩
  case nudge =>
    have hexec := exec_inactivityExpiry_due s hstate hout hon hdue
    rw [inactivityExpires_nudge hnudged] at hexec
    have hspoken := nudge_spoken hout (v := s.vks)
    have houtside := (requestEngine_outside .hint (s.vks.row 14) ⟨s.vks.attemptEntry, s.vks.attempt.ctx.buffer,
      hintPosition s.vks.attempt.ctx.buffer s.vks.target, none⟩ (nudging s.vks)).trans
      ((setContext_outside _ _).trans (stopInactivity_outside s.vks))
    obtain ⟨⟨outstanding, hattempt⟩, hlesson, -, -⟩ := requestEngine_only .hint (s.vks.row 14) ⟨s.vks.attemptEntry,
      s.vks.attempt.ctx.buffer, hintPosition s.vks.attempt.ctx.buffer s.vks.target, none⟩ (nudging s.vks)
    generalize (requestEngine .hint (s.vks.row 14) ⟨s.vks.attemptEntry, s.vks.attempt.ctx.buffer,
      hintPosition s.vks.attempt.ctx.buffer s.vks.target, none⟩ (nudging s.vks)).1 = y at *
    have hend := settle_untouched y
    rw [hattempt] at hspoken
    generalize settle y = t at *
    exact ⟨_, hexec, rfl, rfl, hend.state.trans (by rw [hattempt]; exact hstate), hend.lesson.trans hlesson,
      ⟨outstanding, hend.ctx.trans (by rw [hattempt]; rfl), hspoken⟩, hend.outside.trans houtside⟩
  case abandon =>
    have hexec := exec_inactivityExpiry_due s hstate hout hon hdue
    rw [inactivityExpires_abandon hnudged] at hexec
    have hclose : ClosesAttempt s.vks (settle (closeAttempt .abandoned 0 (stopInactivity s.vks))) s.vks.attempt.ctx .abandoned 0 :=
      closeAttempt_closes .abandoned 0 (stopInactivity_ground s.vks) rfl (settle_staysSaid _)
    obtain ⟨hend, awaited, outstanding, hctx⟩ := closes_context hclose hauto
    have houtside := (settle_untouched (closeAttempt .abandoned 0 (stopInactivity s.vks))).outside.trans
      ((closeAttempt_outside .abandoned 0 (stopInactivity s.vks)).trans (stopInactivity_outside s.vks))
    have hlamp := hclose.lamps.2 (by decide)
    generalize settle (closeAttempt .abandoned 0 (stopInactivity s.vks)) = t at *
    refine ⟨_, hexec, rfl, rfl, hend, ?_, ?_, ?_, ?_, hlamp, houtside⟩ <;>
      exact (congrArg _ hctx).trans rfl
  case closes =>
    have hexec := exec_inactivityExpiry_due s hstate hout hon hdue
    rw [inactivityExpires_abandon hnudged] at hexec
    exact ⟨_, hexec, closeAttempt_closes .abandoned 0 (stopInactivity_ground s.vks) rfl (settle_staysSaid _)⟩
  case idle =>
    show Host.Outcome.next (withPart s (inactivityExpiry s.vks)) = _
    rw [inactivityExpiry, if_neg fun h => hnot h.1]
    rfl
  case walk =>
    have hexec : exec .gapExpiry s = .next (withPart s (settle (lessonWalk s.vks))) := by
      show Host.Outcome.next (withPart s (gapExpiry s.vks)) = _
      rw [gapExpiry, if_pos ⟨hstate, hdue⟩]
    obtain ⟨hlesson, hopen, hword, horigin, hsettings⟩ := (lessonWalk_takes s.vks).opens bad e rest x hentries hbad hvalid
    have houtside := lessonWalk_outside s.vks
    generalize lessonWalk s.vks = y at *
    obtain hend := settle_untouched y
    rw [← hend.state] at hopen
    have hout := hend.outside.trans houtside
    have hctx := hend.ctx
    have hls := hend.lesson
    generalize settle y = t at *
    exact ⟨_, hexec, rfl, rfl, hls.trans hlesson, hopen, (congrArg Context.word hctx).trans hword,
      (congrArg Context.origin hctx).trans horigin, (congrArg Context.settings hctx).trans hsettings, hout⟩
  case empty =>
    have hexec : exec .gapExpiry s = .next (withPart s (settle (lessonWalk s.vks))) := by
      show Host.Outcome.next (withPart s (gapExpiry s.vks)) = _
      rw [gapExpiry, if_pos ⟨hstate, hdue⟩]
    obtain ⟨hlesson, hidle⟩ := (lessonWalk_takes s.vks).empties hbad
    have houtside := lessonWalk_outside s.vks
    have hwalk := lessonWalk_of_none hbad
    have hjoin := settle_join (lessonWalk s.vks)
    have htold : s.vks.notices.queue.length < 16 → ∃ later, (settle (lessonWalk s.vks)).notices.queue
        = s.vks.notices.queue ++ .lessonEmpty s.vks.lesson.entries.length :: later := by
      intro hroom
      rw [hwalk] at hjoin ⊢
      exact hjoin.raised _ hroom
    generalize lessonWalk s.vks = y at *
    have hend := settle_untouched y
    generalize settle y = t at *
    exact ⟨_, hexec, hend.state.trans hidle, hend.lesson.trans hlesson, htold, hend.outside.trans houtside⟩
  case quiet =>
    show Host.Outcome.next (withPart s (gapExpiry s.vks)) = _
    rw [gapExpiry, if_neg fun h => hnot.elim (fun k => k h.1) fun k => k h.2]
    rfl

end Sys2Proof.AttemptTimers
end

section
/-! SUPPORT. Echoes (R26, R108, R109): what a request for one leaves, and where the echo is afterwards. -/

namespace Sys2Proof.Echoes

open Sys2Proof.Machine Sys2Proof.EventMoves Sys2Proof.EventFrames Sys2Proof.VoiceFrames Sys2Proof.SpeechKept
  Sys2Proof.AttemptSteps Sys2Proof.AttemptEnds Sys2Proof.AttemptTimers

/-! ### What an echo's arrival leaves -/

/-- The steps of an arriving echo: the outstanding set aside, attempt, lesson unit and lamps stay, and where the amplifier has to
warm up nothing is raised. -/
structure EchoStep (a b : Vks) : Prop where
  attempt : ∃ outstanding, a.attempt = { b.attempt with ctx := { b.attempt.ctx with outstanding := outstanding } }
  lesson : a.lesson = b.lesson
  correct : a.notices.correct = b.notices.correct
  wrong : a.notices.wrong = b.notices.wrong
  params : a.params = b.params
  quiet : b.power.amp ≠ .on → b.params.ampWarmup ≠ 0 → a.power.amp ≠ .on ∧ a.notices = b.notices

theorem EchoStep.refl (v : Vks) : EchoStep v v := ⟨⟨_, rfl⟩, rfl, rfl, rfl, rfl, fun h _ => ⟨h, rfl⟩⟩

theorem EchoStep.trans {a b c : Vks} (h : EchoStep a b) (k : EchoStep b c) : EchoStep a c where
  attempt := by
    obtain ⟨o, ho⟩ := h.attempt
    obtain ⟨p, hp⟩ := k.attempt
    exact ⟨o, by rw [ho, hp]⟩
  lesson := h.lesson.trans k.lesson
  correct := h.correct.trans k.correct
  wrong := h.wrong.trans k.wrong
  params := h.params.trans k.params
  quiet hamp hwarmup := by
    obtain ⟨hb, hnb⟩ := k.quiet hamp hwarmup
    obtain ⟨ha, hna⟩ := h.quiet hb (by rw [k.params]; exact hwarmup)
    exact ⟨ha, hna.trans hnb⟩

/-- An amplifier that has to warm up is not ON after a start. -/
theorem amp_not_on_of_steady {a b : Vks} (h : AmpSteady a b) (hamp : b.power.amp ≠ .on) (hwarmup : b.params.ampWarmup ≠ 0) :
    a.power.amp ≠ .on := by
  cases hb : b.power.amp with
  | on => exact absurd hb hamp
  | warming =>
    rw [(h.warming hb).1]
    decide
  | off =>
    rcases h.off hb hwarmup with ha | ⟨ha, -⟩ <;> rw [ha] <;> decide

theorem startVoice_echoStep (i : VoiceId) (u : Utterance) (v : Vks) : EchoStep (startVoice i u v) v := by
  have hb : Bare (startVoice i u v) v := moves_bare (l := 0) (startVoice_moves i u v)
  exact ⟨⟨_, hb.attempt⟩, hb.lesson, hb.correct, hb.wrong, (startVoice_untouched i u v).params,
    fun hamp hwarmup => ⟨amp_not_on_of_steady (moves_ampSteady (startVoice_moves i u v)) hamp hwarmup,
      startVoice_quiet i u v hamp hwarmup⟩⟩

theorem forget_echoStep (id : Nat) (v : Vks) : EchoStep (forget id v) v := ⟨⟨_, rfl⟩, rfl, rfl, rfl, rfl, fun h _ => ⟨h, rfl⟩⟩

theorem setEchoLine_echoStep (u : Option Utterance) (v : Vks) : EchoStep (setEchoLine u v) v :=
  ⟨⟨_, rfl⟩, rfl, rfl, rfl, rfl, fun h _ => ⟨h, rfl⟩⟩

theorem dropWaitingEcho_echoStep (v : Vks) : EchoStep (dropWaitingEcho v) v := by
  unfold dropWaitingEcho
  split
  · exact (setEchoLine_echoStep _ _).trans (forget_echoStep _ v)
  · exact .refl v

theorem cutPlayingEcho_echoStep (v : Vks) : EchoStep (cutPlayingEcho v) v := by
  have hidle : EchoStep (idleVoice .echo v) v := ⟨⟨_, rfl⟩, rfl, rfl, rfl, rfl, fun h _ => ⟨h, rfl⟩⟩
  unfold cutPlayingEcho
  split
  · exact (forget_echoStep _ _).trans hidle
  · exact hidle

theorem placeEcho_echoStep (u : Utterance) (v : Vks) : EchoStep (placeEcho u v) v := by
  have hdrop := dropWaitingEcho_echoStep v
  unfold placeEcho
  simp only
  split
  · split
    · exact (startVoice_echoStep _ _ _).trans hdrop
    · exact (setEchoLine_echoStep _ _).trans hdrop
  · split
    · exact (startVoice_echoStep _ _ _).trans ((cutPlayingEcho_echoStep _).trans hdrop)
    · exact (setEchoLine_echoStep _ _).trans hdrop
  · exact (setEchoLine_echoStep _ _).trans hdrop

/-- The echo a request makes (R26, R108). -/
def echoUtterance (item : Item) (v : Vks) : Utterance :=
  ⟨v.sched.nextId, .echo, 0#8, [if v.storeLink then .tone .click else item], 0, 0, false, false, false⟩

theorem requestEcho_eq (item : Item) (v : Vks) : requestEcho item v = placeEcho (echoUtterance item v) (registered v) := rfl

theorem requestEcho_only (item : Item) (v : Vks) : OnlyRequests (requestEcho item v) v := by
  obtain ⟨⟨outstanding, hattempt⟩, hlesson, hcorrect, hwrong, -, -⟩ := placeEcho_echoStep (echoUtterance item v) (registered v)
  exact ⟨⟨outstanding, hattempt⟩, hlesson, hcorrect, hwrong⟩

theorem requestEcho_ground (item : Item) (v : Vks) : SameGround (requestEcho item v) v where
  outside := requestEcho_outside item v
  lesson := (requestEcho_only item v).lesson
  queue := (requestEcho_main item v).queue
  nextNotices hamp hwarmup := by
    obtain ⟨hquiet, hnotices⟩ := (placeEcho_echoStep (echoUtterance item v) (registered v)).quiet hamp hwarmup
    exact ⟨hquiet, congrArg NoticeUnit.queue hnotices⟩

/-- What a request for a letter echo leaves: all but the outstanding set and the inactivity timer. -/
theorem letterEcho_after (style : EchoStyle) (c : Nat) (v : Vks) : SameGround (letterEcho style c v) v
    ∧ ∃ timer outstanding, (letterEcho style c v).attempt
        = { v.attempt with inactivity := timer, ctx := { v.attempt.ctx with outstanding := outstanding } } := by
  have hechoed (item : Item) : SameGround (requestEcho item v) v ∧ ∃ timer outstanding, (requestEcho item v).attempt
      = { v.attempt with inactivity := timer, ctx := { v.attempt.ctx with outstanding := outstanding } } := by
    obtain ⟨outstanding, hattempt⟩ := (requestEcho_only item v).attempt
    exact ⟨requestEcho_ground item v, none, outstanding, hattempt⟩
  cases style with
  | name => exact hechoed _
  | sound => exact hechoed _
  | none => exact ⟨.refl v, _, _, rfl⟩

/-! ### Where it is -/

/-- R26, R108: a requested echo is on the echo voice or waiting, and stays so through what keeps the echo voice's side. -/
theorem echoQueued_of_request {t x v : Vks} {item : Item} (hkept : Kept .echo t (requestEcho item x)) (hsched : x.sched = v.sched)
    (hstore : x.reader.store = v.reader.store) : EchoQueued v t item := by
  obtain ⟨w, hw, hsame⟩ := placeEcho_holds (echoUtterance item x) (registered x)
  obtain ⟨y, hy, hsame'⟩ := hkept.holds w (by rw [hsame.2.1]; exact nofun) hw
  refine echoQueued_of_holds hy (hsame'.trans hsame) (congrArg Scheduler.nextId hsched) rfl ?_
  show [if x.storeLink then Item.tone Tone.click else item] = _
  rw [Vks.storeLink, hstore]
  simp only [Bool.or_eq_true, decide_eq_true_eq]

/-- R22, R99: a request that is not turned away is spoken or waiting, and stays so through what keeps the main voice's side. -/
theorem engineQueued_of_request {t x v : Vks} {source : Source} {parts : List Part} {e : Expansion} {items : List Item}
    (hkept : Kept .main t (requestEngine source parts e x).1) (hsched : x.sched = v.sched) (hsay : source ≠ .say)
    (hitems : expandAll x e parts = items) (hsome : items ≠ []) (hroom : v.sched.queue.length < 16) : EngineQueued v t source items := by
  subst hitems
  obtain ⟨-, -, w, hw, hsource, hsame⟩ := requestEngine_speaks source hsome
    (fun hturned => Nat.not_le.mpr hroom (by rw [← hsched]; exact hturned.1)) hsay
  obtain ⟨y, hy, hsame'⟩ := hkept.holds w hsource hw
  exact engineQueued_of_holds hy (hsame'.trans hsame) (congrArg Scheduler.nextId hsched) rfl rfl

end Sys2Proof.Echoes
end

section
/-! SUPPORT. Letters and hints (R29, R30, R38 to R41): the letter that matches, the mistake, and what a hint speaks, enters or
refuses; then the keys in immediate mode. -/

namespace Sys2Proof.LetterKeys

open Sys2Proof.Machine Sys2Proof.EventMoves Sys2Proof.EventFrames Sys2Proof.VoiceFrames Sys2Proof.SpeechKept
  Sys2Proof.AttemptSteps Sys2Proof.AttemptEnds Sys2Proof.AttemptTimers Sys2Proof.Echoes

/-! ### Presses in LISTENING (R25) -/

section
variable {v : Vks} (c : Nat) (h : v.attempt.state = .listening)

include h

theorem press_letter : handlePress .letter c v = takeLetter c v := by simp only [handlePress, h]

theorem press_erase : handlePress .erase c v = takeErase v := by simp only [handlePress, h]

theorem press_submit : handlePress .submit c v = takeSubmit v := by simp only [handlePress, h]

theorem press_hint : handlePress .hint c v = takeHint v := by simp only [handlePress, h]

theorem press_repeat : handlePress .repeatPrompt c v = takeRepeat v := by simp only [handlePress, h]

end

/-! ### A letter that is entered (R29, R39) -/

/-- The part with a letter appended, before its echo (R29). -/
def matched (c : Nat) (y : Vks) : Vks :=
  setContext { y.attempt.ctx with buffer := y.attempt.ctx.buffer ++ [c], hintStage := 0 } y

theorem attemptEntry_congr {a b : Vks} (hwords : a.words = b.words) (hword : a.attempt.ctx.word = b.attempt.ctx.word) :
    a.attemptEntry = b.attemptEntry := by
  rw [Vks.attemptEntry, Vks.attemptEntry, Vks.entry, Vks.entry, hwords, hword]

theorem enterMatch_eq {y : Vks} {e : WordEntry} (style : EchoStyle) (c : Nat) (hentry : y.attemptEntry = some e) : enterMatch style c y
    = if y.attempt.ctx.buffer.length + 1 = e.letters.length then closeAttempt .exact 0 (letterEcho style c (matched c y))
      else letterEcho style c (matched c y) := by
  obtain ⟨hground, timer, outstanding, hattempt⟩ := letterEcho_after style c (matched c y)
  have hlength : (letterEcho style c (matched c y)).attempt.ctx.buffer.length = y.attempt.ctx.buffer.length + 1 := by
    rw [hattempt]
    exact List.length_append
  have htarget : (letterEcho style c (matched c y)).target = e.letters := by
    rw [Vks.target, attemptEntry_congr (b := y) hground.outside.words (by rw [hattempt]; rfl), hentry]
  show (if (letterEcho style c (matched c y)).attempt.ctx.buffer.length = (letterEcho style c (matched c y)).target.length
    then closeAttempt .exact 0 (letterEcho style c (matched c y)) else letterEcho style c (matched c y)) = _
  rw [hlength, htarget]

/-- A letter entered on the context `ctx`: echoed, and the word goes on or is complete. -/
structure EntersLetter (v : Vks) (ctx : Context) (e : WordEntry) (style : EchoStyle) (c : Nat) (t : Vks) : Prop where
  goesOn : ctx.buffer.length + 1 < e.letters.length → t.attempt.state = v.attempt.state
    ∧ (∃ outstanding, t.attempt.ctx = { ctx with buffer := ctx.buffer ++ [c], hintStage := 0, outstanding := outstanding })
    ∧ t.lesson = v.lesson ∧ (style = .none → t.sched = v.sched)
  named : style = .name → EchoQueued v t (nameItem v c)
  sounded : style = .sound → EchoQueued v t (soundItem v c)
  closes : ctx.buffer.length + 1 = e.letters.length →
    ClosesAttempt v t { ctx with buffer := ctx.buffer ++ [c], hintStage := 0 } .exact 0

theorem letterItems_congr {a b : Vks} (h : a.words = b.words) (c : Nat) : nameItem a c = nameItem b c ∧ soundItem a c = soundItem b c := by
  rw [nameItem, nameItem, soundItem, soundItem, Vks.letter, Vks.letter, h]
  exact ⟨rfl, rfl⟩

theorem enterMatch_enters {v y : Vks} {e : WordEntry} (style : EchoStyle) (c : Nat) (hground : SameGround y v) (hsched : y.sched = v.sched)
    (hstate : y.attempt.state = v.attempt.state) (hentry : y.attemptEntry = some e) :
    EntersLetter v y.attempt.ctx e style c (enterMatch style c y) := by
  obtain ⟨hechoed, timer, outstanding, hattempt⟩ := letterEcho_after style c (matched c y)
  have hkept : Kept .echo (enterMatch style c y) (letterEcho style c (matched c y)) := by
    rw [enterMatch_eq style c hentry]
    split
    · exact closeAttempt_kept _ _ _
    · exact .refl _
  obtain ⟨hname, hsound⟩ := letterItems_congr (a := matched c y) (b := v) hground.outside.words c
  refine ⟨fun hmore => ?_, fun hstyle => ?_, fun hstyle => ?_, fun hlast => ?_⟩
  · rw [enterMatch_eq style c hentry, if_neg (Nat.ne_of_lt hmore)]
    refine ⟨by rw [hattempt]; exact hstate, ⟨outstanding, by rw [hattempt]; rfl⟩, hechoed.lesson.trans hground.lesson, ?_⟩
    rintro rfl
    exact hsched
  · subst hstyle
    rw [← hname]
    exact echoQueued_of_request hkept hsched hground.outside.store
  · subst hstyle
    rw [← hsound]
    exact echoQueued_of_request hkept hsched hground.outside.store
  · rw [enterMatch_eq style c hentry, if_pos hlast]
    exact closeAttempt_closes .exact 0 (hechoed.trans ((setContext_ground _ y).trans hground)) (by rw [hattempt]; rfl) (.refl _)

/-- The context after a letter that did not lead to the next word of the lesson. -/
theorem EntersLetter.context {v t : Vks} {ctx : Context} {e : WordEntry} {style : EchoStyle} {c : Nat}
    (h : EntersLetter v ctx e style c t) (hroom : ctx.buffer.length < e.letters.length)
    (hstays : ctx.buffer.length + 1 < e.letters.length ∨ v.lesson.auto = false) :
    t.attempt.ctx.buffer = ctx.buffer ++ [c] ∧ t.attempt.ctx.hintStage = 0 ∧ t.attempt.ctx.hintsUsed = ctx.hintsUsed
    ∧ t.attempt.ctx.hintPosition = ctx.hintPosition ∧ t.attempt.ctx.nudged = ctx.nudged := by
  by_cases hmore : ctx.buffer.length + 1 < e.letters.length
  · obtain ⟨-, ⟨outstanding, hctx⟩, -, -⟩ := h.goesOn hmore
    rw [hctx]
    exact ⟨rfl, rfl, rfl, rfl, rfl⟩
  · obtain ⟨-, awaited, outstanding, hctx⟩ := closes_context (h.closes (by omega)) (hstays.resolve_left hmore)
    rw [hctx]
    exact ⟨rfl, rfl, rfl, rfl, rfl⟩

/-! ### A mistake (R30) -/

/-- The part with a mistake counted and the lamp lit, before it is answered (R30). -/
def mistaken (v : Vks) : Vks :=
  startWrong (setContext { v.attempt.ctx with mistakes := v.attempt.ctx.mistakes + 1, nudged := false } (rearm v))

theorem mistaken_ground (v : Vks) : SameGround (mistaken v) v where
  outside := (startWrong_outside _).trans ((setContext_outside _ _).trans (rearm_outside v))
  lesson := rfl
  queue := rfl
  nextNotices hamp _ := ⟨hamp, rfl⟩

theorem enterMistake_of_more {v : Vks} (h : v.attempt.ctx.mistakes + 1 < v.attempt.ctx.settings.mistakeLimit) :
    enterMistake (rearm v) = (requestEngine .response (v.row 12) ⟨v.attemptEntry, v.attempt.ctx.buffer,
      v.attempt.ctx.buffer.length + 1, none⟩ (mistaken v)).1 := if_pos h

theorem enterMistake_of_last {v : Vks} (h : v.attempt.ctx.settings.mistakeLimit ≤ v.attempt.ctx.mistakes + 1) :
    enterMistake (rearm v) = closeAttempt .wrong (v.attempt.ctx.buffer.length + 1) (mistaken v) := if_neg (Nat.not_lt.mpr h)

theorem enterMistake_closes {v : Vks} (h : v.attempt.ctx.settings.mistakeLimit ≤ v.attempt.ctx.mistakes + 1) :
    ClosesAttempt v (enterMistake (rearm v)) { v.attempt.ctx with mistakes := v.attempt.ctx.mistakes + 1, nudged := false } .wrong
      (v.attempt.ctx.buffer.length + 1) := by
  rw [enterMistake_of_last h]
  exact closeAttempt_closes .wrong _ (mistaken_ground v) rfl (.refl _)

theorem enterMistake_lamp (v : Vks) : (enterMistake (rearm v)).notices.wrong = some 1000 := by
  by_cases h : v.attempt.ctx.mistakes + 1 < v.attempt.ctx.settings.mistakeLimit
  · rw [enterMistake_of_more h]
    exact (requestEngine_only _ _ _ (mistaken v)).wrong
  · exact (enterMistake_closes (Nat.not_lt.mp h)).lamps.2 (by decide)

/-! ### Hints (R38 to R41) -/

theorem find_range_eq (n p : Nat) (test : Nat → Bool) (hp : 1 ≤ p ∧ p ≤ n) (hhit : test p = true)
    (hmiss : ∀ i, 1 ≤ i → i < p → test i = false) : ((List.range n).map (· + 1)).find? test = some p := by
  rw [List.find?_map, show List.find? (test ∘ fun x => x + 1) (List.range n) = some (p - 1) from ?_, Option.map_some,
    Nat.sub_add_cancel hp.1]
  rw [List.find?_range_eq_some]
  refine ⟨by rwa [Function.comp_apply, Nat.sub_add_cancel hp.1], List.mem_range.mpr (by omega), fun j hj => ?_⟩
  simp only [Function.comp_apply, Bool.not_eq_true']
  exact hmiss (j + 1) (by omega) (by omega)

/-- R38: the hint position is the first at which the buffer differs. -/
theorem hintPosition_of_differs {a t : List Nat} {p : Nat} (hp : 1 ≤ p ∧ p ≤ t.length) (hdiff : letterAt a p ≠ letterAt t p)
    (hsame : a.take (p - 1) = t.take (p - 1)) : hintPosition a t = p := by
  have hbefore (i : Nat) (h1 : 1 ≤ i) (hi : i < p) : letterAt a i = letterAt t i := by
    rw [letterAt, letterAt, if_neg (by omega), if_neg (by omega)]
    have h := congrArg (fun l => l[i - 1]?) hsame
    simpa [List.getElem?_take, show i - 1 < p - 1 by omega] using h
  rw [hintPosition, find_range_eq t.length p _ hp (by simpa using hdiff) fun i h1 hi => by simpa using hbefore i h1 hi]

/-- R38: there is none where the buffer begins with the whole target. -/
theorem hintPosition_of_begins {a t : List Nat} (h : a.take t.length = t) : hintPosition a t = 0 := by
  rw [hintPosition, List.find?_eq_none.mpr]
  intro i hi
  obtain ⟨j, hj, rfl⟩ := List.mem_map.mp hi
  rw [List.mem_range] at hj
  have hat := congrArg (fun l => l[j]?) h
  simpa [letterAt, List.getElem?_take, hj] using hat

/-- The part with a hint counted, before it speaks or enters its letter (R39, R40). -/
def hintTaken (p stage : Nat) (v : Vks) : Vks :=
  setContext { v.attempt.ctx with nudged := false, hintPosition := p, hintStage := stage + 1
                                  hintsUsed := satSucc 255 v.attempt.ctx.hintsUsed } (rearm v)

theorem hintTaken_ground (p stage : Nat) (v : Vks) : SameGround (hintTaken p stage v) v :=
  (setContext_ground _ _).trans ⟨rearm_outside v, rfl, rfl, fun h _ => ⟨h, rfl⟩⟩

section
variable {v : Vks} {p stage : Nat} (hp : hintPosition v.attempt.ctx.buffer v.target = p)
  (hstage : (if v.attempt.ctx.hintPosition = p then v.attempt.ctx.hintStage else 0) = stage)

include hp hstage

theorem takeHint_eq : takeHint v
    = if stage < v.attempt.ctx.settings.hintLimit then
        if p ≠ 0 ∧ 3 ≤ stage + 1 ∧ v.attempt.ctx.settings.checkMode = .immediate then
          ((letterAt v.target p).elim (hintTaken p stage v)
            fun x => enterMatch (hintEchoStyle v.attempt.ctx.settings.echoStyle) x (hintTaken p stage v), .accepted)
        else ((requestEngine .hint [hintPart (stage + 1) p] ⟨v.attemptEntry, v.attempt.ctx.buffer, p, none⟩ (hintTaken p stage v)).1,
          .accepted)
      else (requestEcho (.tone .click) (setContext { v.attempt.ctx with
        nudged := false, hintPosition := p, hintStage := stage } (rearm v)), .refused) := by
  have hflipped : (if p = v.attempt.ctx.hintPosition then v.attempt.ctx.hintStage else 0) = stage := by
    rw [← hstage]
    exact if_congr eq_comm rfl rfl
  clear hstage
  subst hp hflipped
  unfold takeHint
  dsimp only
  cases letterAt v.target (hintPosition v.attempt.ctx.buffer v.target) <;> rfl

/-- R41: a hint beyond the limit is refused with a CLICK. -/
theorem takeHint_refused (hlimit : v.attempt.ctx.settings.hintLimit ≤ stage) : (takeHint v).2 = .refused
    ∧ (takeHint v).1.attempt.state = v.attempt.state
    ∧ (∃ outstanding, (takeHint v).1.attempt.ctx = { v.attempt.ctx with
        nudged := false, hintPosition := p, hintStage := stage, outstanding := outstanding })
    ∧ (takeHint v).1.lesson = v.lesson ∧ EchoQueued v (takeHint v).1 (.tone .click) := by
  rw [takeHint_eq hp hstage, if_neg (Nat.not_lt.mpr hlimit)]
  obtain ⟨⟨outstanding, hattempt⟩, hlesson, -, -⟩ := requestEcho_only (.tone .click) (setContext { v.attempt.ctx with
    nudged := false, hintPosition := p, hintStage := stage } (rearm v))
  exact ⟨rfl, by rw [hattempt]; rfl, ⟨outstanding, by rw [hattempt]; rfl⟩, hlesson, echoQueued_of_request (.refl _) rfl rfl⟩

/-- R39, R40: a hint that speaks. -/
theorem takeHint_speaks (hlimit : stage < v.attempt.ctx.settings.hintLimit)
    (hspeaks : p = 0 ∨ stage < 2 ∨ v.attempt.ctx.settings.checkMode ≠ .immediate) : takeHint v
    = ((requestEngine .hint [hintPart (stage + 1) p] ⟨v.attemptEntry, v.attempt.ctx.buffer, p, none⟩ (hintTaken p stage v)).1,
      .accepted) := by
  rw [takeHint_eq hp hstage, if_pos hlimit, if_neg]
  rintro ⟨hzero, hthird, himmediate⟩
  exact hspeaks.elim hzero fun h => h.elim (fun h => by omega) fun h => h himmediate

/-- R39: a third hint in immediate mode enters its letter. -/
theorem takeHint_enters {x : Nat} (hlimit : stage < v.attempt.ctx.settings.hintLimit) (hzero : p ≠ 0) (hthird : 2 ≤ stage)
    (himmediate : v.attempt.ctx.settings.checkMode = .immediate) (hx : letterAt v.target p = some x) : takeHint v
    = (enterMatch (hintEchoStyle v.attempt.ctx.settings.echoStyle) x (hintTaken p stage v), .accepted) := by
  rw [takeHint_eq hp hstage, if_pos hlimit, if_pos ⟨hzero, by omega, himmediate⟩, hx]
  rfl

end

/-- What a spoken hint leaves, and its utterance. -/
theorem spokenHint (v : Vks) (p stage : Nat) (part : Part) :
    let x : Expansion := ⟨v.attemptEntry, v.attempt.ctx.buffer, p, none⟩
    let t := (requestEngine .hint [part] x (hintTaken p stage v)).1
    t.attempt.state = v.attempt.state
    ∧ (∃ outstanding, t.attempt.ctx = { v.attempt.ctx with
        nudged := false, hintPosition := p, hintStage := stage + 1, hintsUsed := satSucc 255 v.attempt.ctx.hintsUsed
        outstanding := outstanding })
    ∧ t.lesson = v.lesson
    ∧ (expandAll v x [part] = [] → t.sched = v.sched)
    ∧ (expandAll v x [part] ≠ [] → v.sched.queue.length < 16 → EngineQueued v t .hint (expandAll v x [part])) := by
  intro x t
  obtain ⟨⟨outstanding, hattempt⟩, hlesson, -, -⟩ := requestEngine_only .hint [part] x (hintTaken p stage v)
  refine ⟨by rw [hattempt]; rfl, ⟨outstanding, by rw [hattempt]; rfl⟩, hlesson, fun hnone => ?_, fun hsome hroom => ?_⟩
  · rw [show t = stopInactivity (hintTaken p stage v) from congrArg Prod.fst (requestEngine_of_none .hint
      ((expandAll_congr (a := hintTaken p stage v) (b := v) rfl x [part]).trans hnone))]
    rfl
  · exact engineQueued_of_request (.refl _) rfl (by decide) (expandAll_congr (a := hintTaken p stage v) (b := v) rfl x [part]) hsome hroom

end Sys2Proof.LetterKeys
end

section
/-! SUPPORT. Keys in immediate mode (R29, R30, R39 to R41). -/

namespace Sys2Proof.ImmediateKeys

open Sys2Proof.Machine Sys2Proof.EventMoves Sys2Proof.EventFrames Sys2Proof.VoiceFrames Sys2Proof.SpeechKept
  Sys2Proof.AttemptSteps Sys2Proof.AttemptEnds Sys2Proof.AttemptTimers Sys2Proof.Echoes Sys2Proof.LetterKeys

theorem hintEchoStyle_of_not_sound {style : EchoStyle} (h : style ≠ .sound) : hintEchoStyle style = .name := by
  cases style with
  | sound => exact absurd rfl h
  | name => rfl
  | none => rfl

/-- R29: in immediate mode the buffer that begins the target differs first at the next position. -/
theorem hintPosition_next {a t : List Nat} (hlen : a.length < t.length) (hbegins : a = t.take a.length) :
    hintPosition a t = a.length + 1 := by
  refine hintPosition_of_differs ⟨by omega, by omega⟩ ?_ ?_
  · rw [letterAt, letterAt, if_neg (by omega), if_neg (by omega), Nat.add_sub_cancel, List.getElem?_eq_none le_rfl,
      List.getElem?_eq_getElem hlen]
    exact nofun
  · rw [Nat.add_sub_cancel, List.take_length]
    exact hbegins

/-- R98: the letter at a position of the word gives an item, its name or its sound. -/
theorem expand_letter_some {v : Vks} {e : WordEntry} {a : List Nat} {p : Nat} {part : Part} (hp : 1 ≤ p ∧ p ≤ e.letters.length)
    (hpart : part = .letterSoundAt ∨ part = .letterNameAt) : expandAll v ⟨some e, a, p, none⟩ [part] ≠ [] := by
  obtain ⟨x, hx⟩ : ∃ x, letterAt e.letters p = some x := by
    rw [letterAt, if_neg (by omega)]
    exact ⟨_, List.getElem?_eq_getElem (by omega)⟩
  rw [expandAll, List.flatMap_cons, List.flatMap_nil, List.append_nil]
  rcases hpart with rfl | rfl
  · rw [Expansions.expandPart_letterSoundAt v _ e rfl, if_neg (by exact nofun)]
    simp [hx]
  · rw [Expansions.expandPart_letterNameAt v _ e rfl, if_neg (by exact nofun)]
    simp [hx]

/-- Settles O36: the letter, the mistake, the keys that are ignored, and the hint in immediate mode. -/
theorem lettersInImmediateMode : Obligations.LettersInImmediateMode := by
  intro v e c hstate hmode hentry hroom m typed named
  have htarget : v.target = e.letters := by rw [Vks.target, hentry]
  have hletter : handlePress .letter c v = (if letterAt e.letters (m + 1) = some c
      then (enterMatch v.attempt.ctx.settings.echoStyle c (rearm v), .accepted) else (enterMistake (rearm v), .refused)) := by
    rw [press_letter c hstate, takeLetter, hmode, htarget]
  refine ⟨fun hmatch => ?matching, fun hmiss => ?mistake, ?erase, ?submit, fun hbegins hused => ?hint⟩
  case matching =>
    rw [if_pos hmatch] at hletter
    have htyped : typed = enterMatch v.attempt.ctx.settings.echoStyle c (rearm v) := congrArg Prod.fst hletter
    have henters : EntersLetter v (rearm v).attempt.ctx e v.attempt.ctx.settings.echoStyle c typed := by
      rw [htyped]
      exact enterMatch_enters _ c ⟨rearm_outside v, rfl, rfl, fun h _ => ⟨h, rfl⟩⟩ rfl rfl hentry
    refine ⟨congrArg Prod.snd hletter, fun hmore => ?_, henters.named, henters.sounded, fun hlast hauto => ?_, henters.closes⟩
    · obtain ⟨hst, ⟨outstanding, hctx⟩, hlesson, hsched⟩ := henters.goesOn hmore
      rw [hctx]
      exact ⟨hst.trans hstate, rfl, rfl, rfl, rfl, hlesson, hsched⟩
    · have hcloses := henters.closes hlast
      obtain ⟨hst, awaited, outstanding, hctx⟩ := closes_context hcloses hauto
      rw [hctx]
      exact ⟨rfl, rfl, rfl, hcloses.lamps.1 rfl, hst⟩
  case mistake =>
    rw [if_neg hmiss] at hletter
    have htyped : typed = enterMistake (rearm v) := congrArg Prod.fst hletter
    refine ⟨congrArg Prod.snd hletter, by rw [htyped]; exact enterMistake_lamp v, fun hmore => ?_, fun hlast hauto => ?_,
      fun hlast => by rw [htyped]; exact enterMistake_closes hlast⟩
    · rw [htyped, enterMistake_of_more hmore, hentry]
      obtain ⟨⟨outstanding, hattempt⟩, hlesson, -, -⟩ := requestEngine_only .response (v.row 12) ⟨some e, v.attempt.ctx.buffer,
        v.attempt.ctx.buffer.length + 1, none⟩ (mistaken v)
      rw [hattempt]
      exact ⟨hstate, rfl, rfl, hlesson, fun hsome hqueue => engineQueued_of_request (.refl _) rfl (by decide)
        (expandAll_congr (a := mistaken v) (b := v) rfl _ _) hsome hqueue⟩
    · rw [htyped]
      obtain ⟨-, awaited, outstanding, hctx⟩ := closes_context (enterMistake_closes hlast) hauto
      rw [hctx]
      exact ⟨rfl, rfl, rfl⟩
  case erase =>
    rw [press_erase c hstate, takeErase, if_neg fun h => by rw [hmode] at h; exact nomatch h.1]
  case submit =>
    rw [press_submit c hstate, takeSubmit, if_neg fun h => by rw [hmode] at h; exact nomatch h.1]
  case hint =>
    intro hinted stage
    have hhint : handlePress .hint c v = takeHint v := press_hint c hstate
    have hp : hintPosition v.attempt.ctx.buffer v.target = m + 1 := by
      rw [htarget]
      exact hintPosition_next hroom hbegins
    have hstage : (if v.attempt.ctx.hintPosition = m + 1 then v.attempt.ctx.hintStage else 0) = stage := rfl
    have hinside : 1 ≤ m + 1 ∧ m + 1 ≤ e.letters.length := ⟨by omega, by omega⟩
    have hcounted := Grading.satSucc_eq hused
    rw [show hinted = (takeHint v).1 from congrArg Prod.fst hhint, hhint]
    clear_value stage
    refine ⟨fun hlimit => ?taken, fun hlimit => ?refused⟩
    case refused =>
      obtain ⟨hsnd, hst, ⟨outstanding, hctx⟩, hlesson, hecho⟩ := takeHint_refused hp hstage hlimit
      rw [hctx]
      exact ⟨hsnd, hst.trans hstate, rfl, rfl, rfl, rfl, rfl, hlesson, hecho⟩
    case taken =>
      by_cases hthird : 2 ≤ stage
      · obtain ⟨y, hy⟩ : ∃ y, letterAt e.letters (m + 1) = some y := by
          rw [letterAt, if_neg (by omega)]
          exact ⟨_, List.getElem?_eq_getElem (by omega)⟩
        rw [takeHint_enters hp hstage hlimit (by omega) hthird hmode (by rw [htarget]; exact hy)]
        have henters := enterMatch_enters (hintEchoStyle v.attempt.ctx.settings.echoStyle) y (hintTaken_ground (m + 1) stage v) rfl rfl
          (show (hintTaken (m + 1) stage v).attemptEntry = some e from hentry)
        generalize enterMatch (hintEchoStyle v.attempt.ctx.settings.echoStyle) y (hintTaken (m + 1) stage v) = t at *
        refine ⟨rfl, fun hstays => ?_, fun h => absurd h (by omega), fun _ x hx => ?_⟩
        · obtain ⟨-, -, hhints, hpos, hnudged⟩ := henters.context hroom (hstays.resolve_left (by omega))
          exact ⟨hnudged, hhints.trans hcounted, hpos⟩
        · obtain rfl : y = x := Option.some.inj (hy.symm.trans hx)
          refine ⟨fun hstays => ?_, fun hstyle => henters.named (hintEchoStyle_of_not_sound hstyle),
            fun hstyle => henters.sounded (by rw [hstyle]; rfl), fun hmore => ?_, fun hlast hauto => ?_, fun hlast => ?_⟩
          · obtain ⟨hbuffer, hzero, -⟩ := henters.context hroom hstays
            exact ⟨hbuffer, hzero⟩
          · obtain ⟨hst, -, hlesson, -⟩ := henters.goesOn hmore
            exact ⟨hst.trans hstate, hlesson⟩
          · have hcloses := henters.closes hlast
            obtain ⟨-, awaited, outstanding, hctx⟩ := closes_context hcloses hauto
            rw [hctx]
            exact ⟨rfl, rfl, hcloses.lamps.1 rfl⟩
          · rw [← hcounted]
            exact henters.closes hlast
      · rw [takeHint_speaks hp hstage hlimit (.inr (.inl (by omega))), hentry]
        have hpart : hintPart (stage + 1) (m + 1) = if stage = 0 then .letterSoundAt else .letterNameAt := by
          have hcases : stage = 0 ∨ stage = 1 := by omega
          rcases hcases with rfl | rfl <;> rfl
        have hsome : expandAll v ⟨some e, v.attempt.ctx.buffer, m + 1, none⟩ [hintPart (stage + 1) (m + 1)] ≠ [] := by
          refine expand_letter_some hinside ?_
          rw [hpart]
          split
          · exact .inl rfl
          · exact .inr rfl
        have hspoken := spokenHint v (m + 1) stage (hintPart (stage + 1) (m + 1))
        rw [hentry] at hspoken
        obtain ⟨hst, ⟨outstanding, hctx⟩, hlesson, -, hqueued⟩ := hspoken
        rw [← hpart, hctx]
        exact ⟨rfl, fun _ => ⟨rfl, hcounted, rfl⟩, fun _ => ⟨hst.trans hstate, rfl, rfl, rfl, hlesson, hqueued hsome⟩,
          fun h => absurd h hthird⟩

end Sys2Proof.ImmediateKeys
end

section
/-! SUPPORT. Keys in deferred mode (R31 to R35, R40, R41), REPEAT (R28), barge-in (R27) and the presses that are ignored (R25). -/

namespace Sys2Proof.DeferredKeys

open Sys2Proof.Machine Sys2Proof.EventMoves Sys2Proof.EventFrames Sys2Proof.VoiceFrames Sys2Proof.SpeechKept
  Sys2Proof.AttemptSteps Sys2Proof.AttemptEnds Sys2Proof.AttemptTimers Sys2Proof.Echoes Sys2Proof.LetterKeys
  Sys2Proof.Interruptions

/-! ### Letters, ERASE and SUBMIT (R31 to R35) -/

/-- The part with the buffer changed by a press, before its echo (R31, R32). -/
def edited (buffer : List Nat) (v : Vks) : Vks := setContext { v.attempt.ctx with nudged := false, buffer := buffer } (rearm v)

theorem edited_ground (buffer : List Nat) (v : Vks) : SameGround (edited buffer v) v :=
  (setContext_ground _ _).trans ⟨rearm_outside v, rfl, rfl, fun h _ => ⟨h, rfl⟩⟩

theorem takeLetter_deferred {v : Vks} (c : Nat) (hmode : v.attempt.ctx.settings.checkMode = .deferred) : takeLetter c v
    = if v.attempt.ctx.buffer.length < min (v.target.length + 2) 18 then
        (letterEcho v.attempt.ctx.settings.echoStyle c (edited (v.attempt.ctx.buffer ++ [c]) v), .accepted)
      else (requestEcho (.tone .buzz) (rearm v), .refused) := by
  simp only [takeLetter, hmode]
  rfl

/-- R31: a letter that fits. -/
theorem letterEcho_edited (v : Vks) (style : EchoStyle) (c : Nat) (buffer : List Nat) :
    let t := letterEcho style c (edited buffer v)
    (∃ outstanding, t.attempt.ctx = { v.attempt.ctx with nudged := false, buffer := buffer, outstanding := outstanding })
    ∧ t.attempt.state = v.attempt.state ∧ t.lesson = v.lesson
    ∧ (style = .name → EchoQueued v t (nameItem v c)) ∧ (style = .sound → EchoQueued v t (soundItem v c))
    ∧ (style = .none → t.sched = v.sched) := by
  intro t
  obtain ⟨hground, timer, outstanding, hattempt⟩ := letterEcho_after style c (edited buffer v)
  obtain ⟨hname, hsound⟩ := letterItems_congr (a := edited buffer v) (b := v) rfl c
  refine ⟨⟨outstanding, by rw [hattempt]; rfl⟩, by rw [hattempt]; rfl, hground.lesson, fun hstyle => ?_, fun hstyle => ?_,
    fun hstyle => by subst hstyle; rfl⟩
  · subst hstyle
    rw [← hname]
    exact echoQueued_of_request (.refl _) rfl rfl
  · subst hstyle
    rw [← hsound]
    exact echoQueued_of_request (.refl _) rfl rfl

theorem takeErase_deferred {v : Vks} (hmode : v.attempt.ctx.settings.checkMode = .deferred) (hsome : v.attempt.ctx.buffer ≠ []) :
    takeErase v = (requestEcho (.tone .click) (edited v.attempt.ctx.buffer.dropLast v), .accepted) := if_pos ⟨hmode, hsome⟩

theorem takeErase_empty {v : Vks} (h : v.attempt.ctx.buffer = []) : takeErase v = (v, .ignored) := if_neg fun k => k.2 h

theorem takeSubmit_empty {v : Vks} (h : v.attempt.ctx.buffer = []) : takeSubmit v = (v, .ignored) := if_neg fun k => k.2 h

/-- The part with a try's verdict, before it is answered (R33). -/
def judged (verdict : Verdict) (p : Nat) (v : Vks) : Vks :=
  setContext { v.attempt.ctx with nudged := false, verdict := some verdict, verdictPosition := p } (rearm v)

theorem judged_ground (verdict : Verdict) (p : Nat) (v : Vks) : SameGround (judged verdict p v) v :=
  (setContext_ground _ _).trans ⟨rearm_outside v, rfl, rfl, fun h _ => ⟨h, rfl⟩⟩

theorem takeSubmit_deferred {v : Vks} (hmode : v.attempt.ctx.settings.checkMode = .deferred) (hsome : v.attempt.ctx.buffer ≠ [])
    {verdict : Verdict} {p : Nat} (hgrade : Machine.grade v.attempt.ctx.buffer v.target = (verdict, p)) : takeSubmit v
    = (if verdict ≠ .exact ∧ v.attempt.ctx.tryNumber < v.attempt.ctx.settings.tries then failTry verdict p (judged verdict p v)
        else closeAttempt verdict p (judged verdict p v), .accepted) := by
  rw [takeSubmit, if_pos ⟨hmode, hsome⟩, hgrade]
  rfl

/-- R33 to R36: the try that closes the attempt, and the one that fails. -/
theorem submit_ends {v : Vks} (hmode : v.attempt.ctx.settings.checkMode = .deferred) (hsome : v.attempt.ctx.buffer ≠ [])
    {verdict : Verdict} {p : Nat} (hgrade : Machine.grade v.attempt.ctx.buffer v.target = (verdict, p)) :
    ((verdict = .exact ∨ v.attempt.ctx.settings.tries ≤ v.attempt.ctx.tryNumber) →
      ClosesAttempt v (takeSubmit v).1 { v.attempt.ctx with nudged := false } verdict p)
    ∧ (verdict ≠ .exact → v.attempt.ctx.tryNumber < v.attempt.ctx.settings.tries →
      FailsTry v (takeSubmit v).1 { v.attempt.ctx with nudged := false } verdict p) := by
  rw [takeSubmit_deferred hmode hsome hgrade]
  refine ⟨fun hlast => ?_, fun hne hmore => ?_⟩
  · rw [if_neg fun h => hlast.elim h.1 fun k => Nat.not_le.mpr h.2 k]
    exact closeAttempt_closes verdict p (judged_ground verdict p v) rfl (.refl _)
  · rw [if_pos ⟨hne, hmore⟩]
    exact failTry_fails verdict p (judged_ground verdict p v) rfl

/-- The verdict a try leaves, failed or not, where lesson auto mode is off. -/
theorem submit_verdict {v : Vks} (hmode : v.attempt.ctx.settings.checkMode = .deferred) (hsome : v.attempt.ctx.buffer ≠ [])
    {verdict : Verdict} {p : Nat} (hgrade : Machine.grade v.attempt.ctx.buffer v.target = (verdict, p)) (hauto : v.lesson.auto = false) :
    (takeSubmit v).1.attempt.ctx.verdict = some verdict ∧ (takeSubmit v).1.attempt.ctx.verdictPosition = p := by
  obtain ⟨hcloses, hfails⟩ := submit_ends hmode hsome hgrade
  by_cases hlast : verdict = .exact ∨ v.attempt.ctx.settings.tries ≤ v.attempt.ctx.tryNumber
  · obtain ⟨-, awaited, outstanding, hctx⟩ := closes_context (hcloses hlast) hauto
    rw [hctx]
    exact ⟨rfl, rfl⟩
  · obtain ⟨hspoken, hended⟩ := (hfails (fun h => hlast (.inl h)) (Nat.lt_of_not_le fun h => hlast (.inr h))).spoken
    by_cases hend : expandAll v ⟨v.entry v.attempt.ctx.word, v.attempt.ctx.buffer, p, some verdict⟩ (v.row (tryRow verdict)) = []
        ∨ TurnsAway v
    · obtain ⟨-, hctx⟩ := hended hend
      rw [hctx]
      exact ⟨rfl, rfl⟩
    · obtain ⟨-, -, hctx⟩ := hspoken (fun h => hend (.inl h)) fun h => hend (.inr h)
      rw [hctx]
      exact ⟨rfl, rfl⟩

/-! ### Hints in deferred mode (R38, R40, R41) -/

theorem hintPart_eq (stage p : Nat) : hintPart (stage + 1) p
    = if p = 0 then .word else if stage = 0 then .letterSoundAt else if stage = 1 then .letterNameAt else .spellTarget := by
  simp only [hintPart, show stage + 1 = 1 ↔ stage = 0 by omega, show stage + 1 = 2 ↔ stage = 1 by omega]

/-- R38: the position a deferred hint names. -/
theorem hintPosition_deferred {a t : List Nat} {p : Nat} (h : (p = 0 ∧ a.take t.length = t)
    ∨ (1 ≤ p ∧ p ≤ t.length ∧ letterAt a p ≠ letterAt t p ∧ a.take (p - 1) = t.take (p - 1))) : hintPosition a t = p := by
  rcases h with ⟨rfl, hbegins⟩ | ⟨h1, hp, hdiff, hsame⟩
  · exact hintPosition_of_begins hbegins
  · exact hintPosition_of_differs ⟨h1, hp⟩ hdiff hsame

/-! ### REPEAT (R28) -/

theorem takeRepeat_eq (v : Vks) : takeRepeat v = (if (requestPrompt (rearm v)).2 then setAttemptState .listening (requestPrompt (rearm v)).1
    else (requestPrompt (rearm v)).1, .accepted) := rfl

/-- The prompt made again: what stays of the context, and its end at once or its place. -/
theorem takeRepeat_repeats {v : Vks} {e : WordEntry} (hentry : v.attemptEntry = some e) :
    let items := expandAll v ⟨some e, v.attempt.ctx.buffer, 0, none⟩ (if e.prompts = [] then v.row 15 else [.prompt])
    (takeRepeat v).1.lesson = v.lesson
    ∧ (∃ awaited outstanding, (takeRepeat v).1.attempt.ctx = { v.attempt.ctx with
        nudged := false, awaited := awaited, outstanding := outstanding })
    ∧ (items = [] → (takeRepeat v).1.attempt.state = .listening ∧ (takeRepeat v).1.attempt.ctx.awaited = none)
    ∧ (items ≠ [] → v.sched.queue.length < 16 → (takeRepeat v).1.attempt.state = .prompting
      ∧ (takeRepeat v).1.attempt.ctx.awaited = some (.prompt, v.sched.nextId)
      ∧ v.sched.nextId ∈ (takeRepeat v).1.attempt.ctx.outstanding
      ∧ EngineQueued v (takeRepeat v).1 .prompt items) := by
  intro items
  obtain ⟨hstate, -, hctx, hlesson⟩ := requestPrompt_attempt (rearm v)
  have hitems : promptItems (rearm v) = items :=
    (Openings.promptItems_of_entry (v := rearm v) hentry).trans (expandAll_congr (a := rearm v) (b := v) rfl _ _)
  rw [takeRepeat_eq]
  refine ⟨?_, ?_, fun hnone => ?_, fun hsome hroom => ?_⟩
  · split <;> exact hlesson
  · split <;> exact hctx
  · obtain ⟨hend, hawaited⟩ := requestPrompt_ended (.inl (hitems.trans hnone))
    rw [hend]
    exact ⟨rfl, hawaited⟩
  · obtain ⟨hend, hawaited, houtstanding, w, hw, -, hsame⟩ := requestPrompt_speaks (v := rearm v) (by rw [hitems]; exact hsome)
      fun hturned => Nat.not_le.mpr hroom hturned.1
    rw [hend]
    refine ⟨hstate, hawaited, ?_, engineQueued_of_holds hw hsame rfl rfl (congrArg (List.take 40) hitems)⟩
    show _ ∈ (requestPrompt (rearm v)).1.attempt.ctx.outstanding
    rw [houtstanding]
    exact List.mem_append_right _ (List.mem_singleton.mpr rfl)

/-! ### Barge-in (R27) -/

/-- The prompt cut or removed, before free voices take what waits (R27, R113). -/
def prompted (id : Nat) (v : Vks) : Vks := forget id (cutNamed [id] (setAttemptState .listening (setAwaited none v)))

theorem bargeIn_eq {v : Vks} {k : AwaitKind × Nat} (h : v.attempt.ctx.awaited = some k) : bargeIn v = startHeads (prompted k.2 v) := by
  rw [bargeIn, h]
  rfl

/-- R27: what a barge-in leaves, and which utterance is gone. -/
theorem bargeIn_cuts {v : Vks} {k : AwaitKind × Nat} (h : v.attempt.ctx.awaited = some k) :
    (bargeIn v).attempt.state = .listening
    ∧ (bargeIn v).attempt.ctx = { v.attempt.ctx with
        awaited := none, outstanding := v.attempt.ctx.outstanding.filter (fun x => x ≠ k.2) }
    ∧ (∀ x ∈ (bargeIn v).sched.queue, x ∈ v.sched.queue ∧ x.id ≠ k.2)
    ∧ (∀ x, (bargeIn v).reader.mainVoice.utterance = some x → x.id ≠ k.2)
    ∧ (∀ x, v.reader.mainVoice.state ≠ .idle → v.reader.mainVoice.utterance = some x → x.id ≠ k.2 →
        (bargeIn v).reader.mainVoice.utterance = some x ∧ (bargeIn v).sched.queue = v.sched.queue.filter (fun y => y.id ≠ k.2))
    ∧ (bargeIn v).lesson = v.lesson := by
  have hstart := startHeads_untouched (prompted k.2 v)
  have hcut := cutNamed_only [k.2] (setAttemptState .listening (setAwaited none v))
  obtain ⟨hqueue, hvoice⟩ := cutNamed_none [k.2] (setAttemptState .listening (setAwaited none v))
  have hattempt : (prompted k.2 v).attempt.ctx = { v.attempt.ctx with
      awaited := none, outstanding := v.attempt.ctx.outstanding.filter (fun x => x ≠ k.2) } := by
    simp only [prompted, forget, hcut.attempt]
    rfl
  rw [bargeIn_eq h]
  refine ⟨hstart.state.trans ?_, hstart.ctx.trans hattempt, fun x hx => ?_, ?_, fun x hon hx hne => ?_, hstart.lesson.trans hcut.lesson⟩
  · show (cutNamed [k.2] (setAttemptState .listening (setAwaited none v))).attempt.state = _
    rw [hcut.attempt]
    rfl
  · obtain ⟨hmem, hid⟩ := hqueue x ((startHeads_takes (prompted k.2 v)).queue x hx)
    exact ⟨hmem, fun heq => hid (List.mem_singleton.mpr heq)⟩
  · exact ((startHeads_takes (prompted k.2 v)).all (fun x => x.id ≠ k.2) (fun _ h => h)
      (fun x hx heq => (hqueue x hx).2 (List.mem_singleton.mpr heq))
      fun x hx heq => (hvoice x hx).2 (List.mem_singleton.mpr heq)).2
  · have hstays : (prompted k.2 v).reader.mainVoice = v.reader.mainVoice :=
      (cutNamed_voice [k.2] (setAttemptState .listening (setAwaited none v))).2 fun u hu => by
        obtain rfl : x = u := Option.some.inj (hx.symm.trans hu)
        simpa using hne
    have hheads : startMainHead (prompted k.2 v) = prompted k.2 v := startMainHead_of_busy _ (by rw [hstays]; exact hon)
    obtain ⟨hgo, hkept⟩ := startEchoHead_alone (startMainHead (prompted k.2 v))
    rw [hheads] at hgo hkept
    rw [startHeads, hheads]
    refine ⟨((goesOn_utterance hgo).trans (congrArg Voice.utterance hstays)).trans hx, hkept.trans ((cutNamed_queue _ _).trans ?_)⟩
    exact List.filter_congr fun y _ => by simp

/-! ### The obligation -/

/-- Settles O37: letters, ERASE, SUBMIT and HINT in deferred mode, REPEAT, barge-in, the ignored presses, and what no press reaches. -/
theorem keysInDeferredMode : Obligations.KeysInDeferredMode := by
  refine ⟨fun v e c hstate hmode hentry => ?deferred, fun v e c hstate hentry => ?again,
    fun v cls c hstate => ⟨fun hnot => ?ignored, fun k hbarge hawaited => ?barge⟩, fun v cls c hstate => ?other,
    fun v cls c => handlePress_outside cls c v⟩
  case deferred =>
    intro typed named
    have htarget : v.target = e.letters := by rw [Vks.target, hentry]
    have hletter := takeLetter_deferred c hmode
    rw [htarget] at hletter
    have htyped : typed = (takeLetter c v).1 := congrArg Prod.fst (press_letter c hstate)
    rw [htyped, press_letter c hstate, press_erase c hstate, press_submit c hstate, press_hint c hstate]
    refine ⟨fun hfits => ?letter, fun hfull => ?full, fun hempty => ⟨takeErase_empty hempty, takeSubmit_empty hempty⟩,
      fun hsome => ?some, fun p hused hfirst => ?hint⟩
    case letter =>
      rw [hletter, if_pos hfits]
      obtain ⟨⟨outstanding, hctx⟩, hst, hlesson, hname, hsound, hnone⟩ :=
        letterEcho_edited v v.attempt.ctx.settings.echoStyle c (v.attempt.ctx.buffer ++ [c])
      rw [hctx]
      exact ⟨rfl, rfl, hst.trans hstate, hlesson, rfl, hname, hsound, hnone⟩
    case full =>
      rw [hletter, if_neg (Nat.not_lt.mpr hfull)]
      obtain ⟨⟨outstanding, hattempt⟩, hlesson, -, -⟩ := requestEcho_only (.tone .buzz) (rearm v)
      rw [hattempt]
      exact ⟨rfl, rfl, hstate, hlesson, echoQueued_of_request (.refl _) rfl rfl⟩
    case some =>
      rw [takeErase_deferred hmode hsome]
      obtain ⟨⟨outstanding, hattempt⟩, -, -, -⟩ := requestEcho_only (.tone .click) (edited v.attempt.ctx.buffer.dropLast v)
      rw [hattempt]
      have hgrade : Machine.grade v.attempt.ctx.buffer v.target = Machine.grade v.attempt.ctx.buffer e.letters := by rw [htarget]
      exact ⟨rfl, rfl, hstate, echoQueued_of_request (.refl _) rfl rfl, congrArg Prod.snd (takeSubmit_deferred hmode hsome hgrade),
        submit_verdict hmode hsome hgrade, submit_ends hmode hsome hgrade⟩
    case hint =>
      intro hinted stage part items
      have hp : hintPosition v.attempt.ctx.buffer v.target = p := by
        rw [htarget]
        exact hintPosition_deferred hfirst
      have hstage : (if v.attempt.ctx.hintPosition = p then v.attempt.ctx.hintStage else 0) = stage := rfl
      have hitems : expandAll v ⟨v.attemptEntry, v.attempt.ctx.buffer, p, none⟩ [hintPart (stage + 1) p] = items := by
        rw [hintPart_eq, hentry]
      rw [show hinted = (takeHint v).1 from rfl]
      clear_value stage items
      by_cases hlimit : stage < v.attempt.ctx.settings.hintLimit
      · rw [takeHint_speaks hp hstage hlimit (.inr (.inr (by rw [hmode]; decide)))]
        obtain ⟨hst, ⟨outstanding, hctx⟩, hlesson, hnone, hqueued⟩ := spokenHint v p stage (hintPart (stage + 1) p)
        rw [hitems] at hnone hqueued
        rw [hctx]
        exact ⟨hst.trans hstate, rfl, hlesson, rfl, rfl, rfl, fun _ => ⟨rfl, rfl, Grading.satSucc_eq hused, hnone, hqueued⟩,
          fun h => absurd hlimit (Nat.not_lt.mpr h)⟩
      · obtain ⟨hsnd, hst, ⟨outstanding, hctx⟩, hlesson, hecho⟩ := takeHint_refused hp hstage (Nat.not_lt.mp hlimit)
        rw [hctx]
        exact ⟨hst.trans hstate, rfl, hlesson, rfl, rfl, rfl, fun h => absurd h hlimit, fun _ => ⟨hsnd, rfl, rfl, hecho⟩⟩
  case again =>
    intro again items
    have hagain : again = (takeRepeat v).1 := congrArg Prod.fst (press_repeat c hstate)
    rw [hagain, press_repeat c hstate]
    exact ⟨rfl, takeRepeat_repeats hentry⟩
  case ignored =>
    simp only [handlePress, hstate]
    exact if_neg fun h => hnot.elim (fun k => k h.1) fun k => by rw [k] at h; exact nomatch h.2
  case barge =>
    obtain ⟨hst, hctx, hqueue, hvoice, hbusy, hlesson⟩ := bargeIn_cuts hawaited
    refine ⟨bargeIn v, ?_, hst, hctx, hqueue, hvoice, hbusy, hlesson, bargeIn_outside v⟩
    rw [press_letter c hst]
    simp only [handlePress, hstate, hbarge, and_self, if_true]
  case other =>
    rcases hstate with h | h | h <;> simp only [handlePress, h]

end Sys2Proof.DeferredKeys
end

section
/-! SUPPORT. SILENCE (R112): what the ends it reports raise, and what its scopes leave on the voices and in the queue. -/

namespace Sys2Proof.Silences

open Sys2Proof.Machine Sys2Proof.EventMoves Sys2Proof.EventFrames Sys2Proof.VoiceFrames Sys2Proof.SpeechKept Sys2Proof.SleepQuiet
  Sys2Proof.AttemptSteps Sys2Proof.AttemptEnds Sys2Proof.Stores Sys2Proof.Words Sys2Proof.Resets Sys2Proof.Interruptions

/-! ### Ends that only raise notices (R103) -/

/-- The UTTERANCE_DONE notices of the SAY utterances among those that end (R103). -/
def doneNotices (o : UttOutcome) (us : List Utterance) : List Notice :=
  (us.filter (fun u => u.source = .say)).map fun u => doneNotice u o

/-- R22, R103: with nothing outstanding, and of SAY utterances always, the ends only raise their notices. -/
theorem reportEnds_only (o : UttOutcome) (us : List Utterance) (v : Vks)
    (h : v.attempt.ctx.outstanding = [] ∨ ∀ u ∈ us, u.source = .say) : NoticesOnly (reportEnds o us v) v
      ∧ (v.notices.queue.length + (us.filter (fun u => u.source = .say)).length ≤ 16 →
        (reportEnds o us v).notices.queue = v.notices.queue ++ doneNotices o us) := by
  induction us generalizing v with
  | nil => exact ⟨.refl v, fun _ => (List.append_nil _).symm⟩
  | cons u us ih =>
    by_cases hsay : u.source = .say
    · have hraised : reportEnds o (u :: us) v = reportEnds o us (raiseNotice (doneNotice u o) v) :=
        congrArg (reportEnds o us) (reportEnd_of_say hsay)
      obtain ⟨hrest, htold⟩ := ih (raiseNotice (doneNotice u o) v)
        (h.imp (fun h => by rw [raiseNotice_attempt]; exact h) fun h w hw => h w (List.mem_cons_of_mem _ hw))
      rw [hraised]
      refine ⟨hrest.trans (raiseNotice_noticesOnly _ v), fun hroom => ?_⟩
      have hsome : (u :: us).filter (fun w => w.source = .say) = u :: us.filter (fun w => w.source = .say) := by simp [hsay]
      rw [hsome, List.length_cons] at hroom
      have hqueue := raiseNotice_queue (doneNotice u o) v (by omega)
      rw [htold (by rw [hqueue, List.length_append, List.length_singleton]; omega), hqueue, doneNotices, doneNotices, hsome,
        List.append_assoc]
      rfl
    · have hnone : v.attempt.ctx.outstanding = [] := h.resolve_right fun hall => hsay (hall u List.mem_cons_self)
      have hsame : reportEnds o (u :: us) v = reportEnds o us v := congrArg (reportEnds o us)
        ((reportEnd_of_engine hsay).trans (endReport_of_not_outstanding _ _ (by rw [hnone]; exact List.not_mem_nil)))
      have hskip : (u :: us).filter (fun w => w.source = .say) = us.filter (fun w => w.source = .say) := by simp [hsay]
      rw [hsame, hskip, doneNotices, hskip]
      exact ih v (.inl hnone)

/-- The end of an event raises nothing behind its starts and readings. -/
theorem settle_notices_queue (v : Vks) : (settle v).notices.queue = (settleReads (startHeads v)).notices.queue := by
  have hattn (x : Vks) : (settleAttn x).notices.queue = x.notices.queue := by
    unfold settleAttn dropAttn
    repeat' split
    all_goals rfl
  simp [settle, settleSleepTimer, settleLamps, hattn, settleInactivity]

/-! ### SILENCE ALL -/

/-- The utterances SILENCE ALL ends, in the order of R103. -/
def allSpeech (v : Vks) : List Utterance :=
  v.reader.mainVoice.utterance.toList ++ v.sched.queue ++ v.reader.echoVoice.utterance.toList ++ v.sched.echoLine.toList

/-- The part with both voices and both waiting places empty, before the ends are reported (R112). -/
def silenced (v : Vks) : Vks := (stopVoices (setEchoLine none (setQueue [] v))).2

theorem silenceAll_eq (v : Vks) : silenceAll v = reportEnds .cut (allSpeech v) (silenced v) := rfl

theorem silenced_untouched (v : Vks) : Untouched (silenced v) v :=
  (stopVoices_untouched _).trans ((setEchoLine_untouched none _).trans (setQueue_untouched [] v))

theorem exec_silence (s : State) (tag x scope : Byte) (hawake : Awake s) (hscope : scope.toNat ≤ 2) (removed cut : Nat) (v1 : Vks)
    (hremoved : (if decide (scope.toNat = 0) then s.vks.sched.queue.length + s.vks.sched.echoLine.toList.length
      else (s.vks.sched.queue.filter (silenceChooses scope.toNat x.toNat)).length) = removed)
    (hcut : (if decide (scope.toNat = 0) then (onVoice s.vks .main).length + (onVoice s.vks .echo).length
      else ((onVoice s.vks .main).filter (silenceChooses scope.toNat x.toNat)).length) = cut)
    (hpart : (if decide (scope.toNat = 0) then silenceAll s.vks else silenceSome (silenceChooses scope.toNat x.toNat) s.vks) = v1) :
    exec (.silence tag [scope, x]) s = .next (withPart s (replying 0x39#8 tag .ok
      [BitVec.ofNat 8 removed, BitVec.ofNat 8 cut, 0#8, 0#8] [] (settle (startHeads v1)))) := by
  have hscopeByte : byteAt [scope, x] 0 = scope.toNat := rfl
  have htagByte : byteAt [scope, x] 1 = x.toNat := rfl
  refine exec_answered _ 0x39#8 tag _ handleSilence s _ .ok (leBytes 1 removed ++ leBytes 1 cut) _ [] rfl hawake (Nat.le_add_left 2 56)
    ?_ (by simp [padTo, leBytes])
  have hpass : firstCause [(decide ([scope, x].length ≠ 2), 1), (decide (2 < scope.toNat), 7)] = none :=
    (Invariants.firstCause_eq_none_iff _).mpr (by simpa using hscope)
  subst hremoved hcut hpart
  simp only [handleSilence, checked, hscopeByte, htagByte, hpass]
  rfl

theorem exec_silenceAll (s : State) (tag x : Byte) (hawake : Awake s) : exec (.silence tag [0#8, x]) s
    = .next (withPart s (replying 0x39#8 tag .ok
        [BitVec.ofNat 8 (s.vks.sched.queue.length + s.vks.sched.echoLine.toList.length),
          BitVec.ofNat 8 (s.vks.reader.mainVoice.utterance.toList.length + s.vks.reader.echoVoice.utterance.toList.length),
          0#8, 0#8] [] (settle (startHeads (reportEnds .cut (allSpeech s.vks) (silenced s.vks)))))) :=
  exec_silence s tag x 0#8 hawake (by decide) _ _ _ rfl rfl rfl

/-- What the rest of the event does to a silent part: nothing is started and nothing is raised. -/
theorem settle_silenced {v g : Vks} (hsched : g.sched = (silenced v).sched) (hreader : g.reader = (silenced v).reader) :
    Untouched (settle (startHeads g)) g
    ∧ (settle (startHeads g)).sched.queue = [] ∧ (settle (startHeads g)).sched.echoLine = none
    ∧ (settle (startHeads g)).reader.mainVoice = Voice.idle ∧ (settle (startHeads g)).reader.echoVoice = Voice.idle
    ∧ (settle (startHeads g)).notices.queue = g.notices.queue := by
  have hqueue : g.sched.queue = [] := by rw [hsched]; rfl
  have hline : g.sched.echoLine = none := by rw [hsched]; rfl
  have hmain : g.reader.mainVoice = Voice.idle := by rw [hreader]; rfl
  have hecho : g.reader.echoVoice = Voice.idle := by rw [hreader]; rfl
  have hsilent := settleReads_startHeads_of_silent g (by rw [hmain]; rfl) (by rw [hecho]; rfl) hqueue hline
  rw [startHeads_of_nothing_waiting g hqueue hline]
  replace hreader := settle_reader g
  replace hsched := settle_sched g
  have hnotices := settle_notices_queue g
  have hframe := settle_untouched g
  rw [hsilent] at hreader hsched hnotices
  generalize settle g = t at *
  exact ⟨hframe, by rw [hsched, hqueue], by rw [hsched, hline], by rw [hreader, hmain], by rw [hreader, hecho], hnotices⟩

/-- The ends after the main voice's own: with nothing outstanding any more they only raise notices. -/
theorem silenceAll_of_awaited {v : Vks} {u : Utterance} (hmain : v.reader.mainVoice.utterance = some u) (hsource : u.source ≠ .say) :
    silenceAll v = reportEnds .cut (v.sched.queue ++ v.reader.echoVoice.utterance.toList ++ v.sched.echoLine.toList)
      (endReport u.id (silenced v)) := by
  rw [silenceAll_eq, allSpeech, hmain]
  exact congrArg (reportEnds .cut _) (reportEnd_of_engine hsource)

/-! ### What a free main voice takes (R107) -/

/-- A free main voice takes the head of the queue where the store is open. -/
theorem settle_takes_head {g : Vks} {h : Utterance} {q : List Utterance} (hidle : g.voice .main = Voice.idle) (hopen : g.storeOpen = true)
    (hqueue : g.sched.queue = h :: q) : ((settle (startHeads g)).voice .main).state ≠ .idle
    ∧ (settle (startHeads g)).sched.queue = q ∧ ((settle (startHeads g)).voice .main).utterance = some (begun h) := by
  have hmain := startMainHead_of_cons g (by rw [show g.reader.mainVoice = Voice.idle from hidle]; rfl) hopen hqueue
  obtain ⟨hbusy, hspoken⟩ := startVoice_speaks .main h (setQueue q g)
  have hwaiting := startVoice_waiting .main .main h (setQueue q g)
  rw [← hmain] at hbusy hspoken hwaiting
  have halone : MainAlone (startHeads g) (startMainHead g) := startEchoHead_alone _
  generalize startMainHead g = m at *
  obtain ⟨hgo, hkept⟩ := halone
  generalize startHeads g = y at *
  have hon := (hgo.on hbusy).1
  obtain ⟨hend, hendQueue⟩ := settle_main_of_no_start y (startMainHead_of_busy y hon)
  generalize settle y = t at *
  exact ⟨(hend.on hon).1, hendQueue.trans (hkept.trans hwaiting), ((goesOn_utterance hend).trans (goesOn_utterance hgo)).trans hspoken⟩

/-- With nothing waiting, or the store not open, it stays free. -/
theorem settle_takes_none {g : Vks} (hidle : g.voice .main = Voice.idle) (hno : g.sched.queue = [] ∨ g.storeOpen = false) :
    (settle (startHeads g)).voice .main = Voice.idle ∧ (settle (startHeads g)).sched.queue = g.sched.queue := by
  have hheads (y : Vks) (hqueue : y.sched.queue = g.sched.queue) (hstore : y.storeOpen = g.storeOpen) : startMainHead y = y := by
    rcases hno with h | h
    · exact startMainHead_of_nil y (hqueue.trans h)
    · exact startMainHead_of_closed y (hstore.trans h)
  have halone : MainAlone (startHeads g) g := by
    have h := startEchoHead_alone (startMainHead g)
    rwa [show startEchoHead (startMainHead g) = startHeads g from rfl, hheads g rfl rfl] at h
  have hstore : (startHeads g).storeOpen = g.storeOpen := by rw [Vks.storeOpen, Vks.storeOpen, (startHeads_untouched g).store]
  obtain ⟨hgo, hkept⟩ := halone
  have hfirst := (hgo.of_idle (by rw [hidle]; rfl)).trans hidle
  generalize startHeads g = y at *
  obtain ⟨hend, hendQueue⟩ := settle_main_of_no_start y (hheads y hkept hstore)
  generalize settle y = t at *
  exact ⟨(hend.of_idle (by rw [hfirst]; rfl)).trans hfirst, hendQueue.trans hkept⟩

/-! ### Scopes SAY and TAG -/

/-- The part without the chosen utterances, before their ends are reported (R112). -/
def parted (chosen : Utterance → Bool) (v : Vks) : Vks :=
  if (onVoice v .main).filter chosen = [] then setQueue (v.sched.queue.filter (fun u => !chosen u)) v
  else idleVoice .main (setQueue (v.sched.queue.filter (fun u => !chosen u)) v)

theorem silenceSome_eq (chosen : Utterance → Bool) (v : Vks) : silenceSome chosen v
    = reportEnds .cut ((onVoice v .main).filter chosen ++ v.sched.queue.filter chosen) (parted chosen v) := rfl

theorem parted_untouched (chosen : Utterance → Bool) (v : Vks) : Untouched (parted chosen v) v := by
  unfold parted
  split
  · exact setQueue_untouched _ v
  · exact (idleVoice_untouched .main _).trans (setQueue_untouched _ v)

theorem parted_queue (chosen : Utterance → Bool) (v : Vks) :
    (parted chosen v).sched.queue = v.sched.queue.filter (fun u => !chosen u) := by
  unfold parted
  split <;> rfl

section
variable {v : Vks} {chosen : Utterance → Bool} (hchosen : ∀ u, chosen u = true → u.source = .say)

include hchosen

/-- The chosen are SAY utterances: their ends only raise notices. -/
theorem silenceSome_only : NoticesOnly (silenceSome chosen v) (parted chosen v)
    ∧ (v.notices.queue.length + ((onVoice v .main).filter chosen ++ v.sched.queue.filter chosen).length ≤ 16 →
      (silenceSome chosen v).notices.queue = v.notices.queue
        ++ ((onVoice v .main).filter chosen ++ v.sched.queue.filter chosen).map fun u => doneNotice u .cut) := by
  have hall : ∀ u ∈ (onVoice v .main).filter chosen ++ v.sched.queue.filter chosen, u.source = .say := fun u hu =>
    hchosen u ((List.mem_append.mp hu).elim (fun h => (List.mem_filter.mp h).2) fun h => (List.mem_filter.mp h).2)
  have hsays : ((onVoice v .main).filter chosen ++ v.sched.queue.filter chosen).filter (fun u => u.source = .say)
      = (onVoice v .main).filter chosen ++ v.sched.queue.filter chosen :=
    List.filter_eq_self.mpr fun u hu => decide_eq_true (hall u hu)
  have hnotices : (parted chosen v).notices = v.notices := by
    unfold parted
    split <;> rfl
  obtain ⟨honly, htold⟩ := reportEnds_only .cut _ (parted chosen v) (.inr hall)
  rw [doneNotices, hsays, hnotices] at htold
  rw [silenceSome_eq]
  exact ⟨honly, htold⟩

/-- An utterance on the main voice that is not chosen stays there, and the waiting ones that are chosen are gone. -/
theorem silenceSome_beside {u : Utterance} (hbusy : v.reader.mainVoice.state ≠ .idle) (hu : v.reader.mainVoice.utterance = some u)
    (hnot : chosen u = false) :
    (settle (startHeads (silenceSome chosen v))).sched.queue = v.sched.queue.filter (fun y => !chosen y)
    ∧ (settle (startHeads (silenceSome chosen v))).reader.mainVoice.utterance = some u
    ∧ Untouched (settle (startHeads (silenceSome chosen v))) v := by
  have hnone : (onVoice v .main).filter chosen = [] := by simp [onVoice, Vks.voice, hu, hnot]
  obtain ⟨honly, -⟩ := silenceSome_only (v := v) hchosen
  have hframe := (settle_startHeads_untouched (silenceSome chosen v)).trans (honly.frame.trans (parted_untouched chosen v))
  have hvoice : (silenceSome chosen v).reader.mainVoice = v.reader.mainVoice := by
    rw [honly.reader, parted, if_pos hnone]
    rfl
  have hqueue : (silenceSome chosen v).sched.queue = v.sched.queue.filter (fun y => !chosen y) := by
    rw [honly.sched, parted_queue]
  generalize silenceSome chosen v = g at *
  have hon : (g.voice .main).state ≠ .idle := by
    rw [show g.voice .main = v.reader.mainVoice from hvoice]
    exact hbusy
  have hheads : startMainHead g = g := startMainHead_of_busy g hon
  obtain ⟨hgo, hkept⟩ := startEchoHead_alone g
  have hstart : startHeads g = startEchoHead g := by rw [startHeads, hheads]
  have hend := settle_main_of_no_start (startHeads g) (startMainHead_of_busy _ (by rw [hstart]; exact (hgo.on hon).1))
  have hspoken := goesOn_utterance (settle_startHeads_busy .main g hon)
  generalize settle (startHeads g) = t at *
  refine ⟨hend.2.trans (by rw [hstart, hkept, hqueue]), hspoken.trans ((congrArg Voice.utterance hvoice).trans hu), hframe⟩

/-- A chosen utterance on the main voice is cut: the voice is free, with what is left waiting. -/
theorem silenceSome_frees {u : Utterance} (hu : v.reader.mainVoice.utterance = some u) (hcut : chosen u = true) :
    (silenceSome chosen v).voice .main = Voice.idle
    ∧ (silenceSome chosen v).sched.queue = v.sched.queue.filter (fun y => !chosen y)
    ∧ (silenceSome chosen v).storeOpen = v.storeOpen
    ∧ Untouched (silenceSome chosen v) v
    ∧ (v.notices.queue.length + (u :: v.sched.queue.filter chosen).length ≤ 16 → (silenceSome chosen v).notices.queue
        = v.notices.queue ++ (u :: v.sched.queue.filter chosen).map fun y => doneNotice y .cut) := by
  have hsome : (onVoice v .main).filter chosen = [u] := by simp [onVoice, Vks.voice, hu, hcut]
  obtain ⟨honly, htold⟩ := silenceSome_only (v := v) hchosen
  rw [hsome] at htold
  have hframe := honly.frame.trans (parted_untouched chosen v)
  refine ⟨?_, by rw [honly.sched, parted_queue], by rw [Vks.storeOpen, Vks.storeOpen, hframe.store], hframe, htold⟩
  rw [Vks.voice, honly.reader, parted, if_neg (by rw [hsome]; exact nofun)]
  rfl

end

end Sys2Proof.Silences
end

section
/-! SUPPORT. SILENCE by its scopes (R112), and the step an end was awaited for (R22). -/

namespace Sys2Proof.SilenceScopes

open Sys2Proof.Machine Sys2Proof.EventMoves Sys2Proof.EventFrames Sys2Proof.VoiceFrames Sys2Proof.SpeechKept
  Sys2Proof.AttemptSteps Sys2Proof.AttemptEnds Sys2Proof.Stores Sys2Proof.Words Sys2Proof.Resets Sys2Proof.Silences

theorem exec_silenceSome (s : State) (tag x scope : Byte) (hawake : Awake s) (hscope : scope = 1#8 ∨ scope = 2#8)
    {chosen : Utterance → Bool} (hchosen : ∀ u, silenceChooses scope.toNat x.toNat u = chosen u) :
    exec (.silence tag [scope, x]) s = .next (withPart s (replying 0x39#8 tag .ok
      [BitVec.ofNat 8 (s.vks.sched.queue.filter chosen).length, BitVec.ofNat 8 ((onVoice s.vks .main).filter chosen).length,
        0#8, 0#8] [] (settle (startHeads (silenceSome chosen s.vks))))) := by
  obtain rfl : silenceChooses scope.toNat x.toNat = chosen := funext hchosen
  have hone : ¬ decide (scope.toNat = 0) = true := by rcases hscope with rfl | rfl <;> decide
  exact exec_silence s tag x scope hawake (by rcases hscope with rfl | rfl <;> decide) _ _ _ (if_neg hone) (if_neg hone) (if_neg hone)

/-- Scope SAY chooses every SAY (R112). -/
theorem silenceChooses_say (x : Byte) (u : Utterance) : silenceChooses (1#8 : Byte).toNat x.toNat u = decide (u.source = .say) := by
  simp [silenceChooses]

/-- Scope TAG chooses the SAY utterances of a tag (R112). -/
theorem silenceChooses_tag (x : Byte) (u : Utterance) :
    silenceChooses (2#8 : Byte).toNat x.toNat u = decide (u.source = .say ∧ u.tag = x) := by
  simp [silenceChooses, BitVec.toNat_inj]

/-- R22: a step other than the end of the closing response leads to LISTENING and starts nothing. -/
structure StepsOn (k : AwaitKind) (id : Nat) (x y : Vks) : Prop where
  reader : y.reader = x.reader
  sched : y.sched = x.sched
  lesson : y.lesson = x.lesson
  state : y.attempt.state = .listening
  prompt : k = .prompt → y.attempt.ctx = { x.attempt.ctx with
    awaited := none, outstanding := x.attempt.ctx.outstanding.filter (fun i => i ≠ id) }
  tryResponse : k = .tryResponse → y.attempt.ctx = { x.attempt.ctx with
    buffer := [], tryNumber := x.attempt.ctx.tryNumber + 1, hintStage := 0, hintPosition := 0, awaited := none
    outstanding := x.attempt.ctx.outstanding.filter (fun i => i ≠ id) }
  outstanding : y.attempt.ctx.outstanding = x.attempt.ctx.outstanding.filter (fun i => i ≠ id)

theorem awaitedStep_stepsOn {k : AwaitKind} (hk : k ≠ .closing) (id : Nat) (x : Vks) :
    StepsOn k id x (awaitedStep k (setAwaited none (forget id x))) := by
  cases k with
  | prompt => exact ⟨rfl, rfl, rfl, rfl, fun _ => rfl, nofun, rfl⟩
  | tryResponse => exact ⟨rfl, rfl, rfl, rfl, nofun, fun _ => rfl, rfl⟩
  | closing => exact absurd rfl hk

/-- R22: the end of the closing response on a part that is `v` but for voices and queues. -/
theorem awaitedStep_leaves {v x : Vks} (id : Nat) (h : Untouched x v) :
    AfterClosing v (awaitedStep .closing (setAwaited none (forget id x))) v.lesson v.attempt.ctx :=
  closingEnded_after (x := setAwaited none (forget id x)) (awaited := none)
    (outstanding := x.attempt.ctx.outstanding.filter (fun i => i ≠ id)) h.words h.params h.lesson (by rw [← h.ctx]; rfl)

/-- SILENCE ALL with nothing outstanding behind the utterance on the main voice: the step it was awaited for, and nothing more. -/
theorem silenceAll_steps (s : State) (tag x : Byte) (hawake : Awake s) {u : Utterance} {k : AwaitKind} (hk : k ≠ .closing)
    (hmain : s.vks.reader.mainVoice.utterance = some u) (hsource : u.source ≠ .say)
    (hout : s.vks.attempt.ctx.outstanding = [u.id]) (hawaited : s.vks.attempt.ctx.awaited = some (k, u.id)) :
    ∃ t, exec (.silence tag [0#8, x]) s = .next t ∧ t.vks.attempt.state = .listening ∧ t.vks.sched.queue = []
      ∧ t.vks.lesson = s.vks.lesson
      ∧ (k = .prompt → t.vks.attempt.ctx = { s.vks.attempt.ctx with awaited := none, outstanding := [] })
      ∧ (k = .tryResponse → t.vks.attempt.ctx = { s.vks.attempt.ctx with
          buffer := [], tryNumber := s.vks.attempt.ctx.tryNumber + 1, hintStage := 0, hintPosition := 0, awaited := none
          outstanding := [] }) := by
  have hexec := exec_silenceAll s tag x hawake
  have hquiet := silenced_untouched s.vks
  have hmem : u.id ∈ (silenced s.vks).attempt.ctx.outstanding := by rw [hquiet.ctx, hout]; exact List.mem_singleton_self _
  rw [← silenceAll_eq, silenceAll_of_awaited hmain hsource, endReport_of_awaited hmem (by rw [hquiet.ctx]; exact hawaited)] at hexec
  obtain ⟨hreader, hsched, hlesson, hstate, hprompt, htry, houtstanding⟩ := awaitedStep_stepsOn hk u.id (silenced s.vks)
  rw [hquiet.ctx] at hprompt htry houtstanding
  have hcleared : s.vks.attempt.ctx.outstanding.filter (fun i => i ≠ u.id) = [] := by simp [hout]
  rw [hcleared] at hprompt htry houtstanding
  replace hlesson := hlesson.trans hquiet.lesson
  generalize awaitedStep k (setAwaited none (forget u.id (silenced s.vks))) = y at *
  obtain ⟨honly, -⟩ := reportEnds_only .cut (s.vks.sched.queue ++ s.vks.reader.echoVoice.utterance.toList ++ s.vks.sched.echoLine.toList)
    y (.inl houtstanding)
  generalize reportEnds .cut (s.vks.sched.queue ++ s.vks.reader.echoVoice.utterance.toList ++ s.vks.sched.echoLine.toList) y = g at *
  obtain ⟨hframe, hqueue, -⟩ := settle_silenced (honly.sched.trans hsched) (honly.reader.trans hreader)
  replace hframe := hframe.trans honly.frame
  generalize settle (startHeads g) = t at *
  exact ⟨_, hexec, hframe.state.trans hstate, hqueue, hframe.lesson.trans hlesson, fun h => hframe.ctx.trans (hprompt h),
    fun h => hframe.ctx.trans (htry h)⟩

/-- SILENCE ALL that cuts the closing response: the attempt leaves it, whatever else is cut (R22, R112). -/
theorem silenceAll_leaves (s : State) (tag x : Byte) (hawake : Awake s) {u : Utterance}
    (hmain : s.vks.reader.mainVoice.utterance = some u) (hsource : u.source ≠ .say)
    (hout : u.id ∈ s.vks.attempt.ctx.outstanding) (hawaited : s.vks.attempt.ctx.awaited = some (.closing, u.id)) :
    ∃ t, exec (.silence tag [0#8, x]) s = .next t ∧ LeavesClosing s.vks t.vks s.vks.lesson s.vks.attempt.ctx := by
  have hexec := exec_silenceAll s tag x hawake
  have hquiet := silenced_untouched s.vks
  rw [← silenceAll_eq, silenceAll_of_awaited hmain hsource,
    endReport_of_awaited (by rw [hquiet.ctx]; exact hout) (by rw [hquiet.ctx]; exact hawaited)] at hexec
  have hafter := awaitedStep_leaves u.id hquiet
  generalize awaitedStep .closing (setAwaited none (forget u.id (silenced s.vks))) = y at *
  have hleaves := (reportEnds_after .cut (s.vks.sched.queue ++ s.vks.reader.echoVoice.utterance.toList
    ++ s.vks.sched.echoLine.toList) hafter).leaves
  generalize reportEnds .cut (s.vks.sched.queue ++ s.vks.reader.echoVoice.utterance.toList ++ s.vks.sched.echoLine.toList) y = g at *
  have hframe := Interruptions.settle_startHeads_untouched g
  generalize settle (startHeads g) = t at *
  exact ⟨_, hexec, leavesClosing_of_same (t' := (replying 0x39#8 tag .ok _ [] t)) hframe.state hframe.ctx hframe.lesson hleaves⟩

/-- R22: the step each awaited end takes. -/
theorem reportEnd_steps (v : Vks) (u : Utterance) (o : UttOutcome) (hsource : u.source ≠ .say)
    (hout : u.id ∈ v.attempt.ctx.outstanding) :
    ((∀ k, v.attempt.ctx.awaited ≠ some (k, u.id)) → reportEnd o v u = forget u.id v)
    ∧ ∀ k, v.attempt.ctx.awaited = some (k, u.id) → reportEnd o v u = awaitedStep k (setAwaited none (forget u.id v)) := by
  rw [reportEnd_of_engine hsource]
  exact ⟨endReport_of_unawaited hout, fun k h => endReport_of_awaited hout h⟩

theorem storeOpen_iff (v : Vks) : v.storeOpen = true ↔ v.reader.store = .usable ∨ v.reader.store = .unusable := by
  simp [Vks.storeOpen]

/-- Settles O40: each scope, the refusals, and the step of an end. -/
theorem silenceEndsWhatItsScopeNames : Obligations.SilenceEndsWhatItsScopeNames := by
  refine ⟨fun s tag x hawake => ⟨fun hnone => ?all, fun u hstate hawaited hout hmain hsource => ?prompt,
    fun u hbusy hmain hsource => ⟨?say, ?tag⟩, fun u hawaited hout hmain hsource => ?tries,
    fun u hawaited hout hmain hsource => silenceAll_leaves s tag x hawake hmain (by rw [hsource]; decide) hout hawaited, ?chosen,
    fun u hbusy hmain hsay hother => ?beside, fun scope hscope => ?scope, fun arg hlen hfits => ?length⟩,
    fun v u o hsource => ?ends⟩
  case all =>
    have hexec := exec_silenceAll s tag x hawake
    obtain ⟨honly, htold⟩ := reportEnds_only .cut (allSpeech s.vks) (silenced s.vks) (.inl hnone)
    generalize reportEnds .cut (allSpeech s.vks) (silenced s.vks) = g at *
    obtain ⟨hframe, hqueue, hline, hvoice, hecho, hnotices⟩ := settle_silenced honly.sched honly.reader
    replace hframe := hframe.trans (honly.frame.trans (silenced_untouched s.vks))
    generalize settle (startHeads g) = t at *
    exact ⟨_, hexec, rfl, rfl, hqueue, hline, hvoice, hecho, fun hroom => hnotices.trans (htold hroom),
      replying_untouched _ _ _ _ _ hframe⟩
  case prompt =>
    obtain ⟨t, hexec, hst, hqueue, -, hctx, -⟩ := silenceAll_steps s tag x hawake (by decide) hmain (by rw [hsource]; decide) hout hawaited
    exact ⟨t, hexec, hst, hctx rfl, hqueue⟩
  case tries =>
    obtain ⟨t, hexec, hst, hqueue, hlesson, -, hctx⟩ :=
      silenceAll_steps s tag x hawake (by decide) hmain (by rw [hsource]; decide) hout hawaited
    exact ⟨t, hexec, hst, hqueue, hlesson, hctx rfl⟩
  case say =>
    have hexec := exec_silenceSome s tag x 1#8 hawake (.inl rfl) (silenceChooses_say x)
    have hnone : (onVoice s.vks .main).filter (fun y => decide (y.source = .say)) = [] := by
      simp [onVoice, Vks.voice, hmain, hsource]
    rw [hnone] at hexec
    obtain ⟨hqueue, hspoken, hframe⟩ := silenceSome_beside (chosen := fun y => decide (y.source = .say))
      (fun _ h => of_decide_eq_true h) hbusy hmain (decide_eq_false hsource)
    generalize settle (startHeads (silenceSome (fun y => decide (y.source = .say)) s.vks)) = t at *
    exact ⟨_, hexec, hqueue.trans (List.filter_congr fun y _ => by simp), hspoken, replying_untouched _ _ _ _ _ hframe⟩
  case tag =>
    have hexec := exec_silenceSome s tag x 2#8 hawake (.inr rfl) (silenceChooses_tag x)
    have hnone : (onVoice s.vks .main).filter (fun y => decide (y.source = .say ∧ y.tag = x)) = [] := by
      simp [onVoice, Vks.voice, hmain, hsource]
    rw [hnone] at hexec
    obtain ⟨hqueue, hspoken, hframe⟩ := silenceSome_beside (chosen := fun y => decide (y.source = .say ∧ y.tag = x))
      (fun _ h => (of_decide_eq_true h).1) hbusy hmain (decide_eq_false fun h => hsource h.1)
    generalize settle (startHeads (silenceSome (fun y => decide (y.source = .say ∧ y.tag = x)) s.vks)) = t at *
    exact ⟨_, hexec, hqueue.trans (List.filter_congr fun y _ => (decide_not ..).symm), hspoken, replying_untouched _ _ _ _ _ hframe⟩
  case beside =>
    have hexec := exec_silenceSome s tag x 2#8 hawake (.inr rfl) (silenceChooses_tag x)
    have hnone : (onVoice s.vks .main).filter (fun y => decide (y.source = .say ∧ y.tag = x)) = [] := by
      simp [onVoice, Vks.voice, hmain, hother]
    rw [hnone] at hexec
    obtain ⟨hqueue, hspoken, hframe⟩ := silenceSome_beside (chosen := fun y => decide (y.source = .say ∧ y.tag = x))
      (fun _ h => (of_decide_eq_true h).1) hbusy hmain (decide_eq_false fun h => hother h.2)
    generalize settle (startHeads (silenceSome (fun y => decide (y.source = .say ∧ y.tag = x)) s.vks)) = t at *
    exact ⟨_, hexec, hqueue.trans (List.filter_congr fun y _ => (decide_not ..).symm), hspoken, replying_untouched _ _ _ _ _ hframe⟩
  case chosen =>
    intro chosenBy
    have hall (scope : Byte) (hscope : scope = 1#8 ∨ scope = 2#8) (chosen : Utterance → Bool)
        (hchooses : ∀ u, silenceChooses scope.toNat x.toNat u = chosen u) (hsay : ∀ u, chosen u = true → u.source = .say) :
        chosenBy scope chosen := by
      intro u hmain hchosen rest ended
      have hexec := exec_silenceSome s tag x scope hawake hscope hchooses
      have hone : (onVoice s.vks .main).filter chosen = [u] := by simp [onVoice, Vks.voice, hmain, hchosen]
      rw [hone] at hexec
      obtain ⟨hidle, hrest, hstore, hframe, htold⟩ := silenceSome_frees hsay hmain hchosen
      generalize silenceSome chosen s.vks = g at *
      have hnone := settle_takes_none hidle
      have hhead := fun h q => settle_takes_head (h := h) (q := q) hidle
      have hjoin : NoticesJoin (settle (startHeads g)) g := moves_join (l := 1) ((settle_moves _).trans (startHeads_moves _))
      replace hframe := (Interruptions.settle_startHeads_untouched g).trans hframe
      rw [hstore, hrest] at hnone hhead
      generalize settle (startHeads g) = t at *
      refine ⟨_, hexec, rfl, rfl, fun hstays => hnone (hstays.imp_right fun h => ?_), fun h q hcons hopen => ?_, fun hroom => ?_,
        replying_untouched _ _ _ _ _ hframe⟩
      · exact Bool.eq_false_iff.mpr fun hopen => ((storeOpen_iff _).mp hopen).elim h.1 h.2
      · exact hhead h q ((storeOpen_iff _).mpr hopen) hcons
      · obtain ⟨later, hlater⟩ := hjoin.joined
        exact ⟨later, hlater.trans (by rw [htold hroom]; rfl)⟩
    exact ⟨hall 1#8 (.inl rfl) _ (silenceChooses_say x) fun _ h => of_decide_eq_true h,
      hall 2#8 (.inr rfl) _ (silenceChooses_tag x) fun _ h => (of_decide_eq_true h).1⟩
  case scope =>
    refine exec_badArgs s 0x39#8 tag _ _ handleSilence 7 rfl hawake (Nat.le_add_left 2 56) (checked_badArgs _ _ _ 7 ?_)
    have hbyte : byteAt [scope, x] 0 = scope.toNat := rfl
    simp [firstCause, hbyte, hscope]
  case length =>
    exact exec_badArgs s 0x39#8 tag _ _ handleSilence 1 rfl hawake hfits (checked_badArgs _ _ _ 1 (by simp [firstCause, hlen]))
  case ends =>
    intro left moved
    refine ⟨fun hout => (reportEnd_of_engine hsource).trans (endReport_of_not_outstanding _ _ hout), fun hout => ?_⟩
    obtain ⟨hunawaited, hawaited⟩ := reportEnd_steps v u o hsource hout
    refine ⟨hunawaited, hawaited .prompt, hawaited .tryResponse, fun h => ?_⟩
    rw [hawaited .closing h]
    exact ⟨(awaitedStep_leaves u.id (.refl v)).leaves, (awaitedStep_outside .closing _).trans ((setAwaited_outside _ _).trans (forget_outside _ v))⟩

end Sys2Proof.SilenceScopes
end

section
/-! SUPPORT. What the draws of an output instant take from the voices (R126, R129, R152), and what its ends leave of the voices
(R101 to R103). -/

namespace Sys2Proof.Draws

open Sys2Proof.Machine Sys2Proof.EventMoves Sys2Proof.EventFrames Sys2Proof.VoiceFrames Sys2Proof.SpeechKept Sys2Proof.Instants
  Sys2Proof.Stores

/-! ### One draw -/

/-- A voice after its draw, with its channel level (R126, R129, R152). -/
def drawnVoice (channel : Nat) (w : Voice) : Voice :=
  if w.state = .playing ∧ w.leadIn = false then
    match w.ring, w.utterance with
    | r :: rest, some u => { w with
        ring := rest, utterance := some (u.played r)
        gain := (match r.level with | some l => combinedGain l channel | none => w.gain) }
    | [], some u => if w.readItem = 0 ∨ u.starved then w else { w with utterance := some { u with starved := true } }
    | _, none => w
  else w

/-- What a voice adds to the sum (R152, R153). -/
def drawTerm (channel : Nat) (w : Voice) : Int :=
  match w.ring with
  | r :: _ =>
    if w.state = .playing ∧ w.leadIn = false ∧ w.utterance.isSome then
      r.value * ((match r.level with | some l => combinedGain l channel | none => w.gain : Nat) : Int)
    else 0
  | [] => 0

theorem drawnVoice_of_not {channel : Nat} {w : Voice} (h : w.state ≠ .playing ∨ w.leadIn = true) : drawnVoice channel w = w :=
  if_neg fun k => h.elim (fun h => h k.1) fun h => by rw [h] at k; exact nomatch k.2

theorem drawnVoice_of_cons {channel : Nat} {w : Voice} {r : RingSample} {rest : List RingSample} {u : Utterance}
    (hplaying : w.state = .playing) (hlead : w.leadIn = false) (hring : w.ring = r :: rest) (hu : w.utterance = some u) :
    drawnVoice channel w = { w with
      ring := rest, utterance := some (u.played r)
      gain := (match r.level with | some l => combinedGain l channel | none => w.gain) } := by
  rw [drawnVoice, if_pos ⟨hplaying, hlead⟩, hring, hu]

theorem drawnVoice_of_nil {channel : Nat} {w : Voice} {u : Utterance} (hplaying : w.state = .playing) (hlead : w.leadIn = false)
    (hring : w.ring = []) (hu : w.utterance = some u) : drawnVoice channel w
      = if w.readItem = 0 ∨ u.starved then w else { w with utterance := some { u with starved := true } } := by
  rw [drawnVoice, if_pos ⟨hplaying, hlead⟩, hring, hu]

theorem drawnVoice_of_none {channel : Nat} {w : Voice} (hu : w.utterance = none) : drawnVoice channel w = w := by
  unfold drawnVoice
  split
  · rw [hu]
    cases w.ring <;> rfl
  · rfl

/-- What no draw moves: state, item being read, and the lead-in. -/
theorem drawnVoice_keeps (channel : Nat) (w : Voice) : (drawnVoice channel w).state = w.state
    ∧ (drawnVoice channel w).readItem = w.readItem ∧ (drawnVoice channel w).leadIn = w.leadIn
    ∧ (drawnVoice channel w).ring = if w.state = .playing ∧ w.leadIn = false ∧ w.utterance.isSome then w.ring.tail else w.ring := by
  by_cases h : w.state = .playing ∧ w.leadIn = false
  · obtain ⟨hplaying, hlead⟩ := h
    cases hu : w.utterance with
    | none =>
      rw [drawnVoice_of_none hu]
      exact ⟨rfl, rfl, rfl, (if_neg fun h => nomatch h.2.2).symm⟩
    | some u =>
      have hall : w.state = .playing ∧ w.leadIn = false ∧ (some u).isSome = true := ⟨hplaying, hlead, rfl⟩
      cases hring : w.ring with
      | nil =>
        rw [drawnVoice_of_nil hplaying hlead hring hu, if_pos hall]
        split
        · exact ⟨rfl, rfl, rfl, hring⟩
        · exact ⟨rfl, rfl, rfl, hring⟩
      | cons r rest =>
        rw [drawnVoice_of_cons hplaying hlead hring hu]
        exact ⟨rfl, rfl, rfl, (if_pos hall).symm⟩
  · rw [drawnVoice_of_not (by cases hlead : w.leadIn <;> simp_all)]
    exact ⟨rfl, rfl, rfl, (if_neg fun k => h ⟨k.1, k.2.1⟩).symm⟩

/-- The draw as a whole: its value with the gain after it, its voice, and what it tells. -/
theorem draw_eq (i : VoiceId) (v : Vks) : (draw i v).1 * ((drawnVoice (v.channelLevel i) (v.voice i)).gain : Int)
      = drawTerm (v.channelLevel i) (v.voice i)
    ∧ (draw i v).2.voice i = drawnVoice (v.channelLevel i) (v.voice i)
    ∧ (((v.voice i).ring ≠ [] ∨ (v.voice i).readItem = 0) → (draw i v).2.notices = v.notices) := by
  have hterm (h : ¬ ((v.voice i).state = .playing ∧ (v.voice i).leadIn = false ∧ (v.voice i).utterance.isSome = true)) :
      drawTerm (v.channelLevel i) (v.voice i) = 0 := by
    unfold drawTerm
    split
    · exact if_neg h
    · rfl
  unfold draw
  simp only
  split
  · next hnot =>
    rw [drawnVoice_of_not hnot, hterm fun h => hnot.elim (fun k => k h.1) fun k => by rw [k] at h; exact nomatch h.2.1]
    exact ⟨Int.zero_mul _, rfl, fun _ => rfl⟩
  · next hon =>
    have hplaying : (v.voice i).state = .playing := by
      by_contra hp
      exact hon (.inl hp)
    have hlead : (v.voice i).leadIn = false := Bool.eq_false_iff.mpr fun hl => hon (.inr hl)
    split
    · next r rest u hring hu =>
      rw [drawnVoice_of_cons hplaying hlead hring hu, voice_setVoice_same]
      refine ⟨?_, rfl, fun _ => by cases i <;> rfl⟩
      rw [drawTerm, hring]
      exact (if_pos ⟨hplaying, hlead, by rw [hu]; rfl⟩).symm
    · next u hring hu =>
      rw [drawnVoice_of_nil hplaying hlead hring hu]
      have hzero : drawTerm (v.channelLevel i) (v.voice i) = 0 := by rw [drawTerm, hring]
      rw [hzero]
      split
      · exact ⟨Int.zero_mul _, rfl, fun _ => rfl⟩
      · next hstarves =>
        refine ⟨Int.zero_mul _, ?_, fun h => ?_⟩
        · rw [raiseNotice_voice, voice_setVoice_same]
        · exact absurd (h.resolve_left fun k => k hring) fun k => hstarves (.inl k)
    · next hu =>
      rw [drawnVoice_of_none hu, hterm fun h => by rw [hu] at h; exact nomatch h.2.2]
      exact ⟨Int.zero_mul _, rfl, fun _ => rfl⟩

/-- R129: a voice that has nothing to draw is marked the first time, and tells it. -/
theorem draw_starves (i : VoiceId) (v : Vks) {u : Utterance} (hplaying : (v.voice i).state = .playing) (hlead : (v.voice i).leadIn = false)
    (hring : (v.voice i).ring = []) (hu : (v.voice i).utterance = some u) (hread : (v.voice i).readItem ≠ 0)
    (hfirst : u.starved = false) (hroom : v.notices.queue.length < 16) :
    (draw i v).2.notices.queue = v.notices.queue ++ [.voiceStarved i.code u.id] := by
  have hqueue (w : Voice) : (setVoice i w v).notices = v.notices := by cases i <;> rfl
  have hdraw : draw i v = (0, raiseNotice (.voiceStarved i.code u.id)
      (setVoice i { v.voice i with utterance := some { u with starved := true } } v)) := by
    unfold draw
    simp only [hplaying, hlead, hring, hu]
    rw [if_neg (by simp), if_neg (by simp [hread, hfirst])]
  rw [hdraw, raiseNotice_queue _ _ (by rw [hqueue]; exact hroom), hqueue]

/-- A voice already marked draws nothing and tells nothing (R129). -/
theorem draw_of_starved (i : VoiceId) (v : Vks) {u : Utterance} (hu : (v.voice i).utterance = some u) (hring : (v.voice i).ring = [])
    (hstarved : u.starved = true) : draw i v = (0, v) := by
  unfold draw
  simp only [hring, hu, hstarved]
  split
  · rfl
  · simp

/-! ### Both draws of an instant -/

theorem hostPart_voice (v : Vks) (i : VoiceId) : (hostSample (enveloped v)).2.voice i = v.voice i := by
  rw [← enveloped_voice v i]
  cases i <;> simp only [Vks.voice, (hostSample_taken (enveloped v)).reader]

theorem hostPart_params (v : Vks) : (hostSample (enveloped v)).2.params = v.params :=
  (hostSample_taken (enveloped v)).outside.2.2.1.trans (by rw [(enveloped_eq v).1])

theorem hostPart_channel (v : Vks) (i : VoiceId) : (hostSample (enveloped v)).2.channelLevel i = v.channelLevel i := by
  cases i <;> simp only [Vks.channelLevel, hostPart_params]

theorem hostPart_power (v : Vks) : (hostSample (enveloped v)).2.power = v.power :=
  (hostSample_taken (enveloped v)).power.trans (by rw [(enveloped_eq v).1])

theorem mainDrawn_echo (v : Vks) : (draw .main (hostSample (enveloped v)).2).2.voice .echo = v.voice .echo
    ∧ (draw .main (hostSample (enveloped v)).2).2.channelLevel .echo = v.channelLevel .echo := by
  have hmain := draw_drawn .main (hostSample (enveloped v)).2
  exact ⟨(hmain.other .echo (by decide)).trans (hostPart_voice v .echo), by
    rw [Vks.channelLevel, hmain.untouched.params, hostPart_params]
    rfl⟩

section
variable {v : Vks} (hon : v.power.amp = .on)

include hon

theorem drawnPart_of_on : drawnPart v = (draw .echo (draw .main (hostSample (enveloped v)).2).2).2 := by
  rw [drawnPart, drawVoices_of_on _ (by rw [hostPart_power]; exact hon)]

/-- The voices after the draws. -/
theorem drawnPart_voice (i : VoiceId) : (drawnPart v).voice i = drawnVoice (v.channelLevel i) (v.voice i) := by
  rw [drawnPart_of_on hon]
  cases i with
  | main =>
    rw [(draw_drawn .echo _).other .main (by decide), (draw_eq .main _).2.1, hostPart_voice, hostPart_channel]
  | echo =>
    rw [(draw_eq .echo _).2.1, (mainDrawn_echo v).1, (mainDrawn_echo v).2]

/-- R153: the sum of an instant. -/
theorem mixSum_of_on : mixSum v = (if v.mixer.playing then v.mixer.samples.headD 0 else 0) * ((drawnPart v).mixer.hostGain : Int)
    + (drawTerm v.params.mainVoiceLevel v.reader.mainVoice + drawTerm v.params.echoVoiceLevel v.reader.echoVoice) := by
  obtain ⟨hhost, -, -⟩ := hostSample_samples (enveloped v) (by rw [(enveloped_eq v).1]; exact hon)
  rw [(enveloped_mixer v).2.1, (enveloped_mixer v).2.2.1] at hhost
  have hmain := drawnPart_voice hon .main
  have hecho := drawnPart_voice hon .echo
  have htermMain := (draw_eq .main (hostSample (enveloped v)).2).1
  have htermEcho := (draw_eq .echo (draw .main (hostSample (enveloped v)).2).2).1
  rw [hostPart_voice, hostPart_channel] at htermMain
  rw [(mainDrawn_echo v).1, (mainDrawn_echo v).2] at htermEcho
  rw [mixSum, hhost, drawVoices_of_on _ (by rw [hostPart_power]; exact hon), ← drawnPart_of_on hon, Vks.gainOf, Vks.gainOf,
    hmain, hecho, htermMain, htermEcho]
  rfl

/-- What the draws raise, by voice. -/
theorem drawnPart_notices : NoticesJoin (drawnPart v) (draw .main (hostSample (enveloped v)).2).2
    ∧ (hostSample (enveloped v)).2.notices.queue.length ≤ v.notices.queue.length + 1
    ∧ (draw .main (hostSample (enveloped v)).2).2.notices.queue.length ≤ (hostSample (enveloped v)).2.notices.queue.length + 1
    ∧ (drawnPart v).notices.queue.length ≤ (draw .main (hostSample (enveloped v)).2).2.notices.queue.length + 1 := by
  have hhost := (hostSample_taken (enveloped v)).notices.2
  rw [show (enveloped v).notices = v.notices by rw [(enveloped_eq v).1]] at hhost
  rw [drawnPart_of_on hon]
  exact ⟨(draw_drawn .echo _).notices.1, hhost, (draw_drawn .main _).notices.2, (draw_drawn .echo _).notices.2⟩

end

end Sys2Proof.Draws
end

section
/-! SUPPORT. What an output instant's ends leave (R101 to R103, R126): the echo voice's side through the attempt's steps, the voices
that were not drained, and the attempt. -/

namespace Sys2Proof.InstantEnds

open Sys2Proof.Machine Sys2Proof.EventMoves Sys2Proof.EventFrames Sys2Proof.VoiceFrames Sys2Proof.SpeechKept Sys2Proof.Instants
  Sys2Proof.Stores Sys2Proof.AttemptSteps Sys2Proof.AttemptEnds Sys2Proof.Draws Sys2Proof.Echoes Sys2Proof.Interruptions

/-! ### The echo voice's side through the attempt's steps -/

/-- The echo voice goes on, and the echo line is as it was. -/
structure EchoAlone (a b : Vks) : Prop where
  voice : VoiceGoesOn (a.voice .echo) (b.voice .echo)
  line : a.sched.echoLine = b.sched.echoLine

variable {a b c : Vks}

theorem EchoAlone.of_same (hreader : a.reader = b.reader) (hline : a.sched.echoLine = b.sched.echoLine) : EchoAlone a b :=
  ⟨by rw [Vks.voice, Vks.voice, hreader]; exact .refl _, hline⟩

theorem EchoAlone.refl (v : Vks) : EchoAlone v v := .of_same rfl rfl

theorem EchoAlone.trans (h : EchoAlone a b) (k : EchoAlone b c) : EchoAlone a c := ⟨h.voice.trans k.voice, h.line.trans k.line⟩

/-- A step that leaves voices and echo line keeps what came before it. -/
theorem EchoAlone.after (h : EchoAlone b c) (hreader : a.reader = b.reader) (hline : a.sched.echoLine = b.sched.echoLine) :
    EchoAlone a c := (EchoAlone.of_same hreader hline).trans h

theorem raiseNotice_alone (n : Notice) (v : Vks) : EchoAlone (raiseNotice n v) v :=
  .of_same (raiseNotice_reader n v) (by rw [raiseNotice_sched])

theorem startMainHead_alone (v : Vks) : EchoAlone (startMainHead v) v := ⟨(startMainHead_echo v).1, (startMainHead_echo v).2.1⟩

theorem startMain_alone (u : Utterance) (v : Vks) : EchoAlone (startVoice .main u v) v := by
  have h := startVoice_goesOn .main u v
  have hvoice := h.voices .echo
  rw [voice_setVoice_other _ _ (by decide)] at hvoice
  exact ⟨hvoice, congrArg Scheduler.echoLine h.sched⟩

theorem placeEngine_alone (u : Utterance) (v : Vks) : EchoAlone (placeEngine u v).1 v := by
  unfold placeEngine
  split
  · exact startMain_alone u v
  · split
    · exact .of_same rfl rfl
    · split
      · next s q _ => exact (raiseNotice_alone (doneNotice s .dropped) v).after rfl rfl
      · exact .refl v

theorem requestEngine_alone (s : Source) (ps : List Part) (x : Expansion) (v : Vks) : EchoAlone (requestEngine s ps x v).1 v := by
  by_cases h : expandAll v x ps = []
  · rw [requestEngine_of_none s h]
    exact .of_same rfl rfl
  · by_cases hturned : TurnsAway v
    · rw [requestEngine_of_turned s h hturned]
      exact .of_same rfl rfl
    · rw [requestEngine_of_placed s h hturned]
      exact (placeEngine_alone _ _).trans (.of_same rfl rfl)

theorem beginPrompting_alone (v : Vks) : EchoAlone (beginPrompting v) v := by
  have hprompt : EchoAlone (requestPrompt v).1 v :=
    (requestEngine_alone .prompt (promptParts v) (attemptExpansion v 0 none) v).after rfl rfl
  have h := (raiseNotice_alone (openedNotice (requestPrompt v).1.attempt.ctx) (requestPrompt v).1).trans hprompt
  unfold beginPrompting
  simp only
  split
  · exact h.after rfl rfl
  · exact h

theorem lessonWalk_alone (v : Vks) : EchoAlone (lessonWalk v) v := by
  rcases first_valid v v.lesson.entries with hnone | ⟨bad, e, rest, x, hentries, hbad, hvalid⟩
  · rw [lessonWalk_of_none hnone]
    exact (raiseNotice_alone _ _).trans (.of_same rfl rfl)
  · rw [lessonWalk_of_valid hentries hbad hvalid]
    exact (beginPrompting_alone _).trans (.of_same rfl rfl)

theorem closingEnded_alone (v : Vks) : EchoAlone (closingEnded v) v := by
  unfold closingEnded
  simp only
  repeat' split
  · exact (lessonWalk_alone _).trans (.of_same rfl rfl)
  · exact .of_same rfl rfl
  · exact .of_same rfl rfl

theorem reportEnds_alone (o : UttOutcome) (us : List Utterance) (v : Vks) : EchoAlone (reportEnds o us v) v := by
  unfold reportEnds
  induction us generalizing v with
  | nil => exact .refl v
  | cons u us ih =>
    refine (ih _).trans ?_
    by_cases hsay : u.source = .say
    · rw [reportEnd_of_say hsay]
      exact raiseNotice_alone _ v
    · rw [reportEnd_of_engine hsay]
      by_cases hout : u.id ∈ v.attempt.ctx.outstanding
      · by_cases hawaited : ∃ k, v.attempt.ctx.awaited = some (k, u.id)
        · obtain ⟨k, hk⟩ := hawaited
          rw [endReport_of_awaited hout hk]
          cases k with
          | prompt => exact .of_same rfl rfl
          | tryResponse => exact .of_same rfl rfl
          | closing => exact (closingEnded_alone _).trans (.of_same rfl rfl)
        · rw [endReport_of_unawaited hout fun k hk => hawaited ⟨k, hk⟩]
          exact .of_same rfl rfl
      · rw [endReport_of_not_outstanding _ _ hout]
        exact .refl v

/-! ### The ends of an instant (R126) -/

/-- The utterances whose last sample an instant drew, main first (R103). -/
def drainedSpeech (v : Vks) : List Utterance :=
  (if (v.voice .main).drained then onVoice v .main else []) ++ (if (v.voice .echo).drained then onVoice v .echo else [])

/-- The part with the drained voices free, before their ends are reported. -/
def freed (v : Vks) : Vks :=
  if (v.voice .echo).drained then idleVoice .echo (if (v.voice .main).drained then idleVoice .main v else v)
  else if (v.voice .main).drained then idleVoice .main v else v

theorem endDrained_eq (v : Vks) : endDrained v = startHeads (reportEnds .finished (drainedSpeech v) (freed v)) := rfl

theorem freed_voice (v : Vks) (i : VoiceId) : (freed v).voice i = if (v.voice i).drained then Voice.idle else v.voice i := by
  unfold freed
  cases i with
  | main => split_ifs <;> rfl
  | echo => split_ifs <;> rfl

/-- All but the voices are as they were. -/
theorem freed_same (v : Vks) : Untouched (freed v) v ∧ (freed v).attempt = v.attempt ∧ (freed v).sched = v.sched
    ∧ (freed v).notices = v.notices := by
  unfold freed
  split_ifs
  · exact ⟨(idleVoice_untouched .echo _).trans (idleVoice_untouched .main v), rfl, rfl, rfl⟩
  · exact ⟨idleVoice_untouched .echo v, rfl, rfl, rfl⟩
  · exact ⟨idleVoice_untouched .main v, rfl, rfl, rfl⟩
  · exact ⟨.refl v, rfl, rfl, rfl⟩

/-- A voice that was not drained is kept through the ends and starts. -/
theorem endDrained_kept {i : VoiceId} {v : Vks} (h : (v.voice i).drained = false) : Kept i (endDrained v) v := by
  have hfreed : Kept i (freed v) v := by
    obtain ⟨-, -, hsched, -⟩ := freed_same v
    refine .of_goesOn ?_ (by cases i <;> simp [waiting, hsched])
    rw [freed_voice, h]
    exact .refl _
  exact (startHeads_kept _).trans ((reportEnds_kept _ _ _).trans hfreed)

/-- A busy echo voice that was not drained goes on with the same line behind it. -/
theorem endDrained_alone {v : Vks} (h : (v.voice .echo).drained = false) (hbusy : (v.voice .echo).state ≠ .idle) :
    EchoAlone (endDrained v) v := by
  have hfreed : EchoAlone (freed v) v := by
    refine ⟨?_, by rw [(freed_same v).2.2.1]⟩
    rw [freed_voice, h]
    exact .refl _
  have hbefore := (startMainHead_alone _).trans ((reportEnds_alone .finished (drainedSpeech v) (freed v)).trans hfreed)
  rw [endDrained_eq, startHeads, startEchoHead_of_busy _ (hbefore.voice.on hbusy).1]
  exact hbefore

/-! ### The echo's take-over and the standby count -/

theorem countStandby_same (active : Bool) (v : Vks) : (countStandby active v).reader = v.reader ∧ (countStandby active v).sched = v.sched
    ∧ (countStandby active v).attempt = v.attempt ∧ (countStandby active v).lesson = v.lesson
    ∧ (countStandby active v).params = v.params ∧ (v.mixer.playing = false → (countStandby active v).mixer.playing = false) := by
  have hoff (n : Nat) : (ampGoesOff { v with power := { v.power with standby := n } }).mixer.playing = false := rfl
  unfold countStandby
  simp only
  repeat' split
  · exact ⟨rfl, rfl, rfl, rfl, rfl, fun _ => hoff _⟩
  · exact ⟨rfl, rfl, rfl, rfl, rfl, id⟩
  · exact ⟨rfl, rfl, rfl, rfl, rfl, fun _ => hoff _⟩
  · exact ⟨rfl, rfl, rfl, rfl, rfl, id⟩
  · exact ⟨rfl, rfl, rfl, rfl, rfl, id⟩

theorem takeOverEcho_echoStep (r : Bool) (v : Vks) : EchoStep (takeOverEcho r v) v := by
  unfold takeOverEcho
  split
  · split
    · exact (startVoice_echoStep _ _ _).trans ((setEchoLine_echoStep _ _).trans (cutPlayingEcho_echoStep v))
    · exact .refl v
  · exact .refl v

end Sys2Proof.InstantEnds
end

section
/-! SUPPORT. The voices, the attempt and the notices at the end of an output instant (R101 to R103, R110, R126, R129). -/

namespace Sys2Proof.InstantVoices

open Sys2Proof.Machine Sys2Proof.EventMoves Sys2Proof.EventFrames Sys2Proof.VoiceFrames Sys2Proof.SpeechKept Sys2Proof.Instants
  Sys2Proof.Stores Sys2Proof.AttemptSteps Sys2Proof.AttemptEnds Sys2Proof.Draws Sys2Proof.Echoes Sys2Proof.Interruptions
  Sys2Proof.InstantEnds Sys2Proof.Silences Sys2Proof.Invariants

/-! ### Drained voices (R126) -/

theorem drained_iff (w : Voice) : w.drained = true ↔ w.state = .playing ∧ w.leadIn = false ∧ w.ring = [] ∧ w.readItem = 0 := by
  simp [Voice.drained, and_assoc]

theorem drained_eq_false (w : Voice) (h : ¬ (w.state = .playing ∧ w.leadIn = false ∧ w.ring = [] ∧ w.readItem = 0)) :
    w.drained = false := Bool.eq_false_iff.mpr fun hd => h ((drained_iff w).mp hd)

/-- The draw of the last sample drains its voice. -/
theorem drawnVoice_drained {channel : Nat} {w : Voice} {u : Utterance} (hplaying : w.state = .playing) (hlead : w.leadIn = false)
    (hu : w.utterance = some u) (hlast : w.ring.length = 1) (hread : w.readItem = 0) : (drawnVoice channel w).drained = true := by
  obtain ⟨hstate, hitem, hlead', hring⟩ := drawnVoice_keeps channel w
  rw [if_pos ⟨hplaying, hlead, by rw [hu]; rfl⟩] at hring
  refine (drained_iff _).mpr ⟨hstate.trans hplaying, hlead'.trans hlead, ?_, hitem.trans hread⟩
  rw [hring]
  exact List.eq_nil_of_length_eq_zero (by rw [List.length_tail, hlast])

/-- A draw drains no voice that had other than one sample left and was not drained. -/
theorem drawnVoice_not_drained {channel : Nat} {w : Voice} (hnot : w.drained = false) (hlength : w.ring.length ≠ 1) :
    (drawnVoice channel w).drained = false := by
  obtain ⟨hstate, hitem, hlead', hring⟩ := drawnVoice_keeps channel w
  refine drained_eq_false _ fun ⟨hplaying, hlead, hempty, hread⟩ => ?_
  have hnil : w.ring = [] := by
    rw [hring] at hempty
    split at hempty
    · have h := congrArg List.length hempty
      rw [List.length_tail, List.length_nil] at h
      exact List.eq_nil_of_length_eq_zero (by omega)
    · exact hempty
  have hd := (drained_iff w).mpr ⟨hstate ▸ hplaying, hlead' ▸ hlead, hnil, hitem ▸ hread⟩
  cases hnot.symm.trans hd

theorem drawnVoice_not_drained_of_reading {channel : Nat} {w : Voice} (h : w.readItem ≠ 0) : (drawnVoice channel w).drained = false :=
  drained_eq_false _ fun k => h ((drawnVoice_keeps channel w).2.1 ▸ k.2.2.2)

theorem played_same (u : Utterance) (r : RingSample) : (u.played r).id = u.id ∧ (u.played r).source = u.source
    ∧ (u.played r).tag = u.tag ∧ (u.played r).flags = u.flags := by
  unfold Utterance.played
  split <;> exact ⟨rfl, rfl, rfl, rfl⟩

/-! ### The part after the mix -/

section
variable {v : Vks}

theorem mixInstant_voice (hon : v.power.amp = .on) (i : VoiceId) :
    (mixInstant v).voice i = drawnVoice (v.channelLevel i) (v.voice i) := by
  rw [← drawnPart_voice hon i, mixInstant_eq]
  cases i <;> rfl

theorem mixInstant_store : (mixInstant v).reader.store = v.reader.store :=
  (drawVoices_drawn (hostSample (enveloped v)).2).untouched.store.trans ((congrArg Reader.store (hostSample_taken (enveloped v)).reader).trans
    (by rw [(enveloped_eq v).1]))

theorem mixInstant_notices : (mixInstant v).notices = (drawnPart v).notices := rfl

theorem mixInstant_words : (mixInstant v).words = v.words ∧ (mixInstant v).lesson = v.lesson := by
  obtain ⟨hwords, -, -, hlesson, -⟩ := drawnPart_frame v
  exact ⟨hwords, hlesson⟩

/-! ### What follows the ends -/

theorem takeOverEcho_of_none (r : Bool) (h : v.sched.echoLine = none) : takeOverEcho r v = v := by
  rw [takeOverEcho, h]

theorem takeOverEcho_takes {w : Utterance} (hline : v.sched.echoLine = some w) (hplaying : v.reader.echoVoice.state = .playing)
    (hadmits : admitsEcho v w = true) : takeOverEcho true v = startVoice .echo w (setEchoLine none (cutPlayingEcho v)) := by
  rw [takeOverEcho, hline]
  exact if_pos ⟨hplaying, rfl, hadmits⟩

theorem takeOverEcho_refused {w : Utterance} (r : Bool) (hline : v.sched.echoLine = some w)
    (h : ¬ (r = true ∧ admitsEcho v w = true)) : takeOverEcho r v = v := by
  rw [takeOverEcho, hline]
  exact if_neg fun k => h ⟨k.2.1, k.2.2⟩

/-- A busy echo voice takes nothing at an event's end. -/
theorem settle_alone (hbusy : (v.voice .echo).state ≠ .idle) : EchoAlone (settle v) v := by
  have hgo := settle_goesOn v
  have hmain := startMainHead_alone v
  rw [startHeads, startEchoHead_of_busy _ (hmain.voice.on hbusy).1] at hgo
  generalize settle v = t at *
  exact ⟨(hgo.voices .echo).trans hmain.voice, (congrArg Scheduler.echoLine hgo.sched).trans hmain.line⟩

/-- The main voice's side from the ends to the end of the event. -/
theorem outputInstant_main (hawake : v.power.asleep = false) : Kept .main (outputInstant v) (endDrained (mixInstant v)) := by
  rw [outputInstant_awake v hawake]
  obtain ⟨hreader, hsched, -⟩ := countStandby_same (voicesActive v) (beforeCount v)
  exact (settle_kept _).trans ((Kept.of_same hreader hsched).trans (takeOverEcho_main _ _).kept)

/-- The echo voice's side where the waiting echo does not take over and the voice is busy. -/
theorem outputInstant_echo (hawake : v.power.asleep = false) (hstays : beforeCount v = endDrained (mixInstant v))
    (hbusy : ((endDrained (mixInstant v)).voice .echo).state ≠ .idle) : EchoAlone (outputInstant v) (endDrained (mixInstant v)) := by
  rw [outputInstant_awake v hawake]
  obtain ⟨hreader, hsched, -⟩ := countStandby_same (voicesActive v) (beforeCount v)
  have hsame : EchoAlone (countStandby (voicesActive v) (beforeCount v)) (endDrained (mixInstant v)) := by
    rw [← hstays]
    exact .of_same hreader (by rw [hsched])
  exact (settle_alone (hsame.voice.on hbusy).1).trans hsame

/-- The notices from the draws on. -/
theorem outputInstant_join (hawake : v.power.asleep = false) : NoticesJoin (outputInstant v) (drawnPart v) := by
  have hcount : NoticesJoin (countStandby (voicesActive v) (beforeCount v)) (beforeCount v) :=
    moves_join (l := 2) (countStandby_moves _ _)
  have hends : NoticesJoin (beforeCount v) (mixInstant v) := moves_join (l := 1) (beforeCount_moves v)
  rw [outputInstant_awake v hawake]
  obtain ⟨hjoined, hlost⟩ := (settle_join _).trans (hcount.trans hends)
  exact ⟨hjoined, hlost⟩

end

end Sys2Proof.InstantVoices
end

section
/-! SUPPORT. The echo at an output instant: the waiting one takes over at the cut floor or after the last sample (R102, R109, R110). -/

namespace Sys2Proof.EchoInstants

open Sys2Proof.Machine Sys2Proof.EventMoves Sys2Proof.EventFrames Sys2Proof.VoiceFrames Sys2Proof.SpeechKept Sys2Proof.Instants
  Sys2Proof.Stores Sys2Proof.AttemptSteps Sys2Proof.AttemptEnds Sys2Proof.Draws Sys2Proof.Echoes Sys2Proof.Interruptions
  Sys2Proof.InstantEnds Sys2Proof.InstantVoices Sys2Proof.SilenceScopes

theorem admitsEcho_iff (v : Vks) (u : Utterance) :
    admitsEcho v u = true ↔ v.reader.store = .usable ∨ v.reader.store = .unusable ∨ ∃ k : Tone, u.items = [.tone k] := by
  rw [← or_assoc, ← storeOpen_iff, admitsEcho, Bool.or_eq_true]
  refine or_congr_right ?_
  split
  · next k h => exact ⟨fun _ => ⟨k, h⟩, fun _ => rfl⟩
  · next h => exact ⟨nofun, fun ⟨k, hk⟩ => absurd hk (h k)⟩

theorem admitsEcho_congr {a b : Vks} (h : a.reader.store = b.reader.store) (u : Utterance) : admitsEcho a u = admitsEcho b u := by
  rw [admitsEcho, admitsEcho, Vks.storeOpen, Vks.storeOpen, h]

section
variable {v : Vks} {p w : Utterance} {r : RingSample} {rest : List RingSample} (hawake : v.power.asleep = false)
  (hon : v.power.amp = .on) (hplaying : v.reader.echoVoice.state = .playing) (hlead : v.reader.echoVoice.leadIn = false)
  (hp : v.reader.echoVoice.utterance = some p) (hline : v.sched.echoLine = some w)

include hawake hon hplaying hlead hp hline

/-- R102, R110: after the last sample of the echo the waiting one starts where the line admits it. -/
theorem echo_ends (hlast : v.reader.echoVoice.ring.length = 1) (hread : v.reader.echoVoice.readItem = 0)
    (hadmits : admitsEcho v w = true) : (outputInstant v).sched.echoLine = none
      ∧ (outputInstant v).reader.echoVoice.utterance = some (begun w) := by
  have hdrained : ((mixInstant v).voice .echo).drained = true := by
    rw [mixInstant_voice hon]
    exact drawnVoice_drained hplaying hlead hp hlast hread
  obtain ⟨hframe, -, hsched, -⟩ := freed_same (mixInstant v)
  have hfreed : (freed (mixInstant v)).voice .echo = Voice.idle := by rw [freed_voice, if_pos hdrained]
  have hfreedLine : (freed (mixInstant v)).sched.echoLine = some w := by
    rw [hsched, (SampleClock.mixInstant_power v).2.2.1]
    exact hline
  have halone := (startMainHead_alone _).trans (reportEnds_alone .finished (drainedSpeech (mixInstant v)) (freed (mixInstant v)))
  have hstore : (startMainHead (reportEnds .finished (drainedSpeech (mixInstant v)) (freed (mixInstant v)))).reader.store
      = v.reader.store :=
    (startMainHead_untouched _).store.trans ((reportEnds_outside _ _ _).store.trans (hframe.store.trans mixInstant_store))
  have hends := endDrained_eq (mixInstant v)
  rw [startHeads] at hends
  generalize startMainHead (reportEnds .finished (drainedSpeech (mixInstant v)) (freed (mixInstant v))) = g at *
  obtain ⟨hvoice, hkept⟩ := halone
  have hidle : g.voice .echo = Voice.idle := (hvoice.of_idle (by rw [hfreed]; rfl)).trans hfreed
  rw [startEchoHead_of_some g (by rw [show g.reader.echoVoice = Voice.idle from hidle]; rfl) (hkept.trans hfreedLine),
    if_pos ((admitsEcho_congr hstore w).trans hadmits)] at hends
  obtain ⟨hbusy, hspoken⟩ := startVoice_speaks .echo w (setEchoLine none g)
  have hnone : (startVoice .echo w (setEchoLine none g)).sched.echoLine = none :=
    congrArg Scheduler.echoLine (startVoice_goesOn .echo w (setEchoLine none g)).sched
  rw [← hends] at hbusy hspoken hnone
  obtain ⟨hgo, hlineEnd⟩ := outputInstant_echo hawake (takeOverEcho_of_none _ hnone) hbusy
  exact ⟨hlineEnd.trans hnone, (goesOn_utterance hgo).trans hspoken⟩

omit hawake in
/-- The echo after a draw that is not its last, behind the ends of the instant. -/
theorem echo_goes_on (hring : v.reader.echoVoice.ring = r :: rest) (hbegins : r.begins = none)
    (hmore : ¬ (v.reader.echoVoice.ring.length = 1 ∧ v.reader.echoVoice.readItem = 0)) :
    (endDrained (mixInstant v)).sched.echoLine = some w
    ∧ ((endDrained (mixInstant v)).voice .echo).state = .playing
    ∧ ((endDrained (mixInstant v)).voice .echo).utterance = some { p with playSamples := p.playSamples + 1 }
    ∧ (endDrained (mixInstant v)).reader.store = v.reader.store ∧ (endDrained (mixInstant v)).params = v.params := by
  have hvoice := mixInstant_voice hon .echo
  rw [drawnVoice_of_cons (w := v.voice .echo) hplaying hlead hring hp, show p.played r = { p with playSamples := p.playSamples + 1 } by
    rw [Utterance.played, hbegins]] at hvoice
  have hnot : ((mixInstant v).voice .echo).drained = false := by
    refine drained_eq_false _ fun ⟨_, _, hempty, hread⟩ => hmore ⟨?_, ?_⟩
    · rw [hvoice] at hempty
      rw [hring, show rest = [] from hempty]
      rfl
    · rw [hvoice] at hread
      exact hread
  have hplays : ((mixInstant v).voice .echo).state = .playing := by rw [hvoice]; exact hplaying
  obtain ⟨hgo, hkept⟩ := endDrained_alone hnot (by rw [hplays]; decide)
  have hout := endDrained_outside (mixInstant v)
  refine ⟨hkept.trans ?_, hgo.playing hplays, (goesOn_utterance hgo).trans (by rw [hvoice]), hout.store.trans mixInstant_store,
    hout.params.trans (SampleClock.mixInstant_power v).2.1⟩
  rw [(SampleClock.mixInstant_power v).2.2.1]
  exact hline

/-- R110: at the cut floor the waiting echo takes over where the line admits it; otherwise the echo plays on. -/
theorem echo_at_floor (hring : v.reader.echoVoice.ring = r :: rest) (hbegins : r.begins = none)
    (hmore : ¬ (v.reader.echoVoice.ring.length = 1 ∧ v.reader.echoVoice.readItem = 0)) :
    (p.playSamples + 1 = v.params.echoCutFloor * 16 → admitsEcho v w = true →
      (outputInstant v).sched.echoLine = none ∧ (outputInstant v).reader.echoVoice.utterance = some (begun w))
    ∧ (¬ (p.playSamples + 1 = v.params.echoCutFloor * 16 ∧ admitsEcho v w = true) →
      (outputInstant v).sched.echoLine = some w
      ∧ (outputInstant v).reader.echoVoice.utterance = some { p with playSamples := p.playSamples + 1 }) := by
  obtain ⟨hkept, hplays, hspoken, hstore, hparams⟩ := echo_goes_on hon hplaying hlead hp hline hring hbegins hmore
  have hadmits := admitsEcho_congr hstore w
  have hbefore : beforeCount v = takeOverEcho (decide (echoAge v < echoAge (endDrained (mixInstant v)))
    && floorReached (endDrained (mixInstant v))) (endDrained (mixInstant v)) := rfl
  have hend := outputInstant_awake v hawake
  generalize endDrained (mixInstant v) = y at *
  have hage : echoAge y = p.playSamples + 1 := by rw [echoAge, show y.reader.echoVoice.utterance = _ from hspoken]
  have hageBefore : echoAge v = p.playSamples := by rw [echoAge, hp]
  have hreached : (decide (echoAge v < echoAge y) && floorReached y) = true ↔ p.playSamples + 1 = v.params.echoCutFloor * 16 := by
    rw [Bool.and_eq_true, decide_eq_true_eq, floorReached, decide_eq_true_eq, cutFloor, hparams, hage, hageBefore]
    exact and_iff_right (Nat.lt_succ_self _)
  obtain ⟨hreader, hsched, -⟩ := countStandby_same (voicesActive v) (beforeCount v)
  have hcount : EchoAlone (countStandby (voicesActive v) (beforeCount v)) (beforeCount v) := .of_same hreader (by rw [hsched])
  rw [hend]
  generalize countStandby (voicesActive v) (beforeCount v) = x at *
  have hlast (hbusy : ((beforeCount v).voice .echo).state ≠ .idle) : EchoAlone (settle x) (beforeCount v) :=
    (settle_alone (hcount.voice.on hbusy).1).trans hcount
  generalize settle x = t at *
  generalize beforeCount v = z at *
  refine ⟨fun hfloor hadmit => ?_, fun hnot => ?_⟩
  · rw [hreached.mpr hfloor, takeOverEcho_takes hkept hplays (hadmits.trans hadmit)] at hbefore
    obtain ⟨hbusy, hbegun⟩ := startVoice_speaks .echo w (setEchoLine none (cutPlayingEcho y))
    have hnone := congrArg Scheduler.echoLine (startVoice_goesOn .echo w (setEchoLine none (cutPlayingEcho y))).sched
    rw [← hbefore] at hbusy hbegun hnone
    obtain ⟨hgo, hlineEnd⟩ := hlast hbusy
    exact ⟨hlineEnd.trans hnone, (goesOn_utterance hgo).trans hbegun⟩
  · obtain rfl : z = y := hbefore.trans (takeOverEcho_refused _ hkept fun k => hnot ⟨hreached.mp k.1, hadmits.symm.trans k.2⟩)
    obtain ⟨hgo, hlineEnd⟩ := hlast (by rw [hplays]; decide)
    exact ⟨hlineEnd.trans hkept, (goesOn_utterance hgo).trans hspoken⟩

end

end Sys2Proof.EchoInstants
end

section
/-! SUPPORT. Where a SAY, an engine utterance and an echo go (R99, R104 to R110). -/

namespace Sys2Proof.SpeechPlaces

open Sys2Proof.Machine Sys2Proof.EventMoves Sys2Proof.EventFrames Sys2Proof.VoiceFrames Sys2Proof.SpeechKept
  Sys2Proof.AttemptSteps Sys2Proof.AttemptEnds Sys2Proof.Echoes Sys2Proof.Words Sys2Proof.Expansions Sys2Proof.Resets
  Sys2Proof.EchoInstants Sys2Proof.SilenceScopes Sys2Proof.VoiceReads Sys2Proof.Interruptions Sys2Proof.Lists
  Sys2Proof.Invariants Sys2Proof.Link Sys2Proof.ArgBytes

/-! ### Engine utterances (R104, R105) -/

theorem engineTakesAtOnce_iff (v : Vks) : engineTakesAtOnce v = true ↔ v.reader.mainVoice.state = .idle
    ∧ (v.reader.store = .usable ∨ v.reader.store = .unusable) ∧ ∀ y ∈ v.sched.queue, y.source = .say := by
  rw [engineTakesAtOnce, Bool.and_eq_true, Bool.and_eq_true, storeOpen_iff, List.all_eq_true, decide_eq_true_eq]
  simp only [decide_eq_true_eq]
  tauto

/-- R104: an engine utterance stands behind the last waiting one. -/
theorem insertEngine_between (u : Utterance) (before behind : List Utterance) (hbehind : ∀ y ∈ behind, y.source = .say)
    (hbefore : ∀ y, before.getLast? = some y → y.source ≠ .say) : insertEngine u (before ++ behind) = before ++ u :: behind := by
  induction before with
  | nil =>
    cases behind with
    | nil => rfl
    | cons x xs =>
      rw [List.nil_append, insertEngine, if_neg]
      · rfl
      · rw [Bool.not_eq_true, List.any_eq_false]
        intro y hy
        simp [hbehind y hy]
  | cons b before ih =>
    obtain ⟨z, hz⟩ : ∃ z, (b :: before).getLast? = some z := ⟨_, List.getLast?_eq_some_getLast (List.cons_ne_nil b before)⟩
    have hmem : z ∈ b :: (before ++ behind) := List.mem_append_left behind (List.mem_of_getLast? hz)
    rw [List.cons_append, insertEngine, if_pos (List.any_eq_true.mpr ⟨z, hmem, by simpa using hbefore z hz⟩), ih, List.cons_append]
    intro y hy
    refine hbefore y ?_
    cases before with
    | nil => cases hy
    | cons c cs => rw [List.getLast?_cons_cons, hy]

/-- R105: the newest SAY stands nearest the tail. -/
theorem dropNewestSay_last (q : List Utterance) {y : Utterance} (hy : y.source = .say) : dropNewestSay (q ++ [y]) = some (y, q) := by
  induction q with
  | nil => simp [dropNewestSay, hy]
  | cons x xs ih => rw [List.cons_append, dropNewestSay, ih]

theorem placeEngine_starts {v : Vks} (u : Utterance) (h : engineTakesAtOnce v = true) : placeEngine u v = (startVoice .main u v, false) :=
  if_pos h

theorem placeEngine_waits {v : Vks} (u : Utterance) (h : engineTakesAtOnce v = false) (hroom : v.sched.queue.length < 16) :
    placeEngine u v = (setQueue (insertEngine u v.sched.queue) v, false) := by
  rw [placeEngine, if_neg (by rw [h]; decide), if_pos hroom]

theorem placeEngine_drops {v : Vks} (u : Utterance) {s : Utterance} {q : List Utterance} (h : engineTakesAtOnce v = false)
    (hfull : 16 ≤ v.sched.queue.length) (hdrop : dropNewestSay v.sched.queue = some (s, q)) : placeEngine u v
      = (setQueue (insertEngine u q) (raiseNotice (doneNotice s .dropped) v), false) := by
  rw [placeEngine, if_neg (by rw [h]; decide), if_neg (Nat.not_lt.mpr hfull), hdrop]

theorem startVoice_sched (i : VoiceId) (u : Utterance) (v : Vks) : (startVoice i u v).sched = v.sched :=
  (startVoice_goesOn i u v).sched.trans (by cases i <;> rfl)

theorem placeEngine_nextId (u : Utterance) (v : Vks) : (placeEngine u v).1.sched.nextId = v.sched.nextId := by
  unfold placeEngine
  split
  · exact congrArg Scheduler.nextId (startVoice_sched .main u v)
  · split
    · rfl
    · split
      · next s q _ =>
        show (raiseNotice (doneNotice s .dropped) v).sched.nextId = _
        rw [raiseNotice_sched]
      · rfl

/-! ### Echoes (R108, R109) -/

/-- The outstanding set once a waiting echo is dropped (R109). -/
def keptOutstanding (v : Vks) : List Nat := v.attempt.ctx.outstanding.filter (fun y => v.sched.echoLine.map Utterance.id ≠ some y)

theorem dropWaitingEcho_eq (v : Vks) : dropWaitingEcho v = { v with
    sched := { v.sched with echoLine := none }
    attempt := { v.attempt with ctx := { v.attempt.ctx with outstanding := keptOutstanding v } } } := by
  unfold dropWaitingEcho keptOutstanding
  cases hline : v.sched.echoLine with
  | none =>
    have hsame : v.attempt.ctx.outstanding.filter (fun y => Option.map Utterance.id (none : Option Utterance) ≠ some y)
        = v.attempt.ctx.outstanding := List.filter_eq_self.mpr fun y _ => by simp
    rw [hsame]
    show v = { v with sched := { v.sched with echoLine := none } }
    rw [← hline]
  | some w =>
    have hsame : v.attempt.ctx.outstanding.filter (fun y => Option.map Utterance.id (some w) ≠ some y)
        = v.attempt.ctx.outstanding.filter (fun y => y ≠ w.id) := List.filter_congr fun y _ => by
      simp [eq_comm]
    rw [hsame]
    rfl

/-- An arriving echo that waits (R109). -/
def echoWaits (u : Utterance) (v : Vks) : Vks :=
  { v with
    sched := { v.sched with echoLine := some u }
    attempt := { v.attempt with ctx := { v.attempt.ctx with outstanding := keptOutstanding v } } }

theorem setEchoLine_dropWaitingEcho (u : Utterance) (v : Vks) : setEchoLine (some u) (dropWaitingEcho v) = echoWaits u v := by
  rw [dropWaitingEcho_eq]
  rfl

theorem dropWaitingEcho_admits (u : Utterance) (v : Vks) : admitsEcho (dropWaitingEcho v) u = admitsEcho v u :=
  admitsEcho_congr (by rw [dropWaitingEcho_eq]) u

theorem dropWaitingEcho_voice (v : Vks) : (dropWaitingEcho v).reader = v.reader ∧ (dropWaitingEcho v).params = v.params := by
  rw [dropWaitingEcho_eq]
  exact ⟨rfl, rfl⟩

section
variable {v : Vks} {u : Utterance}

theorem placeEcho_idle (h : v.reader.echoVoice.state = .idle) : placeEcho u v
    = if admitsEcho v u then startVoice .echo u (dropWaitingEcho v) else echoWaits u v := by
  unfold placeEcho
  simp only [(dropWaitingEcho_voice v).1, h, dropWaitingEcho_admits, setEchoLine_dropWaitingEcho]

theorem placeEcho_waitingAmp (h : v.reader.echoVoice.state = .waitingAmp) : placeEcho u v = echoWaits u v := by
  unfold placeEcho
  simp only [(dropWaitingEcho_voice v).1, h, setEchoLine_dropWaitingEcho]

theorem placeEcho_playing {p : Utterance} (h : v.reader.echoVoice.state = .playing) (hp : v.reader.echoVoice.utterance = some p) :
    placeEcho u v = if v.params.echoCutFloor * 16 ≤ p.playSamples ∧ admitsEcho v u = true
      then startVoice .echo u (cutPlayingEcho (dropWaitingEcho v)) else echoWaits u v := by
  have hage : echoAge (dropWaitingEcho v) = p.playSamples := by rw [echoAge, (dropWaitingEcho_voice v).1, hp]
  have hfloor : cutFloor (dropWaitingEcho v) = v.params.echoCutFloor * 16 := by rw [cutFloor, (dropWaitingEcho_voice v).2]
  unfold placeEcho
  simp only [(dropWaitingEcho_voice v).1, h, dropWaitingEcho_admits, setEchoLine_dropWaitingEcho, hage, hfloor]

/-- What a start of an arriving echo leaves. -/
theorem startEcho_starts {x : Vks} (hsched : x.sched = { v.sched with echoLine := none }) (hout : OutsideAttempt x v) :
    (startVoice .echo u x).sched = { v.sched with echoLine := none } ∧ (startVoice .echo u x).reader.echoVoice.state ≠ .idle
      ∧ (startVoice .echo u x).reader.echoVoice.utterance = some (begun u) ∧ OutsideAttempt (startVoice .echo u x) v
      ∧ (startVoice .echo u x).attempt = x.attempt := by
  obtain ⟨hbusy, hspoken⟩ := startVoice_speaks .echo u x
  have hb : Bare (startVoice .echo u x) x := moves_bare (l := 0) (startVoice_moves .echo u x)
  exact ⟨(startVoice_sched .echo u x).trans hsched, hbusy, hspoken, (startVoice_untouched .echo u x).outside.trans hout, hb.attempt⟩

end

theorem placeEcho_nextId (u : Utterance) (v : Vks) : (placeEcho u v).sched.nextId = v.sched.nextId := by
  have hdrop : (dropWaitingEcho v).sched.nextId = v.sched.nextId := by rw [dropWaitingEcho_eq]
  have hcut (x : Vks) : (cutPlayingEcho x).sched = x.sched := by
    unfold cutPlayingEcho
    split <;> rfl
  unfold placeEcho
  simp only
  split
  · split
    · rw [startVoice_sched, hdrop]
    · exact hdrop
  · split
    · rw [startVoice_sched, hcut, hdrop]
    · exact hdrop
  · exact hdrop

/-- An identity that is neither the waiting echo's nor the playing one's stays outstanding when an echo arrives. -/
theorem placeEcho_outstanding {u : Utterance} {v : Vks} {id : Nat} (hid : id ∈ v.attempt.ctx.outstanding)
    (hother : ∀ y ∈ v.sched.echoLine.toList ++ v.reader.echoVoice.utterance.toList, y.id ≠ id) :
    id ∈ (placeEcho u v).attempt.ctx.outstanding := by
  have hstart (x : Vks) : (startVoice .echo u x).attempt = x.attempt :=
    (moves_bare (l := 0) (startVoice_moves .echo u x)).attempt
  have hforget (y : Utterance) (x : Vks) (hx : id ∈ x.attempt.ctx.outstanding) (hy : y.id ≠ id) :
      id ∈ (forget y.id x).attempt.ctx.outstanding := List.mem_filter.mpr ⟨hx, decide_eq_true (Ne.symm hy)⟩
  have hdrop : id ∈ (dropWaitingEcho v).attempt.ctx.outstanding := by
    unfold dropWaitingEcho
    split
    · next w hline => exact hforget w v hid (hother w (by rw [hline]; exact List.mem_append_left _ (List.mem_singleton_self w)))
    · exact hid
  have hcut : id ∈ (cutPlayingEcho (dropWaitingEcho v)).attempt.ctx.outstanding := by
    unfold cutPlayingEcho
    rw [(dropWaitingEcho_voice v).1]
    split
    · next p hp => exact hforget p (idleVoice .echo _) hdrop (hother p (by rw [hp]; exact List.mem_append_right _ (List.mem_singleton_self p)))
    · exact hdrop
  unfold placeEcho
  simp only
  split
  · split
    · rw [hstart]
      exact hdrop
    · exact hdrop
  · split
    · rw [hstart]
      exact hcut
    · exact hdrop
  · exact hdrop

end Sys2Proof.SpeechPlaces
end

section
/-! SUPPORT. SAY (R106, R107, R119, R128). -/

namespace Sys2Proof.SayRequests

open Sys2Proof.Machine Sys2Proof.EventMoves Sys2Proof.EventFrames Sys2Proof.VoiceFrames Sys2Proof.SpeechKept
  Sys2Proof.AttemptSteps Sys2Proof.AttemptEnds Sys2Proof.Echoes Sys2Proof.Words Sys2Proof.Expansions Sys2Proof.Resets
  Sys2Proof.EchoInstants Sys2Proof.SilenceScopes Sys2Proof.VoiceReads Sys2Proof.Interruptions Sys2Proof.Lists
  Sys2Proof.Invariants Sys2Proof.Link Sys2Proof.ArgBytes Sys2Proof.SpeechPlaces

/-- A SAY argument: the user's tag, the count, and the parts. -/
def sayForm (userTag : Byte) (parts : List (Nat × Nat)) : List Byte :=
  [userTag] ++ leBytes 1 parts.length ++ parts.flatMap partForm

/-- The utterance a SAY makes (R99, R106). -/
def sayUtterance (userTag : Byte) (items : List Item) (v : Vks) : Utterance :=
  ⟨v.sched.nextId, .say, userTag, items.take 40, 0, 0, decide (40 < items.length), false, false⟩

/-- The part with the SAY's identity used (R101). -/
def identityUsed (v : Vks) : Vks := { v with sched := { v.sched with nextId := nextIdentity v.sched.nextId } }

section
variable {userTag : Byte} {parts : List (Nat × Nat)} (hfew : 1 ≤ parts.length ∧ parts.length ≤ 18) (hfit : ∀ p ∈ parts, PartFits p)

include hfew

omit hfew in
theorem sayForm_length : (sayForm userTag parts).length = 2 + 3 * parts.length := by
  simp only [sayForm, List.length_append, leBytes_length, flatMap_block_length partForm 3 parts fun p _ => partForm_length p,
    List.length_singleton]

theorem sayForm_count : byteAt (sayForm userTag parts) 1 = parts.length := by
  show (BitVec.ofNat 8 parts.length).toNat = parts.length
  rw [BitVec.toNat_ofNat]
  exact Nat.mod_eq_of_lt (by omega)

include hfit

theorem sayForm_parts : partFields (sayForm userTag parts) = parts := partFields_read rfl (sayForm_count hfew) hfit

theorem sayForm_passes : ∀ c ∈ sayChecks (sayForm userTag parts), c.1 = false := by
  simp only [sayChecks, sayForm_parts hfew hfit, sayForm_length, sayForm_count hfew, List.forall_mem_cons, List.any_eq_false,
    Bool.or_eq_false_iff, decide_eq_false_iff_not]
  exact ⟨⟨by omega, by omega⟩, fun p hp => by simp [(PartFits_good (hfit p hp)).1], fun p hp => by simp [(PartFits_good (hfit p hp)).2],
    ⟨by omega, by omega⟩, by simp⟩

/-- R106: a SAY whose argument passes. -/
theorem handleSay_eq (v : Vks) : handleSay (sayForm userTag parts) v
    = let items := expandAll v (sayExpansion v) (parts.map partOf)
      if items = [] then (v, answerOk [])
      else if 16 ≤ v.sched.queue.length then (v, answerRefused .queueFull [])
      else (settle (placeSay (sayUtterance userTag items v) (identityUsed v)),
        answerOk (leBytes 2 v.sched.nextId ++ leBytes 1 (items.take 40).length
          ++ leBytes 1 (bitsValue [decide (40 < items.length), parts.any pauseClamped]))) := by
  have htag : BitVec.ofNat 8 (byteAt (sayForm userTag parts) 0) = userTag := BitVec.ofNat_toNat 8 userTag
  rw [handleSay, checked_pass _ _ _ (sayForm_passes hfew hfit), sayForm_parts hfew hfit, htag]
  rfl

end

theorem pauseClamped_any_iff (parts : List (Nat × Nat)) :
    parts.any pauseClamped = true ↔ ∃ p ∈ parts, p.1 = 3 ∧ (p.2 < 10 ∨ 2000 < p.2) := by
  simp only [List.any_eq_true, pauseClamped, Bool.and_eq_true, decide_eq_true_eq, clamp_ne_iff]

theorem mainTakesAtOnce_iff (v : Vks) : mainTakesAtOnce v = true ↔ v.sched.queue = [] ∧ v.reader.mainVoice.state = .idle
    ∧ (v.reader.store = .usable ∨ v.reader.store = .unusable) := by
  rw [mainTakesAtOnce, Bool.and_eq_true, Bool.and_eq_true, storeOpen_iff, decide_eq_true_eq, decide_eq_true_eq, and_assoc]

theorem placeSay_untouched (u : Utterance) (v : Vks) : Untouched (placeSay u v) v := by
  unfold placeSay
  split
  · exact startVoice_untouched .main u v
  · exact setQueue_untouched _ v

theorem placeSay_engine (u : Utterance) {v : Vks} (h : v.reader.engine = .idle) : (placeSay u v).reader.engine = .idle := by
  unfold placeSay
  split
  · exact moves_engine_idle (startVoice_moves .main u v) h
  · exact h

/-- R106: behind a busy main voice the SAY joins the tail of the queue. -/
theorem placeSay_joins (u : Utterance) {v : Vks} (hbusy : v.reader.mainVoice.state ≠ .idle) :
    (settle (placeSay u v)).sched.queue = v.sched.queue ++ [u] := by
  rw [placeSay, if_neg fun h => hbusy ((mainTakesAtOnce_iff v).mp h).2.1]
  have hqueue : (setQueue (v.sched.queue ++ [u]) v).sched.queue = v.sched.queue ++ [u] := rfl
  have hstill : (setQueue (v.sched.queue ++ [u]) v).reader.mainVoice.state ≠ .idle := hbusy
  generalize setQueue (v.sched.queue ++ [u]) v = y at *
  exact (settle_main_of_no_start y (startMainHead_of_busy y hstill)).2.trans hqueue

/-- R106, R107: on a free voice with an empty queue and an open store it starts at once. -/
theorem placeSay_starts (u : Utterance) {v : Vks} (h : mainTakesAtOnce v = true) : (settle (placeSay u v)).sched.queue = []
    ∧ ((settle (placeSay u v)).voice .main).state ≠ .idle ∧ ((settle (placeSay u v)).voice .main).utterance = some (begun u) := by
  rw [placeSay, if_pos h]
  obtain ⟨hbusy, hspoken⟩ := startVoice_speaks .main u v
  have hqueue : (startVoice .main u v).sched.queue = [] := by
    rw [startVoice_sched]
    exact ((mainTakesAtOnce_iff v).mp h).1
  generalize startVoice .main u v = y at *
  obtain ⟨hgo, hend⟩ := settle_main_of_no_start y (startMainHead_of_busy y hbusy)
  exact ⟨hend.trans hqueue, (hgo.on hbusy).1, (hgo.on hbusy).2.trans hspoken⟩

/-- R119, R128, R129: a SAY that begins with a segment of the store has its entry read at once by a free engine. -/
theorem placeSay_reads (u : Utterance) {v : Vks} {n : Nat} (hitem : u.items[0]? = some (.seg n)) (hidle : v.reader.mainVoice.state = .idle)
    (hqueue : v.sched.queue = []) (hstore : v.reader.store = .usable) (hn : n < v.reader.segmentCount) (hon : v.power.amp = .on)
    (hengine : v.reader.engine = .idle) (hecho : v.reader.echoVoice.state = .idle) (hline : v.sched.echoLine = none) :
    (settle (placeSay u v)).reader.engine = .entryRead .main n true := by
  have hstart : placeSay u v = startVoice .main u v := if_pos ((mainTakesAtOnce_iff v).mpr ⟨hqueue, hidle, .inl hstore⟩)
  have hreading : startVoice .main u v = setVoice .main { handed u with
      state := .playing, readItem := 1, phase := .needEntry, leadIn := true }
      (setVoice .main { handed u with state := .playing, readItem := 1, phase := .atItem, leadIn := true } (setVoice .main (handed u) v)) := by
    have hplay : startVoice .main u v = readAhead .main (setVoice .main { handed u with
        state := .playing, readItem := 1, phase := .atItem, leadIn := true } (setVoice .main (handed u) v)) := by
      unfold startVoice
      simp only [if_pos hon]
      rfl
    rw [hplay]
    exact readAhead_segment .main _ n rfl Nat.one_ne_zero rfl hitem hstore hn
  have hmain : (startVoice .main u v).voice .main
      = { handed u with state := .playing, readItem := 1, phase := .needEntry, leadIn := true } := by rw [hreading]; rfl
  have hechoVoice : (startVoice .main u v).voice .echo = v.voice .echo := by rw [hreading]; rfl
  have hsched := startVoice_sched .main u v
  have hfree : (startVoice .main u v).reader.engine = .idle := moves_engine_idle (startVoice_moves .main u v) hengine
  have hopen : (startVoice .main u v).reader.store = .usable := (startVoice_untouched .main u v).store.trans hstore
  rw [hstart]
  generalize startVoice .main u v = y at *
  have hserves := settle_arbiterServes y hfree
  have hmainEnd := settle_main_of_no_start y (startMainHead_of_nil y (by rw [hsched]; exact hqueue))
  have hechoEnd := settle_echo_of_no_line y (by rw [hsched]; exact hline)
  have hstoreEnd := (settle_untouched y).store
  generalize settle y = t at *
  have htmain := (hmainEnd.1.still (.inr (by rw [hmain]; exact ⟨rfl, .inl rfl⟩))).trans hmain
  have htecho := hechoEnd.1.of_idle (by rw [hechoVoice]; exact hecho)
  have hwants : WantsRead t .main := ⟨by rw [htmain], hstoreEnd.trans hopen, .inl (by rw [htmain])⟩
  have hnot : ¬ WantsRead t .echo := fun h => by
    have hplays := h.1
    rw [htecho, hechoVoice] at hplays
    exact nomatch hplays.symm.trans hecho
  exact ((hserves.main hwants fun h => absurd h hnot) n (by rw [htmain]; exact hitem)).1 (by rw [htmain])

end Sys2Proof.SayRequests
end

section
/-! SUPPORT. The placement of a SAY, an engine utterance and an echo, put together (R98 to R110). -/

namespace Sys2Proof.SpeechPlacement

open Sys2Proof.Machine Sys2Proof.EventMoves Sys2Proof.EventFrames Sys2Proof.VoiceFrames Sys2Proof.SpeechKept
  Sys2Proof.AttemptSteps Sys2Proof.AttemptEnds Sys2Proof.Echoes Sys2Proof.Words Sys2Proof.Expansions Sys2Proof.Resets
  Sys2Proof.EchoInstants Sys2Proof.SilenceScopes Sys2Proof.SpeechPlaces Sys2Proof.SayRequests

/-- R106: a SAY that makes an utterance. -/
theorem exec_say (s : State) (tag userTag : Byte) (parts : List (Nat × Nat)) (hawake : Awake s)
    (hfew : 1 ≤ parts.length ∧ parts.length ≤ 18) (hfit : ∀ p ∈ parts, PartFits p) {items : List Item}
    (hitems : expandAll s.vks (sayExpansion s.vks) (parts.map partOf) = items) (hsome : items ≠ [])
    (hroom : s.vks.sched.queue.length < 16) : exec (.say tag (sayForm userTag parts)) s
      = .next (withPart s (replying 0x38#8 tag .ok (leBytes 2 s.vks.sched.nextId ++ [BitVec.ofNat 8 (min 40 items.length),
          BitVec.ofNat 8 ((if 40 < items.length then 1 else 0)
            + (if ∃ p ∈ parts, p.1 = 3 ∧ (p.2 < 10 ∨ 2000 < p.2) then 2 else 0))]) []
          (settle (placeSay (sayUtterance userTag items s.vks) (identityUsed s.vks))))) := by
  refine exec_answered _ 0x38#8 tag _ handleSay s _ .ok (leBytes 2 s.vks.sched.nextId ++ leBytes 1 (items.take 40).length
    ++ leBytes 1 (bitsValue [decide (40 < items.length), parts.any pauseClamped])) _ [] rfl hawake
    (by rw [sayForm_length]; omega) ?_ ?_
  · rw [handleSay_eq hfew hfit]
    simp only [hitems, if_neg hsome, if_neg (Nat.not_le.mpr hroom)]
    rfl
  · have hbits : bitsValue [decide (40 < items.length), parts.any pauseClamped] = (if 40 < items.length then 1 else 0)
        + (if ∃ p ∈ parts, p.1 = 3 ∧ (p.2 < 10 ∨ 2000 < p.2) then 2 else 0) := by
      simp only [bitsValue, decide_eq_true_eq, pauseClamped_any_iff, Nat.mul_zero, Nat.add_zero]
      congr 1
      split <;> rfl
    rw [hbits, List.length_take, padTo_of_length (by simp)]
    rfl

/-- R99, R101, R105: a request for speech, whatever its source. -/
theorem requestEngine_places (v : Vks) (source : Source) (parts : List Part) (x : Expansion) (hid : v.sched.nextId ≤ 65535) :
    let items := expandAll v x parts
    let r := requestEngine source parts x v
    let next := if v.sched.nextId = 65535 then 1 else v.sched.nextId + 1
    (items = [] → r.2 = none ∧ r.1.sched = v.sched ∧ r.1.attempt.ctx = v.attempt.ctx ∧ r.1.reader = v.reader)
    ∧ (items ≠ [] → r.1.sched.nextId = next ∧ OutsideAttempt r.1 v)
    ∧ (items ≠ [] → ¬ TurnsAway v →
        r.2 = some v.sched.nextId ∧ v.sched.nextId ∈ r.1.attempt.ctx.outstanding ∧ EngineQueued v r.1 source items)
    ∧ (items ≠ [] → TurnsAway v →
        r.2 = none ∧ r.1.sched = { v.sched with nextId := next } ∧ r.1.reader = v.reader ∧ r.1.notices = v.notices
        ∧ v.sched.nextId ∉ r.1.attempt.ctx.outstanding) := by
  intro items r next
  have hnext : (registered v).sched.nextId = next := nextIdentity_eq hid
  refine ⟨fun hnone => ?_, fun hsome => ⟨?_, requestEngine_outside source parts x v⟩, fun hsome hroom => ?_, fun hsome hturned => ?_⟩
  · rw [show r = (stopInactivity v, none) from requestEngine_of_none source hnone]
    exact ⟨rfl, rfl, rfl, rfl⟩
  · by_cases hturned : TurnsAway v
    · rw [show r = _ from requestEngine_of_turned source hsome hturned]
      exact hnext
    · rw [show r = _ from requestEngine_of_placed source hsome hturned]
      exact (placeEngine_nextId _ _).trans hnext
  · have hturns : (placeEngine (engineUtterance source items v) (registered v)).2 = false :=
      Bool.eq_false_iff.mpr fun h => hroom ((registered_turns v).mp ((placeEngine_turned_iff _ _).mp h))
    obtain ⟨w, hw, hsame⟩ := placeEngine_holds (engineUtterance source items v) (registered v) hturns
    have hattempt := (placeEngine_bare (engineUtterance source items v) (registered v)).attempt
    rw [show r = _ from requestEngine_of_placed source hsome hroom]
    refine ⟨rfl, ?_, engineQueued_of_holds hw hsame rfl rfl rfl⟩
    rw [show (placeEngine (engineUtterance source (expandAll v x parts) v) (registered v)).1.attempt = _ from hattempt]
    exact List.mem_append_right _ (List.mem_singleton_self _)
  · rw [show r = _ from requestEngine_of_turned source hsome hturned]
    refine ⟨rfl, ?_, rfl, rfl, fun h => ?_⟩
    · rw [← hnext]
      rfl
    · exact of_decide_eq_true (List.mem_filter.mp h).2 rfl

/-- Settles O39: the SAY, the engine utterance, the echo, and the echo at an output instant. -/
theorem sayJoinsTheMainQueue : Obligations.SayJoinsTheMainQueue := by
  refine ⟨fun s tag userTag parts hawake hone hfew hfits => ?say, fun v u => ?engine, fun v source parts x _ hid => ?request,
    fun v u => ?echo, fun v item _ hid => ?echoed, fun s p w hp hline hawake hon hplaying hlead hhead => ?instant⟩
  case say =>
    intro arg items made
    have hbounds : 1 ≤ parts.length ∧ parts.length ≤ 18 := ⟨hone, hfew⟩
    have hfit : ∀ p ∈ parts, PartFits p := fun p hp => by
      obtain ⟨hlow, hhigh, hvalue, hsegment, htone⟩ := hfits p hp
      exact ⟨hlow, hhigh, hvalue, hsegment, htone⟩
    have hfitsSlot : arg.length ≤ 58 := by
      rw [show arg = sayForm userTag parts from rfl, sayForm_length]
      omega
    refine ⟨fun hnone => ?_, fun hsome hfull => ?_, fun hsome hroom => ?_⟩
    · refine exec_answered _ 0x38#8 tag _ handleSay s _ .ok [] _ [] rfl hawake hfitsSlot ?_ rfl
      rw [show arg = sayForm userTag parts from rfl, handleSay_eq hbounds hfit]
      exact if_pos hnone
    · refine exec_answered _ 0x38#8 tag _ handleSay s _ .queueFull [] _ [] rfl hawake hfitsSlot ?_ rfl
      rw [show arg = sayForm userTag parts from rfl, handleSay_eq hbounds hfit]
      exact (if_neg hsome).trans (if_pos hfull)
    · have hexec := exec_say s tag userTag parts hawake hbounds hfit rfl hsome hroom
      have hframe := (settle_untouched _).trans (placeSay_untouched (sayUtterance userTag items s.vks) (identityUsed s.vks))
      have hjoins := placeSay_joins (sayUtterance userTag items s.vks) (v := identityUsed s.vks)
      have hstarts := placeSay_starts (sayUtterance userTag items s.vks) (v := identityUsed s.vks)
      have hserves : s.vks.reader.engine = .idle → ArbiterServes (settle (placeSay (sayUtterance userTag items s.vks) (identityUsed s.vks))) :=
        fun h => settle_arbiterServes _ (placeSay_engine (v := identityUsed s.vks) _ h)
      have hreads := fun n => placeSay_reads (sayUtterance userTag items s.vks) (v := identityUsed s.vks) (n := n)
      generalize settle (placeSay (sayUtterance userTag items s.vks) (identityUsed s.vks)) = t at *
      refine ⟨_, hexec, rfl, rfl, hjoins, fun hidle hqueue hopen => ?_, fun hengine => ?_,
        fun n rest hcons hidle hqueue hstore hn hamp hengine hecho hnone => hreads n ?_ hidle hqueue hstore hn hamp hengine hecho hnone,
        replying_untouched _ _ _ _ _ hframe⟩
      · exact hstarts ((mainTakesAtOnce_iff _).mpr ⟨hqueue, hidle, hopen⟩)
      · exact arbiterServes_congr (a := replying _ _ _ _ _ t) (b := t) rfl rfl (hserves hengine)
      · show (items.take 40)[0]? = _
        rw [hcons]
        rfl
  case engine =>
    intro startsAtOnce
    have hstarts : engineTakesAtOnce v = true ↔ startsAtOnce := engineTakesAtOnce_iff v
    have hnot (h : ¬ startsAtOnce) : engineTakesAtOnce v = false := Bool.eq_false_iff.mpr fun k => h (hstarts.mp k)
    refine ⟨fun h => ?_, fun before behind hqueue hbehind hbefore h hroom => ?_,
      fun before behind y hqueue hbehind hbefore h hfull htell => ?_, fun hengines hfull => placeEngine_of_turned ⟨hfull, hengines⟩⟩
    · rw [placeEngine_starts u (hstarts.mpr h)]
      obtain ⟨hbusy, hspoken⟩ := startVoice_speaks .main u v
      exact ⟨rfl, startVoice_sched .main u v, hbusy, hspoken, startVoice_untouched .main u v⟩
    · rw [placeEngine_waits u (hnot h) hroom, hqueue, insertEngine_between u before behind hbehind hbefore, List.append_assoc]
      rfl
    · have hsay : y.source = .say := hbehind y (List.mem_append_right _ (List.mem_singleton_self y))
      rw [placeEngine_drops u (hnot h) hfull (by rw [hqueue]; exact dropNewestSay_last _ hsay),
        insertEngine_between u before behind (fun x hx => hbehind x (List.mem_append_left _ hx)) hbefore, raiseNotice,
        if_pos (show v.notices.queue.length < Config.queuePlaces from htell), List.append_assoc]
      rfl
  case request =>
    intro items r next
    obtain ⟨hnone, hnext, hplaced, hturned⟩ := requestEngine_places v source parts x hid
    refine ⟨hnone, hnext, fun hsome hroom => hplaced hsome fun ⟨hfull, hengines⟩ => ?_,
      fun hsome hfull hengines => hturned hsome ⟨hfull, hengines⟩⟩
    rcases hroom with h | ⟨y, hy, hsay⟩
    · omega
    · exact hengines y hy hsay
  case echo =>
    intro kept admits floor t waits starts
    have hadmits : admitsEcho v u = true ↔ admits := admitsEcho_iff v u
    have hdrop := dropWaitingEcho_eq v
    have hdropSched : (dropWaitingEcho v).sched = { v.sched with echoLine := none } := by rw [hdrop]
    have hdropAttempt : (dropWaitingEcho v).attempt = { v.attempt with ctx := { v.attempt.ctx with outstanding := kept } } := by rw [hdrop]; rfl
    refine ⟨fun hidle => ⟨fun h => ?_, fun h => ?_⟩, fun hwaiting => placeEcho_waitingAmp hwaiting,
      fun p hp hplaying => ⟨fun hfloor h => ?_, fun hfloor => ?_, fun h => ?_⟩⟩
    · have ht : t = startVoice .echo u (dropWaitingEcho v) := (placeEcho_idle hidle).trans (if_pos (hadmits.mpr h))
      obtain ⟨hsched, hbusy, hspoken, hout, hattempt⟩ := startEcho_starts (u := u) hdropSched (dropWaitingEcho_outside v)
      rw [← ht] at hsched hbusy hspoken hout hattempt
      exact ⟨⟨hsched, hbusy, hspoken, hout⟩, hattempt.trans hdropAttempt⟩
    · exact (placeEcho_idle hidle).trans (if_neg fun k => h (hadmits.mp k))
    · have ht : t = startVoice .echo u (cutPlayingEcho (dropWaitingEcho v)) :=
        (placeEcho_playing hplaying hp).trans (if_pos ⟨hfloor, hadmits.mpr h⟩)
      have hcut : cutPlayingEcho (dropWaitingEcho v) = forget p.id (idleVoice .echo (dropWaitingEcho v)) := by
        rw [cutPlayingEcho, (dropWaitingEcho_voice v).1, hp]
      obtain ⟨hsched, hbusy, hspoken, hout, hattempt⟩ := startEcho_starts (u := u) (x := cutPlayingEcho (dropWaitingEcho v))
        (by rw [hcut]; exact hdropSched) ((cutPlayingEcho_outside _).trans (dropWaitingEcho_outside v))
      rw [← ht] at hsched hbusy hspoken hout hattempt
      refine ⟨⟨hsched, hbusy, hspoken, hout⟩, hattempt.trans ?_⟩
      have hidle : (idleVoice .echo (dropWaitingEcho v)).attempt = { v.attempt with ctx := { v.attempt.ctx with outstanding := kept } } :=
        hdropAttempt
      simp only [hcut, forget, hidle]
    · exact (placeEcho_playing hplaying hp).trans (if_neg fun k => Nat.not_le.mpr hfloor k.1)
    · exact (placeEcho_playing hplaying hp).trans (if_neg fun k => h (hadmits.mp k.2))
  case echoed =>
    refine ⟨echoQueued_of_request (.refl _) rfl rfl, fun hother => ?_, ?_, (requestEcho_main item v).queue⟩
    · exact placeEcho_outstanding (v := registered v) (List.mem_append_right _ (List.mem_singleton_self _)) hother
    · exact (placeEcho_nextId (echoUtterance item v) (registered v)).trans (nextIdentity_eq hid)
  case instant =>
    intro admits atFloor ends
    have hadmits : admitsEcho s.vks w = true ↔ admits := admitsEcho_iff s.vks w
    obtain ⟨r, rest, hring, hbegins⟩ : ∃ r rest, s.vks.reader.echoVoice.ring = r :: rest ∧ r.begins = none := by
      cases hring : s.vks.reader.echoVoice.ring with
      | nil => rw [hring] at hhead; exact nomatch hhead
      | cons r rest =>
        rw [hring] at hhead
        exact ⟨r, rest, rfl, Option.some.inj hhead⟩
    have hends := fun h1 h2 => echo_ends hawake hon hplaying hlead hp hline h1 h2
    have hfloor := echo_at_floor hawake hon hplaying hlead hp hline hring hbegins
    have hexec := Instants.exec_outputInstant s
    generalize outputInstant s.vks = t at *
    refine ⟨_, hexec, rfl, rfl, fun hcause h => ?_, fun hnot h => (hfloor hnot).2 fun k => h ⟨k.1, hadmits.mp k.2⟩⟩
    by_cases hend : ends
    · exact hends hend.1 hend.2 (hadmits.mpr h)
    · exact (hfloor hend).1 (hcause.resolve_right hend) (hadmits.mpr h)

end Sys2Proof.SpeechPlacement
end

section
/-! SUPPORT. The clauses of an output instant: its sum and frame, the buffer, the voices that starve, and the voices that end
(R149 to R155, R126, R129). -/

namespace Sys2Proof.InstantClauses

open Sys2Proof.Machine Sys2Proof.EventMoves Sys2Proof.EventFrames Sys2Proof.VoiceFrames Sys2Proof.SpeechKept Sys2Proof.Instants
  Sys2Proof.Stores Sys2Proof.AttemptSteps Sys2Proof.AttemptEnds Sys2Proof.Draws Sys2Proof.Echoes Sys2Proof.Interruptions
  Sys2Proof.InstantEnds Sys2Proof.InstantVoices Sys2Proof.Silences Sys2Proof.SilenceScopes Sys2Proof.AudioAndSet Sys2Proof.Invariants

/-! ### The frame and the sum (R153, R154, R159) -/

/-- R159: the frame of a driven output, most significant bit first. -/
theorem i2sFrame_of_driven {v : Vks} {word : BitVec 16} (h : v.mixer.i2s = ⟨true, word, word⟩) :
    i2sFrame v = some ((List.range 16).map (fun k => (false, word.getLsbD (15 - k)))
      ++ (List.range 16).map (fun k => (true, word.getLsbD (15 - k)))) := by
  have hbits (side : Bool) : (List.range 16).map (fun k => (side, word.getMsbD k))
      = (List.range 16).map fun k => (side, word.getLsbD (15 - k)) := by
    refine List.map_congr_left fun k hk => ?_
    rw [BitVec.getMsbD_eq_getLsbD, decide_eq_true (List.mem_range.mp hk)]
    rfl
  rw [i2sFrame, h]
  simp only [if_true, hbits]

section
variable {v : Vks}

/-- What an instant emits, and what it leaves of window, gain and buffer. -/
theorem outputInstant_emits (hawake : v.power.asleep = false) : (outputInstant v).mixer.output = mixOutput (mixSum v)
    ∧ (outputInstant v).mixer.i2s = I2s.frame (mixOutput (mixSum v))
    ∧ (outputInstant v).mixer.clipSeen = (v.mixer.clipSeen || mixClips (mixSum v))
    ∧ (outputInstant v).mixer.windowCount = (if 256 ≤ v.mixer.windowCount then 0 else v.mixer.windowCount) + 1
    ∧ (outputInstant v).mixer.hostGain = (drawnPart v).mixer.hostGain
    ∧ (outputInstant v).mixer.samples = (hostSample (enveloped v)).2.mixer.samples := by
  have hout := outputInstant_outside v hawake
  obtain ⟨hclip, hwindow⟩ := (hostSample_taken (enveloped v)).clips
  obtain ⟨hclipBefore, -, -, -, -, hwindowBefore⟩ := enveloped_mixer v
  rw [mixInstant_eq] at hout
  refine ⟨hout.output, hout.i2s, hout.clipSeen.trans ?_, hout.windowCount.trans ?_, hout.hostGain, hout.samples.trans ?_⟩
  · show ((drawnPart v).mixer.clipSeen || mixClips (mixSum v)) = _
    rw [drawnPart_mixer, hclip, hclipBefore]
  · show (drawnPart v).mixer.windowCount + 1 = _
    rw [drawnPart_mixer, hwindow, hwindowBefore]
  · show (drawnPart v).mixer.samples = _
    rw [drawnPart_mixer]

/-- R153: without the amplifier ON the sum is 0 and the buffer keeps its samples. -/
theorem mixSum_of_not_on (h : v.power.amp ≠ .on) :
    mixSum v = 0 ∧ (hostSample (enveloped v)).2.mixer.samples = v.mixer.samples := by
  have hpower : (enveloped v).power = v.power := by rw [(enveloped_eq v).1]
  have hhost := hostSample_of_not (enveloped v) fun k => h (by rw [← hpower]; exact k.2)
  rw [mixSum, hhost, drawVoices_of_not_on _ (by rw [hpower]; exact h)]
  exact ⟨by simp, (enveloped_mixer v).2.2.1⟩

/-- R129: the arbiter at the end of an instant. -/
theorem outputInstant_serves (hawake : v.power.asleep = false) (hidle : v.reader.engine = .idle) :
    ArbiterServes (outputInstant v) := by
  have hmix : (mixInstant v).reader.engine = .idle := by
    obtain ⟨-, -, -, -, -, -, -, hengine⟩ := drawnPart_frame v
    exact hengine.trans hidle
  have hbefore : (beforeCount v).reader.engine = .idle :=
    moves_engine_idle ((takeOverEcho_moves _ _).trans (endDrained_moves _)) hmix
  rw [outputInstant_awake v hawake]
  refine settle_arbiterServes _ ?_
  rw [(countStandby_same _ _).1]
  exact hbefore

/-! ### The buffer (R149, R150) -/

/-- R150: the buffer found empty stops. -/
theorem outputInstant_empty (hawake : v.power.asleep = false) (hon : v.power.amp = .on) (hplaying : v.mixer.playing = true)
    (hempty : v.mixer.samples = []) : (outputInstant v).mixer.playing = false ∧ (outputInstant v).mixer.endMark = false
      ∧ (outputInstant v).port.latches.underrun = (v.port.latches.underrun || !v.mixer.endMark) := by
  obtain ⟨-, hplayingBefore, hsamplesBefore, -, hmarkBefore, -⟩ := enveloped_mixer v
  have hhost := hostSample_of_nil (enveloped v) (hplayingBefore.trans hplaying) (by rw [(enveloped_eq v).1]; exact hon)
    (hsamplesBefore.trans hempty)
  obtain ⟨-, -, hstops⟩ := hostSample_samples (enveloped v) (by rw [(enveloped_eq v).1]; exact hon)
  rw [hsamplesBefore, hempty] at hstops
  replace hstops : (mixInstant v).mixer.playing = false := by
    show (drawnPart v).mixer.playing = false
    rw [drawnPart_mixer, hstops]
    exact Bool.and_false _
  have hfill : (mixInstant v).mixer.samples = [] := by
    show (drawnPart v).mixer.samples = []
    obtain ⟨-, hsamples, -⟩ := hostSample_samples (enveloped v) (by rw [(enveloped_eq v).1]; exact hon)
    rw [drawnPart_mixer, hsamples, hsamplesBefore, hempty]
    exact ite_self _
  have hrun : (runEmpty (enveloped v)).mixer.endMark = false
      ∧ (runEmpty (enveloped v)).port.latches.underrun = (v.port.latches.underrun || !v.mixer.endMark) := by
    have hport : (enveloped v).port = v.port := by rw [(enveloped_eq v).1]
    unfold runEmpty
    split
    · next hmark =>
      refine ⟨rfl, ?_⟩
      show (enveloped v).port.latches.underrun = _
      rw [hport, ← hmarkBefore, hmark]
      exact (Bool.or_false _).symm
    · next hmark =>
      have hmark : (enveloped v).mixer.endMark = false := Bool.eq_false_iff.mpr hmark
      refine ⟨by rw [raiseNotice_mixer]; exact hmark, (raiseNotice_untouched _ _).underrun.trans ?_⟩
      rw [← hmarkBefore, hmark]
      exact (Bool.or_true _).symm
  have hout := outputInstant_outside v hawake
  refine ⟨?_, hout.endMark.trans ?_, hout.underrun.trans ?_⟩
  · have hbefore := beforeCount_outside v
    obtain ⟨-, -, -, -, -, hstill⟩ := countStandby_same (voicesActive v) (beforeCount v)
    have hcount := countStandby_outside (voicesActive v) (beforeCount v)
    rw [outputInstant_awake v hawake, (settle_ampSteady _).notReady (by
      rw [hcount.samples, hbefore.samples, hfill]
      exact Nat.lt_of_lt_of_le Nat.zero_lt_one (Nat.le_max_left 1 _))]
    refine hstill (((moves_ampSteady (beforeCount_moves v)).notReady ?_).trans hstops)
    rw [hfill]
    exact Nat.lt_of_lt_of_le Nat.zero_lt_one (Nat.le_max_left 1 _)
  · show (drawnPart v).mixer.endMark = false
    rw [drawnPart_mixer, hhost]
    exact hrun.1
  · show (drawnPart v).port.latches.underrun = _
    rw [show (drawnPart v).port.latches.underrun = _ from (drawVoices_drawn _).untouched.underrun, hhost]
    exact hrun.2

/-- R149: the sample that brings the buffer below its mark raises AUDIO_LOW, ahead of whatever else the instant raises. -/
theorem outputInstant_low (hawake : v.power.asleep = false) (hon : v.power.amp = .on) (hplaying : v.mixer.playing = true)
    (hsome : v.mixer.samples ≠ []) (harmed : v.mixer.lowArmed = true) (hmark : v.mixer.endMark = false)
    (hbelow : v.mixer.samples.length ≤ v.params.playoutMark) (hroom : v.notices.queue.length < 16) :
    ∃ later, (outputInstant v).notices.queue
      = v.notices.queue ++ .audioLow (v.mixer.samples.length - 1) v.params.playoutMark :: later := by
  obtain ⟨x, rest, hsamples⟩ := List.exists_cons_of_ne_nil hsome
  obtain ⟨-, hplayingBefore, hsamplesBefore, harmedBefore, hmarkBefore, -⟩ := enveloped_mixer v
  have hnotices : (enveloped v).notices = v.notices := by rw [(enveloped_eq v).1]
  have hparams : (enveloped v).params = v.params := by rw [(enveloped_eq v).1]
  have hhost := hostSample_of_cons (enveloped v) (hplayingBefore.trans hplaying) (by rw [(enveloped_eq v).1]; exact hon)
    (hsamplesBefore.trans hsamples)
  have hjoin := (outputInstant_join hawake).trans (drawVoices_drawn (hostSample (enveloped v)).2).notices
  rw [hsamples, List.length_cons] at hbelow
  rw [hhost, lowCompare_of_crossing { enveloped v with mixer := { (enveloped v).mixer with samples := rest } }
      (by show rest.length < (enveloped v).params.playoutMark; rw [hparams]; exact hbelow)
    (harmedBefore.trans harmed) (hmarkBefore.trans hmark)] at hjoin
  obtain ⟨later, hlater⟩ := hjoin.raised _ (by show (enveloped v).notices.queue.length < 16; rw [hnotices]; exact hroom)
  refine ⟨later, hlater.trans ?_⟩
  show (enveloped v).notices.queue ++ Notice.audioLow rest.length (enveloped v).params.playoutMark :: later = _
  rw [hnotices, hparams, hsamples]
  rfl

/-! ### A voice that starves (R129) -/

theorem echoAge_of_utterance {w : Vks} {p : Utterance} (h : (w.voice .echo).utterance = some p) : echoAge w = p.playSamples := by
  rw [echoAge, show w.reader.echoVoice.utterance = some p from h]

section
variable {u : Utterance} {i : VoiceId} (hawake : v.power.asleep = false) (hon : v.power.amp = .on)
  (hplaying : (v.voice i).state = .playing) (hlead : (v.voice i).leadIn = false) (hu : (v.voice i).utterance = some u)
  (hring : (v.voice i).ring = []) (hread : (v.voice i).readItem ≠ 0)

include hawake hon hplaying hlead hu hring hread

/-- The utterance of a voice that has nothing to draw is marked STARVED. -/
theorem outputInstant_marks_starved : ((outputInstant v).voice i).utterance = some { u with starved := true } := by
  have hvoice := mixInstant_voice hon i
  have hbusy : ((mixInstant v).voice i).state ≠ .idle := by
    rw [hvoice, (drawnVoice_keeps _ _).1, hplaying]
    decide
  have hnot : ((mixInstant v).voice i).drained = false := by
    rw [hvoice]
    exact drawnVoice_not_drained_of_reading hread
  have hmarked : ((mixInstant v).voice i).utterance = some { u with starved := true } := by
    rw [hvoice, drawnVoice_of_nil hplaying hlead hring hu]
    split
    · next h =>
      have hstarved : u.starved = true := h.resolve_left hread
      rw [hu, ← hstarved]
    · rfl
  have hkept := (endDrained_kept hnot).busy hbusy
  have hend : ((endDrained (mixInstant v)).voice i).utterance = some { u with starved := true } :=
    (goesOn_utterance hkept).trans hmarked
  cases i with
  | main => exact (goesOn_utterance ((outputInstant_main hawake).busy (hkept.on hbusy).1)).trans hend
  | echo =>
    have hage : echoAge (endDrained (mixInstant v)) = echoAge v :=
      (echoAge_of_utterance hend).trans (echoAge_of_utterance hu).symm
    have hstays : beforeCount v = endDrained (mixInstant v) := by
      rw [beforeCount, floorTakeOver, hage, decide_eq_false (Nat.lt_irrefl _)]
      exact takeOverEcho_of_not _
    exact (goesOn_utterance (outputInstant_echo hawake hstays (hkept.on hbusy).1).voice).trans hend

/-- R129: the first time, it is told. -/
theorem outputInstant_tells_starved (hfirst : u.starved = false) (hroom : v.notices.queue.length + 2 < 16) :
    .voiceStarved i.code u.id ∈ (outputInstant v).notices.queue := by
  obtain ⟨hjoinMain, hlengthHost, hlengthMain, -⟩ := drawnPart_notices hon
  have hjoin := outputInstant_join hawake
  have hfound : .voiceStarved i.code u.id ∈ (drawnPart v).notices.queue := by
    cases i with
    | main =>
      have hvoice := hostPart_voice v .main
      have htold := draw_starves .main (hostSample (enveloped v)).2 (by rw [hvoice]; exact hplaying) (by rw [hvoice]; exact hlead)
        (by rw [hvoice]; exact hring) (by rw [hvoice]; exact hu) (by rw [hvoice]; exact hread) hfirst (by omega)
      obtain ⟨later, hlater⟩ := hjoinMain.joined
      rw [hlater, htold]
      exact List.mem_append_left _ (List.mem_append_right _ (List.mem_singleton_self _))
    | echo =>
      have hvoice := (mainDrawn_echo v).1
      have htold := draw_starves .echo (draw .main (hostSample (enveloped v)).2).2 (by rw [hvoice]; exact hplaying)
        (by rw [hvoice]; exact hlead) (by rw [hvoice]; exact hring) (by rw [hvoice]; exact hu) (by rw [hvoice]; exact hread) hfirst
        (by omega)
      rw [drawnPart_of_on hon, htold]
      exact List.mem_append_right _ (List.mem_singleton_self _)
  obtain ⟨later, hlater⟩ := hjoin.joined
  rw [hlater]
  exact List.mem_append_left _ hfound

end

end

end Sys2Proof.InstantClauses
end

section
/-! SUPPORT. The voices that end at an output instant (R101 to R103, R126), and the instant put together (R153). -/

namespace Sys2Proof.InstantSums

open Sys2Proof.Machine Sys2Proof.EventMoves Sys2Proof.EventFrames Sys2Proof.VoiceFrames Sys2Proof.SpeechKept Sys2Proof.Instants
  Sys2Proof.Stores Sys2Proof.AttemptSteps Sys2Proof.AttemptEnds Sys2Proof.Draws Sys2Proof.Echoes Sys2Proof.Interruptions
  Sys2Proof.InstantEnds Sys2Proof.InstantVoices Sys2Proof.Silences Sys2Proof.SilenceScopes Sys2Proof.AudioAndSet Sys2Proof.Invariants
  Sys2Proof.InstantClauses Sys2Proof.EchoInstants

/-! ### The attempt behind the ends -/

/-- Some identities leave the outstanding set, and nothing else of attempt and lesson moves. -/
structure Forgets (a b : Vks) : Prop where
  state : a.attempt.state = b.attempt.state
  lesson : a.lesson = b.lesson
  ctx : ∃ stays : Nat → Bool, a.attempt.ctx = { b.attempt.ctx with outstanding := b.attempt.ctx.outstanding.filter stays }

theorem Forgets.of_same {a b : Vks} (hstate : a.attempt.state = b.attempt.state) (hlesson : a.lesson = b.lesson)
    (hctx : a.attempt.ctx = b.attempt.ctx) : Forgets a b :=
  ⟨hstate, hlesson, fun _ => true, by rw [hctx, List.filter_true]⟩

theorem Forgets.of_untouched {a b : Vks} (h : Untouched a b) : Forgets a b := .of_same h.state h.lesson h.ctx

theorem Forgets.trans {a b c : Vks} (h : Forgets a b) (k : Forgets b c) : Forgets a c := by
  obtain ⟨p, hp⟩ := h.ctx
  obtain ⟨q, hq⟩ := k.ctx
  refine ⟨h.state.trans k.state, h.lesson.trans k.lesson, fun x => q x && p x, ?_⟩
  rw [hp, hq]
  simp only [List.filter_filter, Bool.and_comm]

theorem takeOverEcho_forgets (r : Bool) (v : Vks) : Forgets (takeOverEcho r v) v := by
  have hcut : Forgets (cutPlayingEcho v) v := by
    unfold cutPlayingEcho
    split
    · exact ⟨rfl, rfl, _, rfl⟩
    · exact .of_same rfl rfl rfl
  unfold takeOverEcho
  split
  · split
    · exact (Forgets.of_untouched (startVoice_untouched _ _ _)).trans
        ((Forgets.of_untouched (setEchoLine_untouched _ _)).trans hcut)
    · exact .of_same rfl rfl rfl
  · exact .of_same rfl rfl rfl

theorem leavesClosing_of_forgets {v t t' : Vks} {l : LessonUnit} {c : Context} (h : Forgets t' t) (k : LeavesClosing v t l c) :
    LeavesClosing v t' l c := by
  obtain ⟨hstate, hlesson, stays, hctx⟩ := h
  refine ⟨fun hauto => ?_, fun hauto hgap => ?_, fun hauto hgap => ⟨fun bad e rest x hl hbad hvalid => ?_, fun hbad => ?_⟩⟩
  · obtain ⟨hidle, hkept, hcleared⟩ := k.idle hauto
    exact ⟨hstate.trans hidle, hlesson.trans hkept, by rw [hctx, hcleared]; rfl⟩
  · obtain ⟨hgapState, hset, hcleared⟩ := k.gap hauto hgap
    exact ⟨hstate.trans hgapState, hlesson.trans hset, by rw [hctx, hcleared]; rfl⟩
  · obtain ⟨hset, hopened, hword, horigin, hsettings⟩ := (k.walk hauto hgap).opens bad e rest x hl hbad hvalid
    rw [hstate, hctx]
    exact ⟨hlesson.trans hset, hopened, hword, horigin, hsettings⟩
  · obtain ⟨hset, hidle⟩ := (k.walk hauto hgap).empties hbad
    exact ⟨hlesson.trans hset, hstate.trans hidle⟩

section
variable {v : Vks} {u : Utterance} (hawake : v.power.asleep = false) (hon : v.power.amp = .on)

include hawake

/-- What follows the ends of an instant reaches the attempt only by an echo that is cut. -/
theorem outputInstant_forgets : Forgets (outputInstant v) (endDrained (mixInstant v)) := by
  obtain ⟨-, -, hattempt, hlesson, -⟩ := countStandby_same (voicesActive v) (beforeCount v)
  have hcount : Forgets (countStandby (voicesActive v) (beforeCount v)) (beforeCount v) :=
    .of_same (by rw [hattempt]) hlesson (by rw [hattempt])
  rw [outputInstant_awake v hawake]
  exact (Forgets.of_untouched (settle_untouched _)).trans (hcount.trans (takeOverEcho_forgets _ _))

/-- The notices from the ends on. -/
theorem outputInstant_tells : NoticesJoin (outputInstant v) (reportEnds .finished (drainedSpeech (mixInstant v)) (freed (mixInstant v))) := by
  have hcount : NoticesJoin (countStandby (voicesActive v) (beforeCount v)) (beforeCount v) :=
    moves_join (l := 2) (countStandby_moves _ _)
  have hbefore : NoticesJoin (beforeCount v) (endDrained (mixInstant v)) := moves_join (l := 1) (takeOverEcho_moves _ _)
  rw [endDrained_eq] at hbefore
  have hstarts : NoticesJoin (startHeads (reportEnds .finished (drainedSpeech (mixInstant v)) (freed (mixInstant v)))) _ :=
    moves_join (l := 1) (startHeads_moves _)
  rw [outputInstant_awake v hawake]
  exact (settle_join _).trans (hcount.trans (hbefore.trans hstarts))

omit hawake

/-! ### The main voice's last sample -/

section
variable (hplaying : v.reader.mainVoice.state = .playing) (hlead : v.reader.mainVoice.leadIn = false)
  (hu : v.reader.mainVoice.utterance = some u) (hlast : v.reader.mainVoice.ring.length = 1) (hread : v.reader.mainVoice.readItem = 0)

include hon hplaying hlead hu hlast hread

/-- The utterance drawn to its end, with what identifies it, ahead of an echo that ends too. -/
theorem main_drained : ((mixInstant v).voice .main).drained = true ∧ ∃ w ended, drainedSpeech (mixInstant v) = w :: ended
    ∧ w.id = u.id ∧ w.source = u.source ∧ w.tag = u.tag ∧ w.flags = u.flags := by
  have hdrained : ((mixInstant v).voice .main).drained = true := by
    rw [mixInstant_voice hon]
    exact drawnVoice_drained hplaying hlead hu hlast hread
  refine ⟨hdrained, ?_⟩
  obtain ⟨r, rest, hring⟩ := List.exists_cons_of_length_eq_add_one hlast
  have hspoken : ((mixInstant v).voice .main).utterance = some (u.played r) := by
    rw [mixInstant_voice hon, drawnVoice_of_cons (w := v.voice .main) hplaying hlead hring hu]
  refine ⟨u.played r, if ((mixInstant v).voice .echo).drained then onVoice (mixInstant v) .echo else [], ?_, played_same u r⟩
  rw [drainedSpeech, if_pos hdrained, onVoice, hspoken]
  rfl

include hawake

/-- R103: the end of a SAY is told. -/
theorem main_ends_told (hsay : u.source = .say) (hroom : v.notices.queue.length + 2 < 16) :
    .utteranceDone u.tag u.id 1 u.flags ∈ (outputInstant v).notices.queue := by
  obtain ⟨-, w, ended, hspeech, hid, hsource, htag, hflags⟩ := main_drained hon hplaying hlead hu hlast hread
  have hjoin := outputInstant_tells hawake
  rw [hspeech, show reportEnds .finished (w :: ended) (freed (mixInstant v))
    = reportEnds .finished ended (reportEnd .finished (freed (mixInstant v)) w) from rfl, reportEnd_of_say (hsource.trans hsay)] at hjoin
  have hends : NoticesJoin (reportEnds .finished ended (raiseNotice (doneNotice w .finished) (freed (mixInstant v))))
      (raiseNotice (doneNotice w .finished) (freed (mixInstant v))) := moves_join (l := 1) (reportEnds_moves _ _ _)
  have hqueue : (freed (mixInstant v)).notices.queue.length ≤ v.notices.queue.length + 2 := by
    obtain ⟨-, hhost, -, hecho⟩ := drawnPart_notices hon
    have hmain : (draw .main (hostSample (enveloped v)).2).2.notices = (hostSample (enveloped v)).2.notices :=
      (draw_eq .main _).2.2 (.inr (by rw [hostPart_voice]; exact hread))
    rw [(freed_same _).2.2.2, mixInstant_notices]
    rw [hmain] at hecho
    omega
  obtain ⟨later, hlater⟩ := (hjoin.trans hends).raised _ (by omega)
  rw [hlater]
  refine List.mem_append_right _ (List.mem_cons.mpr (.inl ?_))
  rw [doneNotice, hid, htag, hflags]
  rfl

/-- R107: with nothing outstanding and nothing waiting the main voice is free. -/
theorem main_ends_idle (hnone : v.attempt.ctx.outstanding = []) (hqueue : v.sched.queue = []) :
    (outputInstant v).reader.mainVoice = Voice.idle := by
  obtain ⟨hdrained, -⟩ := main_drained hon hplaying hlead hu hlast hread
  obtain ⟨-, hattempt, hsched, -⟩ := freed_same (mixInstant v)
  obtain ⟨-, -, hschedMix, hattemptMix⟩ := SampleClock.mixInstant_power v
  have honly := (reportEnds_only .finished (drainedSpeech (mixInstant v)) (freed (mixInstant v))
    (.inl (by rw [hattempt, hattemptMix]; exact hnone))).1
  have hidle : ((reportEnds .finished (drainedSpeech (mixInstant v)) (freed (mixInstant v))).voice .main) = Voice.idle := by
    rw [Vks.voice, honly.reader]
    exact (freed_voice _ .main).trans (if_pos hdrained)
  have hnothing : (reportEnds .finished (drainedSpeech (mixInstant v)) (freed (mixInstant v))).sched.queue = [] := by
    rw [honly.sched, hsched, hschedMix]
    exact hqueue
  have hend : MainAlone (endDrained (mixInstant v)) (reportEnds .finished (drainedSpeech (mixInstant v)) (freed (mixInstant v))) := by
    rw [endDrained_eq, startHeads, startMainHead_of_nil _ hnothing]
    exact startEchoHead_alone _
  have hbefore : MainAlone (beforeCount v) _ := (takeOverEcho_main _ _).trans hend
  obtain ⟨hreader, hschedCount, -⟩ := countStandby_same (voicesActive v) (beforeCount v)
  have hcount : MainAlone (countStandby (voicesActive v) (beforeCount v)) (beforeCount v) :=
    ⟨by rw [Vks.voice, Vks.voice, hreader]; exact .refl _, by rw [hschedCount]⟩
  obtain ⟨hgo, hkept⟩ := hcount.trans hbefore
  rw [outputInstant_awake v hawake]
  have hlast := (settle_main_of_no_start _ (startMainHead_of_nil _ (hkept.trans hnothing))).1
  exact ((hlast.trans hgo).of_idle (by rw [hidle]; rfl)).trans hidle

/-- R22: the attempt takes the step it awaited that end for. -/
theorem main_ends_awaited {k : AwaitKind} (hsource : u.source ≠ .say) (hout : v.attempt.ctx.outstanding = [u.id])
    (hawaited : v.attempt.ctx.awaited = some (k, u.id)) : (k ≠ .closing → (outputInstant v).attempt.state = .listening)
      ∧ (k = .closing → LeavesClosing v (outputInstant v) v.lesson v.attempt.ctx) := by
  obtain ⟨-, w, ended, hspeech, hid, hsame, -⟩ := main_drained hon hplaying hlead hu hlast hread
  obtain ⟨hfree, hattempt, -, -⟩ := freed_same (mixInstant v)
  obtain ⟨-, hparams, -, hattemptMix⟩ := SampleClock.mixInstant_power v
  obtain ⟨hwords, hlesson⟩ := mixInstant_words (v := v)
  have hctx : (freed (mixInstant v)).attempt.ctx = v.attempt.ctx := by rw [hattempt, hattemptMix]
  have hstep : reportEnds .finished (drainedSpeech (mixInstant v)) (freed (mixInstant v))
      = reportEnds .finished ended (awaitedStep k (setAwaited none (forget u.id (freed (mixInstant v))))) := by
    rw [hspeech]
    refine congrArg (reportEnds .finished ended) ((reportEnd_of_engine (hsame ▸ hsource)).trans ?_)
    rw [hid]
    exact endReport_of_awaited (by rw [hctx, hout]; exact List.mem_singleton_self _) (by rw [hctx]; exact hawaited)
  have hforgets := outputInstant_forgets hawake
  rw [endDrained_eq, hstep] at hforgets
  replace hforgets := hforgets.trans (.of_untouched (startHeads_untouched _))
  replace hwords := hfree.words.trans hwords
  replace hparams := hfree.params.trans hparams
  replace hlesson := hfree.lesson.trans hlesson
  clear hstep hspeech hattempt hfree hattemptMix
  generalize freed (mixInstant v) = f at *
  refine ⟨fun hk => ?_, ?_⟩
  · obtain ⟨-, -, -, hlistens, -, -, hcleared⟩ := awaitedStep_stepsOn hk u.id f
    rw [hctx, hout] at hcleared
    generalize awaitedStep k (setAwaited none (forget u.id f)) = y at *
    have hnone : y.attempt.ctx.outstanding = [] := hcleared.trans (by simp)
    have honly := (reportEnds_only .finished ended y (.inl hnone)).1
    exact hforgets.state.trans (honly.frame.state.trans hlistens)
  · rintro rfl
    have hafter : AfterClosing v (awaitedStep .closing (setAwaited none (forget u.id f))) v.lesson v.attempt.ctx :=
      closingEnded_after (x := setAwaited none (forget u.id f)) (awaited := none)
        (outstanding := v.attempt.ctx.outstanding.filter (fun i => i ≠ u.id)) hwords hparams hlesson (by rw [← hctx]; rfl)
    exact leavesClosing_of_forgets hforgets (reportEnds_after .finished ended hafter).leaves

end

/-! ### The echo's last sample -/

/-- A waiting echo that the free voice did not take cannot take over in the same event. -/
theorem takeOverEcho_startEchoHead (r : Bool) (x : Vks) (hidle : x.reader.echoVoice.state = .idle) :
    takeOverEcho r (startEchoHead x) = startEchoHead x := by
  cases hline : x.sched.echoLine with
  | none =>
    rw [startEchoHead_of_none x hline]
    exact takeOverEcho_of_none r hline
  | some w =>
    rw [startEchoHead_of_some x hidle hline]
    split
    · exact takeOverEcho_of_none r (congrArg Scheduler.echoLine (startVoice_goesOn .echo w (setEchoLine none x)).sched)
    · next h => exact takeOverEcho_refused r hline fun k => h k.2

section
variable (hplaying : v.reader.echoVoice.state = .playing) (hlead : v.reader.echoVoice.leadIn = false)
  (hu : v.reader.echoVoice.utterance = some u) (hlast : v.reader.echoVoice.ring.length = 1) (hread : v.reader.echoVoice.readItem = 0)
  (hsource : u.source = .echo) (hone : v.reader.mainVoice.ring.length ≠ 1) (hnot : v.reader.mainVoice.drained = false)
  (hawaited : ∀ k, v.attempt.ctx.awaited ≠ some (k, u.id))

include hon hplaying hlead hu hlast hread hsource hone hnot hawaited

/-- R101: the end of an echo that nothing awaits leaves the outstanding set, and frees the voice. -/
theorem echo_drained : ∃ g, endDrained (mixInstant v) = startHeads g ∧ g.voice .echo = Voice.idle ∧ g.sched.echoLine = v.sched.echoLine
    ∧ g.attempt.ctx = { v.attempt.ctx with outstanding := v.attempt.ctx.outstanding.filter (fun x => x ≠ u.id) } := by
  have hdrained : ((mixInstant v).voice .echo).drained = true := by
    rw [mixInstant_voice hon]
    exact drawnVoice_drained hplaying hlead hu hlast hread
  have hmain : ((mixInstant v).voice .main).drained = false := by
    rw [mixInstant_voice hon]
    exact drawnVoice_not_drained hnot hone
  obtain ⟨r, rest, hring⟩ := List.exists_cons_of_length_eq_add_one hlast
  obtain ⟨hid, hsame, -⟩ := played_same u r
  have hspeech : drainedSpeech (mixInstant v) = [u.played r] := by
    have hspoken : ((mixInstant v).voice .echo).utterance = some (u.played r) := by
      rw [mixInstant_voice hon, drawnVoice_of_cons (w := v.voice .echo) hplaying hlead hring hu]
    have hecho : drainedSpeech (mixInstant v) = onVoice (mixInstant v) .echo := by
      rw [drainedSpeech, if_pos hdrained, hmain]
      rfl
    rw [hecho, onVoice, hspoken]
    rfl
  obtain ⟨-, hattempt, hsched, -⟩ := freed_same (mixInstant v)
  obtain ⟨-, -, hschedMix, hattemptMix⟩ := SampleClock.mixInstant_power v
  have hctx : (freed (mixInstant v)).attempt.ctx = v.attempt.ctx := by rw [hattempt, hattemptMix]
  have hidle : (freed (mixInstant v)).voice .echo = Voice.idle := by rw [freed_voice, if_pos hdrained]
  have hline : (freed (mixInstant v)).sched.echoLine = v.sched.echoLine := by rw [hsched, hschedMix]
  have hend : reportEnds .finished (drainedSpeech (mixInstant v)) (freed (mixInstant v)) = endReport u.id (freed (mixInstant v)) := by
    rw [hspeech, ← hid]
    exact reportEnd_of_engine (by rw [hsame, hsource]; decide)
  refine ⟨endReport u.id (freed (mixInstant v)), (endDrained_eq _).trans (congrArg startHeads hend), ?_⟩
  by_cases hout : u.id ∈ v.attempt.ctx.outstanding
  · rw [endReport_of_unawaited (by rw [hctx]; exact hout) (by rw [hctx]; exact hawaited)]
    exact ⟨hidle, hline, by rw [← hctx]; rfl⟩
  · rw [endReport_of_not_outstanding _ _ (by rw [hctx]; exact hout)]
    refine ⟨hidle, hline, hctx.trans ?_⟩
    have hall : v.attempt.ctx.outstanding.filter (fun x => x ≠ u.id) = v.attempt.ctx.outstanding :=
      List.filter_eq_self.mpr fun x hx => decide_eq_true fun heq : x = u.id => hout (heq ▸ hx)
    rw [hall]

include hawake

theorem echo_ends_freed : (outputInstant v).attempt.ctx
      = { v.attempt.ctx with outstanding := v.attempt.ctx.outstanding.filter (fun x => x ≠ u.id) }
    ∧ (v.sched.echoLine = none → (outputInstant v).reader.echoVoice = Voice.idle) := by
  obtain ⟨g, hends, hidle, hline, hctx⟩ := echo_drained hon hplaying hlead hu hlast hread hsource hone hnot hawaited
  have halone := startMainHead_alone g
  have hhead : (startMainHead g).voice .echo = Voice.idle := (halone.voice.of_idle (by rw [hidle]; rfl)).trans hidle
  have hbefore : beforeCount v = startHeads g := by
    rw [beforeCount, hends, floorTakeOver, startHeads]
    exact takeOverEcho_startEchoHead _ _ (congrArg Voice.state hhead)
  obtain ⟨hreader, hsched, hattempt, -⟩ := countStandby_same (voicesActive v) (beforeCount v)
  rw [outputInstant_awake v hawake]
  refine ⟨?_, fun hnone => ?_⟩
  · rw [(settle_untouched _).ctx, hattempt, hbefore, (startHeads_untouched g).ctx, hctx]
  · have hkept : (startMainHead g).sched.echoLine = none := halone.line.trans (hline.trans hnone)
    rw [hbefore, startHeads, startEchoHead_of_none _ hkept] at hreader hsched
    rw [hbefore, startHeads, startEchoHead_of_none _ hkept]
    have hlast := (settle_echo_of_no_line (countStandby (voicesActive v) (startMainHead g)) (by rw [hsched]; exact hkept)).1
    have hcount : (countStandby (voicesActive v) (startMainHead g)).voice .echo = Voice.idle := by
      rw [Vks.voice, hreader]
      exact hhead
    exact (hlast.of_idle (by rw [hcount]; rfl)).trans hcount

end

end

/-- Settles O50: the sum and its frame, the buffer, and the voices that starve or end. -/
theorem outputInstantMixesTheSum : Obligations.OutputInstantMixesTheSum := by
  refine ⟨fun s => ⟨fun hasleep => ?asleep, fun hawake => ?awake⟩, fun v i u hu hring hstarved => draw_of_starved i v hu hring hstarved,
    fun v hstopped => ?stopped⟩
  case asleep =>
    have hsame : outputInstant s.vks = s.vks := if_pos (Bool.not_eq_false _ ▸ hasleep)
    rw [exec_outputInstant, hsame]
    rfl
  case stopped => rw [i2sFrame, hstopped]; rfl
  case awake =>
    obtain ⟨houtput, hi2s, hclip, hwindow, hgain, hsamples⟩ := outputInstant_emits hawake
    have hout := outputInstant_outside s.vks hawake
    obtain ⟨hwords, hkeys, hparams, -⟩ := drawnPart_frame s.vks
    have hword : (outputInstant s.vks).mixer.i2s = ⟨true, BitVec.ofInt 16 (outputInstant s.vks).mixer.output,
        BitVec.ofInt 16 (outputInstant s.vks).mixer.output⟩ := by rw [hi2s, houtput]; rfl
    refine ⟨_, exec_outputInstant s, rfl, rfl, hout.words.trans hwords, hout.keys.trans hkeys, hout.params.trans hparams,
      outputInstant_serves hawake, hwindow, ⟨hword, i2sFrame_of_driven hword⟩, fun hoff => ?_, fun hon => ?_⟩
    · obtain ⟨hzero, hkept⟩ := mixSum_of_not_on hoff
      exact ⟨houtput.trans (by rw [hzero]; decide), hsamples.trans hkept⟩
    · intro term acc
      have hacc : mixSum s.vks = acc := by
        rw [mixSum_of_on hon, ← hgain]
        rfl
      obtain ⟨-, htaken, -⟩ := hostSample_samples (enveloped s.vks) (by rw [(enveloped_eq s.vks).1]; exact hon)
      obtain ⟨-, hplayingBefore, hsamplesBefore, -⟩ := enveloped_mixer s.vks
      rw [hplayingBefore, hsamplesBefore] at htaken
      refine ⟨houtput.trans (by rw [hacc]), hclip.trans (by rw [hacc]), hsamples.trans htaken, outputInstant_empty hawake hon,
        outputInstant_low hawake hon, fun i u hplaying hlead hu hring hread => ?starves,
        fun u hplaying hlead hu hlast hread => ⟨?told, ?idle, ?awaited⟩,
        fun u hplaying hlead hu hlast hread hsource hone hnot hawaited => ?echo⟩
      case starves =>
        refine ⟨outputInstant_marks_starved hawake hon hplaying hlead hu hring hread, fun hfirst hroom => ?_⟩
        have htold := outputInstant_tells_starved hawake hon hplaying hlead hu hring hread hfirst hroom
        cases i with
        | main => exact htold
        | echo => exact htold
      case told => exact main_ends_told hawake hon hplaying hlead hu hlast hread
      case idle => exact main_ends_idle hawake hon hplaying hlead hu hlast hread
      case awaited => exact fun k => main_ends_awaited hawake hon hplaying hlead hu hlast hread
      case echo => exact echo_ends_freed hawake hon hplaying hlead hu hlast hread hsource hone hnot hawaited

end Sys2Proof.InstantSums
end

section
/-! SUPPORT. The timers, ATTN and the blink phases at the end of an event (R42, R181, R184, R191). -/

namespace Sys2Proof.EventEnds

open Sys2Proof.Machine Sys2Proof.EventMoves Sys2Proof.EventFrames Sys2Proof.VoiceFrames Sys2Proof.SleepQuiet

/-- What starts and readings leave to the timers that settle behind them. -/
structure BeforeTimers (a b : Vks) : Prop where
  bare : Bare a b
  frame : Untouched a b
  attn : a.notices.attn = b.notices.attn ∧ a.notices.attnGap = b.notices.attnGap

theorem BeforeTimers.trans {a b c : Vks} (h : BeforeTimers a b) (k : BeforeTimers b c) : BeforeTimers a c :=
  ⟨h.bare.trans k.bare, h.frame.trans k.frame, h.attn.1.trans k.attn.1, h.attn.2.trans k.attn.2⟩

theorem startRead_attn (v : Vks) : (startRead v).notices = v.notices := by
  unfold startRead
  repeat' split
  all_goals rfl

theorem settleReads_startHeads_before (v : Vks) : BeforeTimers (settleReads (startHeads v)) v := by
  refine ⟨settleReads_startHeads_bare v, (settleReads_untouched _).trans (startHeads_untouched v), ?_⟩
  have hread : (readAhead .echo (readAhead .main (startHeads v))).notices.attn = v.notices.attn
      ∧ (readAhead .echo (readAhead .main (startHeads v))).notices.attnGap = v.notices.attnGap :=
    moves_attn ((readAhead_moves _ _).trans ((readAhead_moves _ _).trans (startHeads_moves v)))
  rw [settleReads, startRead_attn]
  exact hread

/-! ### The inactivity timer (R42) -/

theorem settleAttn_attempt (v : Vks) : (settleAttn v).attempt = v.attempt := by
  unfold settleAttn dropAttn
  repeat' split
  all_goals rfl

/-- R42: the inactivity timer counts on, or from the full limit, while its conditions hold. -/
theorem settle_inactivity (v : Vks) : (settle v).attempt.inactivity = if v.attempt.state = .listening
      ∧ v.attempt.ctx.outstanding = [] ∧ v.params.inactivity ≠ 0
    then some (v.attempt.inactivity.getD (v.params.inactivity * 1000)) else none := by
  have hbefore := settleReads_startHeads_before v
  have hattempt := hbefore.bare.attempt
  have hparams := hbefore.frame.params
  show (settleAttn (settleInactivity (settleReads (startHeads v)))).attempt.inactivity = _
  rw [settleAttn_attempt]
  generalize settleReads (startHeads v) = x at *
  rw [settleInactivity, inactivityCounts, hattempt, hparams]
  simp only [Bool.and_eq_true, decide_eq_true_eq, and_assoc]
  congr 1
  cases v.attempt.inactivity <;> rfl

/-! ### The sleep timer (R191) -/

theorem settleAttn_power (v : Vks) : (settleAttn v).power = v.power := by
  unfold settleAttn dropAttn
  repeat' split
  all_goals rfl

/-- R191: the sleep timer counts on, or from the full SLEEP_AFTER, while its conditions hold. -/
theorem settle_sleepTimer (v : Vks) : (settle v).power.sleepTimer = if sleepTimerRuns (settle v)
    then some (v.power.sleepTimer.getD ((settle v).params.sleepAfter * 1000)) else none := by
  have hbefore : (settleLamps (settleAttn (settleInactivity (settleReads (startHeads v))))).power.sleepTimer = v.power.sleepTimer := by
    show (settleAttn (settleInactivity (settleReads (startHeads v)))).power.sleepTimer = _
    rw [settleAttn_power]
    exact (settleReads_startHeads_bare v).sleepTimer
  rw [settle]
  generalize settleLamps (settleAttn (settleInactivity (settleReads (startHeads v)))) = y at *
  rw [← hbefore]
  show (if sleepTimerRuns y then _ else _) = if sleepTimerRuns y then _ else _
  congr 1
  cases y.power.sleepTimer <;> rfl

theorem sleepTimerRuns_iff (v : Vks) : sleepTimerRuns v = true ↔ v.power.asleep = false ∧ v.params.sleepAfter ≠ 0
    ∧ (v.attempt.state = .idle ∧ v.reader.mainVoice.state = .idle ∧ v.reader.echoVoice.state = .idle ∧ v.sched.queue = []
      ∧ v.sched.echoLine = none ∧ v.reader.engine = .idle) ∧ v.mixer.playing = false ∧ v.port.txn = none := by
  simp only [sleepTimerRuns, Bool.and_eq_true, Bool.not_eq_true', decide_eq_true_eq, Option.isNone_iff_eq_none,
    sleepObstacle_eq_none_iff, and_assoc]

/-! ### ATTN (R181) -/

theorem attnReason_iff (v : Vks) : v.attnReason = true ↔ (v.keys.reports ≠ [] ∧ v.params.attnMask.getLsbD 16 = true)
    ∨ ∃ n ∈ v.notices.queue, v.params.attnMask.getLsbD (n.kind - 1) = true := by
  simp [Vks.attnReason]

/-- What an event's end does to ATTN and its gap, by the reason left. -/
structure AttnSettled (a b : Vks) : Prop where
  held : b.port.txn ≠ none → a.notices.attn = b.notices.attn ∧ a.notices.attnGap = b.notices.attnGap
  rises : b.port.txn = none → a.attnReason = true → a.notices.attnGap = b.notices.attnGap
    ∧ a.notices.attn = (b.notices.attn || b.notices.attnGap.isNone)
  falls : b.port.txn = none → a.attnReason = false → a.notices.attn = false
    ∧ a.notices.attnGap = if b.notices.attn then (if b.params.attnGap = 0 then none else some b.params.attnGap) else b.notices.attnGap

theorem settleAttn_reason (v : Vks) : (settleAttn v).attnReason = v.attnReason := by
  unfold settleAttn dropAttn
  repeat' split
  all_goals rfl

theorem settleAttn_settled (v : Vks) : AttnSettled (settleAttn v) v := by
  refine ⟨fun hheld => ?_, fun hfree hreason => ?_, fun hfree hreason => ?_⟩
  · rw [settleAttn, if_pos (Option.isSome_iff_ne_none.mpr hheld)]
    exact ⟨rfl, rfl⟩
  · rw [settleAttn_reason] at hreason
    rw [settleAttn, if_neg (by rw [hfree]; nofun), if_pos hreason]
    cases hgap : v.notices.attnGap with
    | none => exact ⟨hgap, (Bool.or_true _).symm⟩
    | some left => exact ⟨hgap, (Bool.or_false _).symm⟩
  · rw [settleAttn_reason] at hreason
    rw [settleAttn, if_neg (by rw [hfree]; nofun), if_neg (by rw [hreason]; nofun), dropAttn]
    cases hattn : v.notices.attn with
    | true => exact ⟨rfl, rfl⟩
    | false => exact ⟨hattn, rfl⟩

/-- R181: ATTN at the end of an event. -/
theorem settle_attn (v : Vks) : AttnSettled (settle v) v := by
  have hbefore := settleReads_startHeads_before v
  have htxn := hbefore.frame.txn
  have hparams := hbefore.frame.params
  obtain ⟨hattn, hgap⟩ := hbefore.attn
  have hsettled := settleAttn_settled (settleInactivity (settleReads (startHeads v)))
  rw [settle]
  generalize settleReads (startHeads v) = x at *
  obtain ⟨hheld, hrises, hfalls⟩ := hsettled
  have hx : (settleInactivity x).port.txn = v.port.txn ∧ (settleInactivity x).notices.attn = v.notices.attn
      ∧ (settleInactivity x).notices.attnGap = v.notices.attnGap ∧ (settleInactivity x).params = v.params :=
    ⟨htxn, hattn, hgap, hparams⟩
  obtain ⟨hxtxn, hxattn, hxgap, hxparams⟩ := hx
  rw [hxtxn, hxattn, hxgap] at hheld hrises hfalls
  rw [hxparams] at hfalls
  exact ⟨hheld, hrises, hfalls⟩

/-! ### The blink phases (R184) -/

/-- A lamp at the end of an event: its phase goes on, or begins lit, while its condition holds. -/
theorem settle_blink (v : Vks) {k : Nat} (hk : k < 3) : (settle v).blinkPhase k
    = if (!(settle v).power.asleep && ((settle v).lamp k).blink && (settle v).lampCondition ((settle v).lamp k).mode) = true
      then some ((v.blinkPhase k).getD ⟨true, 500⟩) else none := by
  have hblink : (settleAttn (settleInactivity (settleReads (startHeads v)))).notices.blink = v.notices.blink := by
    have hattn (x : Vks) : (settleAttn x).notices.blink = x.notices.blink := by
      unfold settleAttn dropAttn
      repeat' split
      all_goals rfl
    exact (hattn _).trans (settleReads_startHeads_bare v).blink
  rw [settle]
  generalize settleAttn (settleInactivity (settleReads (startHeads v))) = y at *
  have hphase : (settleSleepTimer (settleLamps y)).blinkPhase k = settledBlink y k := by
    match k, hk with
    | 0, _ => rfl
    | 1, _ => rfl
    | 2, _ => rfl
  have hcondition (m : LampMode) : (settleSleepTimer (settleLamps y)).lampCondition m = y.lampCondition m := by cases m <;> rfl
  have hlamp : (settleSleepTimer (settleLamps y)).lamp k = y.lamp k := rfl
  rw [hphase, hcondition, hlamp, settledBlink, show y.blinkPhase k = v.blinkPhase k from congrArg (readAt · k none) hblink]
  show _ = if (!y.power.asleep && _ && _) = true then _ else _
  congr 1
  cases v.blinkPhase k <;> rfl

end Sys2Proof.EventEnds
end

section
/-! SUPPORT. SET (R172): the value stored, and what its owner does in the same event (R44, R111, R148, R182, R191). -/

namespace Sys2Proof.Parameters

open Sys2Proof.Machine Sys2Proof.EventMoves Sys2Proof.EventFrames Sys2Proof.VoiceFrames Sys2Proof.SpeechKept Sys2Proof.Words
  Sys2Proof.Resets Sys2Proof.AudioAndSet Sys2Proof.Echoes Sys2Proof.Interruptions Sys2Proof.InstantEnds Sys2Proof.InstantVoices
  Sys2Proof.EchoInstants Sys2Proof.EventEnds Sys2Proof.InstantClauses Sys2Proof.ArgBytes

/-! ### The value stored -/

/-- A parameter id of the table with a value no rule refuses (R84, R172, R182). -/
structure Settable (id x : Nat) : Prop where
  low : 1 ≤ id
  high : id ≤ 23
  value : x < 2 ^ 32
  defined : ¬ ((id = 12 ∧ 1 < x) ∨ (18 ≤ id ∧ id ≤ 20 ∧ 8 < x % 16))

theorem lampSettingOf_value : ∀ x < 64, x % 16 ≤ 8 → (lampSettingOf x).value = x := by decide

/-- The value used is one the parameter's place holds. -/
theorem paramUsed_storable (v : Vks) {id x : Nat} (h : Settable id x) : (id = 12 → paramUsed v id x ≤ 1)
    ∧ (id = 16 → paramUsed v id x < 2 ^ 17)
    ∧ (18 ≤ id → id ≤ 20 → (lampSettingOf (paramUsed v id x)).value = paramUsed v id x) := by
  refine ⟨?_, ?_, fun hlow hhigh => ?_⟩
  · rintro rfl
    exact Nat.le_of_not_lt fun hx => h.defined (.inl ⟨rfl, hx⟩)
  · rintro rfl
    exact Nat.mod_lt _ (by decide)
  · have hused : paramUsed v id x = x % 64 := by
      obtain rfl | rfl | rfl : id = 18 ∨ id = 19 ∨ id = 20 := by omega
      · rfl
      · rfl
      · rfl
    have hmode : ¬ 8 < x % 16 := fun hx => h.defined (.inr ⟨hlow, hhigh, hx⟩)
    rw [hused]
    exact lampSettingOf_value _ (Nat.mod_lt _ (by decide)) (by omega)

/-- A SET's value is read back. -/
theorem value_put_same (p : Params) {id y : Nat} (hlow : 1 ≤ id) (hhigh : id ≤ 23) (hlamps : p.lamps.length = 3)
    (hroute : id = 12 → y ≤ 1) (hmask : id = 16 → y < 2 ^ 17)
    (hlamp : 18 ≤ id → id ≤ 20 → (lampSettingOf y).value = y) : (p.put y id).value id = y := by
  by_cases hkind : id = 12 ∨ id = 16 ∨ 18 ≤ id ∧ id ≤ 20
  · have hwritten (k : Nat) (hk : k < 3) (hfits : (lampSettingOf y).value = y) :
        (readAt (writeAt p.lamps k (lampSettingOf y)) k ⟨.off, false, false⟩).value = y := by
      rw [Tables.readAt_writeAt_same _ _ _ _ (by omega), hfits]
    rcases hkind with rfl | rfl | ⟨hfirst, hlast⟩
    · show (if decide (y = 1) = true then 1 else 0) = y
      have := hroute rfl
      split
      · next h => exact (of_decide_eq_true h).symm
      · next h =>
        have hne : y ≠ 1 := fun k => h (decide_eq_true k)
        omega
    · exact (BitVec.toNat_ofNat y 17).trans (Nat.mod_eq_of_lt (hmask rfl))
    · obtain rfl | rfl | rfl : id = 18 ∨ id = 19 ∨ id = 20 := by omega
      · exact hwritten 0 (by decide) (hlamp hfirst hlast)
      · exact hwritten 1 (by decide) (hlamp hfirst hlast)
      · exact hwritten 2 (by decide) (hlamp hfirst hlast)
  · interval_cases id
    all_goals simp only [Params.put, Params.value]
    all_goals omega

/-- A SET keeps every other parameter. -/
theorem value_put_other (p : Params) (id j y : Nat) : j = id ∨ (p.put y id).value j = p.value j := by
  have hlamp (k l : Nat) (hne : k ≠ l) (z : LampSetting) : (readAt (writeAt p.lamps k z) l ⟨.off, false, false⟩).value
      = (readAt p.lamps l ⟨.off, false, false⟩).value := congrArg LampSetting.value (Tables.readAt_writeAt_other _ _ _ _ _ hne)
  unfold Params.put
  split
  all_goals
    unfold Params.value
    split <;> simp only [eq_self, true_or, or_true, hlamp 0 1 (by decide), hlamp 0 2 (by decide), hlamp 1 0 (by decide),
      hlamp 1 2 (by decide), hlamp 2 0 (by decide), hlamp 2 1 (by decide)]

/-! ### The owner's effect -/

/-- The part with the value used in its place. -/
def stored (id used : Nat) (v : Vks) : Vks := { v with params := v.params.put used id }

theorem markChanged_untouched (old : Nat) (v : Vks) : Untouched (markChanged old v) v := by
  unfold markChanged
  repeat' split
  · exact lowCompare_untouched v
  · exact .refl v
  · exact testPlayout_untouched v

theorem paramChanged_untouched (old : Vks) {id : Nat} (h : id ≠ 10) (v : Vks) : Untouched (paramChanged old id v) v := by
  unfold paramChanged
  split
  · exact markChanged_untouched _ v
  · exact absurd rfl h
  · constructor <;> rfl
  · constructor <;> rfl
  · constructor <;> rfl
  · constructor <;> rfl
  · constructor <;> rfl
  · exact .refl v

theorem setParam_outside (id used : Nat) (v : Vks) : OutsideAttempt (setParam id used v) (stored id used v) := by
  refine (settle_untouched _).outside.trans ?_
  by_cases h : id = 10
  · subst h
    exact takeOverEcho_outside _ _
  · exact (paramChanged_untouched v h _).outside

theorem setParam_untouched {id : Nat} (h : id ≠ 10) (used : Nat) (v : Vks) : Untouched (setParam id used v) (stored id used v) :=
  (settle_untouched _).trans (paramChanged_untouched v h _)

/-! ### The slot -/

/-- The slot's argument (R172). -/
def setForm (id x : Nat) : List Byte := leBytes 1 id ++ leBytes 4 x

theorem setForm_id {id : Nat} (x : Nat) (hid : id < 256) : (setForm id x).length = 5 ∧ byteAt (setForm id x) 0 = id :=
  ⟨by simp [setForm], by rw [setForm, byteAt_one_front, Nat.mod_eq_of_lt hid]⟩

theorem setForm_value (id : Nat) {x : Nat} (hx : x < 2 ^ 32) : fieldAt (setForm id x) 1 4 = x := by
  rw [setForm, fieldAt_one_behind, fieldAt_only]
  exact Nat.mod_eq_of_lt hx

/-- The mark of a change, as section 8.6 states it. -/
theorem paramMarked_eq {id : Nat} (x used : Nat) :
    flagByte (paramMarked id x used) = if used = x ∨ id = 18 ∨ id = 19 ∨ id = 20 then 0#8 else 1#8 := by
  have hlamp : (18 ≤ id ∧ id ≤ 20) ↔ (id = 18 ∨ id = 19 ∨ id = 20) := by omega
  simp only [← hlamp]
  by_cases hused : used = x
  · simp [paramMarked, flagByte, hused]
  · by_cases hid : 18 ≤ id ∧ id ≤ 20
    · simp [paramMarked, flagByte, hid]
    · rw [if_neg fun k => k.elim hused hid]
      have hid : (decide (18 ≤ id) && decide (id ≤ 20)) = false := by simpa using hid
      simp [paramMarked, flagByte, hused, hid]

/-- R172: a SET that is taken. -/
theorem exec_set (s : State) (tag : Byte) {id x : Nat} (hawake : Awake s) (h : Settable id x) :
    exec (.set tag (leBytes 1 id ++ leBytes 4 x)) s = .next (withPart s (replying 0x05#8 tag .ok
      (leBytes 3 (paramUsed s.vks id x)
        ++ [if paramUsed s.vks id x = x ∨ id = 18 ∨ id = 19 ∨ id = 20 then 0#8 else 1#8]) []
      (setParam id (paramUsed s.vks id x) s.vks))) := by
  obtain ⟨hlow, hhigh, hvalue, hdefined⟩ := h
  obtain ⟨hlen, hid⟩ := setForm_id x (show id < 256 by omega)
  have hx := setForm_value id hvalue
  refine exec_answered _ 0x05#8 tag _ handleSet s _ .ok _ _ [] rfl hawake (show (setForm id x).length ≤ 58 by omega) ?_
    (padTo_of_length (by simp))
  rw [handleSet, ← paramMarked_eq, show leBytes 1 id ++ leBytes 4 x = setForm id x from rfl]
  simp only [hlen, hid, hx]
  refine (checked_pass _ _ _ ?_).trans rfl
  have hknown : badParamId id = false := by simp [badParamId]; omega
  have htaken : paramUndefined id x = false := by
    rw [Bool.eq_false_iff]
    intro k
    simp only [paramUndefined, Bool.or_eq_true, Bool.and_eq_true, decide_eq_true_eq] at k
    exact hdefined (k.imp (fun k => k) fun ⟨⟨hfirst, hlast⟩, hmode⟩ => ⟨hfirst, hlast, hmode⟩)
  simp [hknown, htaken]

/-- R171, R172: a SET that is refused. -/
theorem exec_set_refused (s : State) (tag : Byte) {id x : Nat} (hawake : Awake s) (hid : id < 256) (n : Nat)
    (h : firstCause [(false, 1), (badParamId id, 16), (paramUndefined id (fieldAt (setForm id x) 1 4), 7)] = some n) :
    exec (.set tag (leBytes 1 id ++ leBytes 4 x)) s
      = .next (withPart s (replying 0x05#8 tag .badArgs [BitVec.ofNat 8 n, 0#8, 0#8, 0#8] [] s.vks)) := by
  obtain ⟨hlen, hread⟩ := setForm_id x hid
  refine Stores.exec_badArgs s 0x05#8 tag _ _ handleSet n rfl hawake (show (setForm id x).length ≤ 58 by omega)
    (checked_badArgs _ _ _ n ?_)
  simp only [show leBytes 1 id ++ leBytes 4 x = setForm id x from rfl, hlen, hread]
  exact h

/-! ### The cut floor (R111) -/

/-- R111: a playing echo whose age the new floor does not exceed is cut where the line admits the waiting one. -/
theorem floor_takes {v : Vks} {p w : Utterance} (hp : v.reader.echoVoice.utterance = some p) (hline : v.sched.echoLine = some w)
    (hplaying : v.reader.echoVoice.state = .playing) :
    let t := settle (takeOverEcho (floorPassed v) v)
    let passed := v.params.echoCutFloor * 16 ≤ p.playSamples
      ∧ (v.reader.store = .usable ∨ v.reader.store = .unusable ∨ ∃ k : Tone, w.items = [.tone k])
    (passed → t.sched.echoLine = none ∧ t.reader.echoVoice.utterance = some (begun w) ∧ t.attempt.ctx = { v.attempt.ctx with
        outstanding := v.attempt.ctx.outstanding.filter (fun y => y ≠ p.id) })
    ∧ (¬ passed → t.sched.echoLine = some w ∧ t.reader.echoVoice.utterance = some p ∧ t.attempt.ctx = v.attempt.ctx) := by
  intro t passed
  have hpassed : (floorPassed v = true ∧ admitsEcho v w = true) ↔ passed := by
    rw [admitsEcho_iff, floorPassed, decide_eq_true_eq, cutFloor, echoAge_of_utterance (w := v) hp]
  have hctx : t.attempt.ctx = (takeOverEcho (floorPassed v) v).attempt.ctx := (settle_untouched _).ctx
  have halone : ((takeOverEcho (floorPassed v) v).voice .echo).state ≠ .idle → EchoAlone t (takeOverEcho (floorPassed v) v) :=
    settle_alone
  generalize t = t at *
  refine ⟨fun h => ?_, fun h => ?_⟩
  · obtain ⟨hfloor, hadmits⟩ := hpassed.mpr h
    have hcut : (cutPlayingEcho v).attempt.ctx = { v.attempt.ctx with
        outstanding := v.attempt.ctx.outstanding.filter (fun y => y ≠ p.id) } := by
      rw [cutPlayingEcho, hp]
      rfl
    rw [hfloor, takeOverEcho_takes hline hplaying hadmits] at halone hctx
    obtain ⟨hbusy, hspoken⟩ := startVoice_speaks .echo w (setEchoLine none (cutPlayingEcho v))
    have hnone := congrArg Scheduler.echoLine (startVoice_goesOn .echo w (setEchoLine none (cutPlayingEcho v))).sched
    have hstart := (startVoice_untouched .echo w (setEchoLine none (cutPlayingEcho v))).ctx
    obtain ⟨hgo, hkept⟩ := halone hbusy
    exact ⟨hkept.trans hnone, (goesOn_utterance hgo).trans hspoken, hctx.trans (hstart.trans hcut)⟩
  · rw [takeOverEcho_refused _ hline fun k => h (hpassed.mp k)] at halone hctx
    obtain ⟨hgo, hkept⟩ := halone (by rw [show (v.voice .echo).state = .playing from hplaying]; decide)
    exact ⟨hkept.trans hline, (goesOn_utterance hgo).trans hp, hctx⟩

/-! ### The mark (R148, R149) -/

theorem lowCompare_lowArmed (v : Vks) (h : v.mixer.samples.length < v.params.playoutMark) :
    (lowCompare v).mixer.lowArmed = (v.mixer.lowArmed && v.mixer.endMark) := by
  rw [lowCompare, if_pos h]
  cases harmed : v.mixer.lowArmed <;> cases hmark : v.mixer.endMark <;> simp [harmed]

/-- R149: a PLAYING buffer is compared with a mark raised above its fill. -/
theorem mark_playing {v : Vks} {old : Nat} (hplaying : v.mixer.playing = true) :
    let t := settle (markChanged old v)
    let compared := old < v.params.playoutMark ∧ v.mixer.samples.length < v.params.playoutMark
    t.mixer.playing = true ∧ (¬ compared → t.mixer.lowArmed = v.mixer.lowArmed)
    ∧ (compared → t.mixer.lowArmed = (v.mixer.lowArmed && v.mixer.endMark)
      ∧ (v.mixer.lowArmed = true → v.mixer.endMark = false → v.notices.queue.length < 16 →
        ∃ later, t.notices.queue = v.notices.queue ++ .audioLow v.mixer.samples.length v.params.playoutMark :: later)) := by
  intro t compared
  have hsteady : AmpSteady t (markChanged old v) := settle_ampSteady _
  have hjoin : NoticesJoin t (markChanged old v) := settle_join _
  generalize t = t at *
  rw [markChanged, if_pos hplaying] at hsteady hjoin
  by_cases h : compared
  · rw [if_pos h] at hsteady hjoin
    obtain ⟨hplays, hlow⟩ := hsteady.playing ((lowCompare_playing v).trans hplaying)
    refine ⟨hplays, fun k => absurd h k, fun _ => ⟨hlow.trans (lowCompare_lowArmed v h.2), fun harmed hmark hroom => ?_⟩⟩
    rw [lowCompare_of_crossing v h.2 harmed hmark] at hjoin
    exact hjoin.raised (b := { v with mixer := { v.mixer with lowArmed := false } }) _ hroom
  · rw [if_neg h] at hsteady
    obtain ⟨hplays, hlow⟩ := hsteady.playing hplaying
    exact ⟨hplays, fun _ => hlow, fun k => absurd k h⟩

/-- R148: a STOPPED buffer is tested with the new mark. -/
theorem mark_stopped {v : Vks} {old : Nat} (hstopped : v.mixer.playing = false) :
    let t := settle (markChanged old v)
    (v.mixer.samples.length < max 1 v.params.playoutMark → t.mixer.playing = false)
    ∧ (max 1 v.params.playoutMark ≤ v.mixer.samples.length → Tested t v) := by
  intro t
  have hsteady : AmpSteady t (markChanged old v) := settle_ampSteady _
  generalize t = t at *
  rw [markChanged, if_neg (by rw [hstopped]; nofun)] at hsteady
  refine ⟨fun h => ?_, fun h => (testPlayout_tested v hstopped h).steady hsteady⟩
  have hnot : playoutReady v = false := Bool.eq_false_iff.mpr fun k => by
    have hready := ((playoutReady_iff v).mp k).2
    omega
  rw [testPlayout_of_not_ready v hnot] at hsteady
  exact (hsteady.notReady h).trans hstopped

/-! ### The owners' effects in the event of a SET -/

theorem setParam_eq (id used : Nat) (v : Vks) : setParam id used v = settle (paramChanged v id (stored id used v)) := rfl

/-- R44: INACTIVITY. -/
theorem setParam_inactivity (used : Nat) (v : Vks) : (setParam 13 used v).attempt.inactivity
    = if v.attempt.state = .listening ∧ v.attempt.ctx.outstanding = [] ∧ used ≠ 0 then some (used * 1000) else none := by
  have h := settle_inactivity (stopInactivity (stored 13 used v))
  rw [setParam_eq, show paramChanged v 13 (stored 13 used v) = stopInactivity (stored 13 used v) from rfl]
  generalize settle (stopInactivity (stored 13 used v)) = t at *
  exact h

/-- R111: ECHO_CUT_FLOOR. -/
theorem setParam_floor (used : Nat) {v : Vks} {p w : Utterance} (hp : v.reader.echoVoice.utterance = some p)
    (hline : v.sched.echoLine = some w) (hplaying : v.reader.echoVoice.state = .playing) :
    let t := setParam 10 used v
    let passed := used * 16 ≤ p.playSamples
      ∧ (v.reader.store = .usable ∨ v.reader.store = .unusable ∨ ∃ k : Tone, w.items = [.tone k])
    (passed → t.sched.echoLine = none ∧ t.reader.echoVoice.utterance = some (begun w) ∧ t.attempt.ctx = { v.attempt.ctx with
        outstanding := v.attempt.ctx.outstanding.filter (fun y => y ≠ p.id) })
    ∧ (¬ passed → t.sched.echoLine = some w ∧ t.reader.echoVoice.utterance = some p ∧ t.attempt.ctx = v.attempt.ctx) := by
  have h := floor_takes (v := stored 10 used v) hp hline hplaying
  rw [setParam_eq, show paramChanged v 10 (stored 10 used v) = takeOverEcho (floorPassed (stored 10 used v)) (stored 10 used v) from rfl]
  generalize settle (takeOverEcho (floorPassed (stored 10 used v)) (stored 10 used v)) = t at *
  exact h

/-- R148, R149: PLAYOUT_MARK on a PLAYING buffer. -/
theorem setParam_mark_playing (used : Nat) {v : Vks} (hplaying : v.mixer.playing = true) :
    let t := setParam 9 used v
    let compared := v.params.playoutMark < used ∧ v.mixer.samples.length < used
    t.mixer.playing = true ∧ (¬ compared → t.mixer.lowArmed = v.mixer.lowArmed)
    ∧ (compared → t.mixer.lowArmed = (v.mixer.lowArmed && v.mixer.endMark)
      ∧ (v.mixer.lowArmed = true → v.mixer.endMark = false → v.notices.queue.length < 16 →
        ∃ later, t.notices.queue = v.notices.queue ++ .audioLow v.mixer.samples.length used :: later)) := by
  have h := mark_playing (v := stored 9 used v) (old := v.params.playoutMark) hplaying
  rw [setParam_eq, show paramChanged v 9 (stored 9 used v) = markChanged v.params.playoutMark (stored 9 used v) from rfl]
  generalize settle (markChanged v.params.playoutMark (stored 9 used v)) = t at *
  exact h

/-- R148: PLAYOUT_MARK on a STOPPED buffer. -/
theorem setParam_mark_stopped (used : Nat) {v : Vks} (hstopped : v.mixer.playing = false) :
    (v.mixer.samples.length < max 1 used → (setParam 9 used v).mixer.playing = false)
    ∧ (max 1 used ≤ v.mixer.samples.length → Tested (setParam 9 used v) (stored 9 used v)) := by
  have h := mark_stopped (v := stored 9 used v) (old := v.params.playoutMark) hstopped
  rw [setParam_eq, show paramChanged v 9 (stored 9 used v) = markChanged v.params.playoutMark (stored 9 used v) from rfl]
  generalize settle (markChanged v.params.playoutMark (stored 9 used v)) = t at *
  exact h

/-- R191: SLEEP_AFTER. -/
theorem setParam_sleepAfter (used : Nat) {v : Vks} (hawake : v.power.asleep = false) :
    let t := setParam 23 used v
    t.power.sleepTimer = if used ≠ 0 ∧ t.attempt.state = .idle ∧ t.reader.mainVoice.state = .idle ∧ t.reader.echoVoice.state = .idle
        ∧ t.sched.queue = [] ∧ t.sched.echoLine = none ∧ t.reader.engine = .idle ∧ t.mixer.playing = false ∧ t.port.txn = none
      then some (used * 1000) else none := by
  intro t
  have htimer : t.power.sleepTimer = if sleepTimerRuns t then some (t.params.sleepAfter * 1000) else none := by
    have h := settle_sleepTimer (restartSleepTimer (stored 23 used v))
    rw [show settle (restartSleepTimer (stored 23 used v)) = t from rfl] at h
    exact h
  have hframe : OutsideAttempt t (stored 23 used v) := setParam_outside 23 used v
  have hset : t.params.sleepAfter = used := congrArg Params.sleepAfter hframe.params
  have hon : t.power.asleep = false := hframe.asleep.trans hawake
  rw [htimer]
  simp only [sleepTimerRuns_iff, hset, hon, true_and, and_assoc]

/-- Settles O10: the value stored with its frame, each owner's effect, and the refusals. -/
theorem setStoresTheValueUsed : Obligations.SetStoresTheValueUsed := by
  intro s tag hawake hsized undefinedValue
  refine ⟨fun id x hlow hhigh hx hdefined => ?stored, fun x hx => ?effects, fun id x hlow hhigh hx hundefined => ?undefined,
    fun id x hid hbyte => ?unknown, fun arg hlen hfits => ?length⟩
  case stored =>
    have h : Settable id x := ⟨hlow, hhigh, hx, hdefined⟩
    obtain ⟨hroute, hmask, hlamp⟩ := paramUsed_storable s.vks h
    have hrow := exec_set s tag hawake h
    have hout := setParam_outside id (paramUsed s.vks id x) s.vks
    have hframe := fun hne : id ≠ 10 => setParam_untouched hne (paramUsed s.vks id x) s.vks
    have hparams : (setParam id (paramUsed s.vks id x) s.vks).params = s.vks.params.put (paramUsed s.vks id x) id := hout.params
    generalize setParam id (paramUsed s.vks id x) s.vks = t at *
    rw [stored, ← hparams] at hout
    refine ⟨_, hrow, rfl, rfl, ?_, fun j hj => ?_, replying_outside _ _ _ _ _ hout, fun hne => ?_⟩
    · show t.params.value id = _
      rw [hparams]
      exact value_put_same s.vks.params hlow hhigh hsized.lamps hroute hmask hlamp
    · show t.params.value j = _
      rw [hparams]
      exact (value_put_other s.vks.params id j _).resolve_left hj
    · have hkept := hframe hne
      rw [stored, ← hparams] at hkept
      exact replying_untouched _ _ _ _ _ hkept
  case effects =>
    intro used fill did
    have hrow (id : Nat) (h : id = 9 ∨ id = 10 ∨ id = 13 ∨ id = 23) := exec_set (id := id) (x := x) s tag hawake
      ⟨by omega, by omega, hx, by omega⟩
    refine ⟨?inactivity, ?floor, ?mark, ?sleep⟩
    case inactivity =>
      have h := setParam_inactivity (paramUsed s.vks 13 x) s.vks
      have hexec := hrow 13 (by decide)
      generalize setParam 13 (paramUsed s.vks 13 x) s.vks = t at *
      exact ⟨_, hexec, h⟩
    case floor =>
      intro p w hp hline hplaying passed
      have h := setParam_floor (paramUsed s.vks 10 x) hp hline hplaying
      have hexec := hrow 10 (by decide)
      generalize setParam 10 (paramUsed s.vks 10 x) s.vks = t at *
      exact ⟨_, hexec, h⟩
    case mark =>
      have hexec := hrow 9 (by decide)
      have hplays := setParam_mark_playing (paramUsed s.vks 9 x) (v := s.vks)
      have hstops := setParam_mark_stopped (paramUsed s.vks 9 x) (v := s.vks)
      generalize setParam 9 (paramUsed s.vks 9 x) s.vks = t at *
      refine ⟨_, hexec, fun hplaying => hplays hplaying, fun hstopped => ?_⟩
      obtain ⟨hshort, hready⟩ := hstops hstopped
      have hfilled : (1 ≤ fill ∧ used 9 ≤ fill) ↔ max 1 (used 9) ≤ fill := (Nat.max_le).symm
      refine ⟨fun h => hshort (Nat.lt_of_not_le fun k => h (hfilled.mpr k)), fun h => (hready (hfilled.mp h)).on,
        fun h hwarming => ((hready (hfilled.mp h)).warming hwarming).1, fun h => (hready (hfilled.mp h)).off,
        fun h => (hready (hfilled.mp h)).short⟩
    case sleep =>
      have h := setParam_sleepAfter (paramUsed s.vks 23 x) (v := s.vks) hawake
      have hexec := hrow 23 (by decide)
      generalize setParam 23 (paramUsed s.vks 23 x) s.vks = t at *
      exact ⟨_, hexec, h⟩
  case undefined =>
    refine exec_set_refused s tag hawake (by omega) 7 ?_
    have hknown : badParamId id = false := by simp [badParamId]; omega
    have hbad : paramUndefined id x = true := by
      simp only [paramUndefined, Bool.or_eq_true, Bool.and_eq_true, decide_eq_true_eq]
      exact hundefined.imp (fun h => h) fun ⟨h1, h2, h3⟩ => ⟨⟨h1, h2⟩, h3⟩
    simp [firstCause, hknown, setForm_value id hx, hbad]
  case unknown =>
    have hbad : badParamId id = true := by simp [badParamId]; omega
    exact exec_set_refused s tag hawake hbyte 16 (by simp [firstCause, hbad])
  case length =>
    exact Stores.exec_badArgs s 0x05#8 tag _ _ handleSet 1 rfl hawake hfits (checked_badArgs _ _ _ 1 (by simp [firstCause, hlen]))

end Sys2Proof.Parameters
end

section
/-! SUPPORT. The lamps, the lamp and blink timers, AMP_EN and ATTN (R181 to R185). -/

namespace Sys2Proof.Lamps

open Sys2Proof.Machine Sys2Proof.EventMoves Sys2Proof.EventFrames Sys2Proof.EventEnds Sys2Proof.Parameters

/-! ### The lamps (R182, R184) -/

/-- The condition of a lamp mode (R182), in the terms of the part. -/
def LampHolds (v : Vks) : LampMode → Prop
  | .off => False
  | .on => True
  | .listening => v.attempt.state = .listening
  | .speaking => v.reader.mainVoice.state = .playing ∨ v.reader.echoVoice.state = .playing
  | .correct => v.notices.correct ≠ none
  | .wrong => v.notices.wrong ≠ none
  | .hint => (v.attempt.state = .prompting ∨ v.attempt.state = .listening ∨ v.attempt.state = .responding)
      ∧ 0 < v.attempt.ctx.hintStage
  | .store => v.reader.store = .claimed
  | .attn => v.notices.attn = true

theorem isOpen_iff (st : AttemptState) : st.isOpen = true ↔ st = .prompting ∨ st = .listening ∨ st = .responding := by
  cases st <;> simp [AttemptState.isOpen]

theorem lampCondition_iff (v : Vks) (m : LampMode) : v.lampCondition m = true ↔ LampHolds v m := by
  cases m with
  | off => exact iff_of_false nofun id
  | on => exact iff_of_true rfl trivial
  | listening => exact decide_eq_true_iff
  | speaking => exact Instants.voicesActive_iff v
  | correct => exact Option.isSome_iff_ne_none
  | wrong => exact Option.isSome_iff_ne_none
  | hint => exact (Bool.and_eq_true _ _).to_iff.trans (and_congr (isOpen_iff _) decide_eq_true_iff)
  | store => exact decide_eq_true_iff
  | attn => exact .rfl

theorem lamp_of_getElem? {v : Vks} {k : Nat} {l : LampSetting} (h : v.params.lamps[k]? = some l) : v.lamp k = l := by
  rw [Vks.lamp, readAt, List.getD_eq_getElem?_getD, h]
  rfl

/-- R184: a lamp that is not dark for SLEEP shows its plain result, reversed by invert. -/
theorem lampLit_awake {v : Vks} {k : Nat} {l : LampSetting} (hawake : v.power.asleep = false) (hl : v.params.lamps[k]? = some l) :
    let plain := LampHolds v l.mode ∧ (l.blink = true → (v.notices.blink.getD k none).map BlinkPhase.lit = some true)
    (l.invert = false → (lampLit v k = true ↔ plain)) ∧ (l.invert = true → (lampLit v k = true ↔ ¬ plain)) := by
  intro plain
  have hphase : (if l.blink then (match v.blinkPhase k with | some p => p.lit | none => false) else true) = true
      ↔ (l.blink = true → (v.notices.blink.getD k none).map BlinkPhase.lit = some true) := by
    rw [Vks.blinkPhase, readAt]
    cases l.blink with
    | false => simp
    | true => cases v.notices.blink.getD k none <;> simp
  have hplain : (v.lampCondition l.mode
      && (if l.blink then (match v.blinkPhase k with | some p => p.lit | none => false) else true)) = true ↔ plain :=
    (Bool.and_eq_true _ _).to_iff.trans (and_congr (lampCondition_iff v l.mode) hphase)
  have hlit : lampLit v k = ((v.lampCondition l.mode
      && (if l.blink then (match v.blinkPhase k with | some p => p.lit | none => false) else true)) != l.invert) := by
    rw [lampLit, hawake, lamp_of_getElem? hl]
    rfl
  rw [hlit, ← hplain]
  generalize (v.lampCondition l.mode && _) = shown
  constructor
  · rintro hinvert
    cases shown <;> simp [hinvert]
  · rintro hinvert
    cases shown <;> simp [hinvert]

/-- R184: the blink phases at the end of an event. -/
theorem settle_blinks {v : Vks} {k : Nat} {l : LampSetting} (hawake : v.power.asleep = false) (hk : k < 3)
    (hl : v.params.lamps[k]? = some l) :
    (l.blink = true → LampHolds (settle v) l.mode →
      (settle v).notices.blink.getD k none = some ((v.notices.blink.getD k none).getD ⟨true, 500⟩))
    ∧ ((l.blink = false ∨ ¬ LampHolds (settle v) l.mode) → (settle v).notices.blink.getD k none = none) := by
  have hblink := settle_blink v hk
  have hframe := settle_untouched v
  have hlamp : (settle v).lamp k = l := lamp_of_getElem? (by rw [hframe.params]; exact hl)
  have hon : (settle v).power.asleep = false := hframe.asleep.trans hawake
  rw [hlamp, hon, Vks.blinkPhase, Vks.blinkPhase, readAt, readAt] at hblink
  generalize settle v = t at *
  refine ⟨fun hset hholds => hblink.trans (if_pos ?_), fun hnot => hblink.trans (if_neg ?_)⟩
  · rw [hset, (lampCondition_iff t l.mode).mpr hholds]
    rfl
  · rw [Bool.not_false, Bool.true_and, Bool.and_eq_true]
    rintro ⟨hset, hholds⟩
    exact hnot.elim (fun h => by rw [h] at hset; cases hset) fun h => h ((lampCondition_iff t l.mode).mp hholds)

/-- R182: the event of a SET that begins a phase afresh. -/
theorem settle_freshBlink {v : Vks} {k : Nat} {l : LampSetting} (hawake : v.power.asleep = false) (hk : k < 3)
    (hl : (settle (freshBlink k v)).params.lamps[k]? = some l) :
    (l.blink = true → LampHolds (settle (freshBlink k v)) l.mode →
      (settle (freshBlink k v)).notices.blink.getD k none = some ⟨true, 500⟩)
    ∧ ((l.blink = false ∨ ¬ LampHolds (settle (freshBlink k v)) l.mode) →
      (settle (freshBlink k v)).notices.blink.getD k none = none) := by
  have hnone : (freshBlink k v).notices.blink.getD k none = none := by
    rw [freshBlink, writeAt, List.getD_eq_getElem?_getD, List.getElem?_set_self']
    cases v.notices.blink[k]? <;> rfl
  rw [(settle_untouched _).params] at hl
  have h := settle_blinks (v := freshBlink k v) hawake hk hl
  rw [hnone] at h
  exact h

/-- The lamps' parameters are 18 to 20 (R182). -/
theorem setParam_lamp_eq (v : Vks) {k : Nat} (used : Nat) (hk : k < 3) :
    setParam (18 + k) used v = settle (freshBlink k (stored (18 + k) used v)) := by
  rw [setParam_eq]
  congr 1
  obtain rfl | rfl | rfl : k = 0 ∨ k = 1 ∨ k = 2 := by omega
  · rfl
  · rfl
  · rfl

/-! ### ATTN through a scan (R181) -/

/-- What the changes a scan takes leave to ATTN: its reasons only grow. -/
structure ReasonsGrow (a b : Vks) : Prop where
  txn : a.port.txn = b.port.txn
  attn : a.notices.attn = b.notices.attn ∧ a.notices.attnGap = b.notices.attnGap
  params : a.params = b.params
  notices : NoticesJoin a b
  reports : ∃ later, a.keys.reports = b.keys.reports ++ later

theorem ReasonsGrow.trans {a b c : Vks} (h : ReasonsGrow a b) (k : ReasonsGrow b c) : ReasonsGrow a c where
  txn := h.txn.trans k.txn
  attn := ⟨h.attn.1.trans k.attn.1, h.attn.2.trans k.attn.2⟩
  params := h.params.trans k.params
  notices := h.notices.trans k.notices
  reports := by
    obtain ⟨x, hx⟩ := h.reports
    obtain ⟨y, hy⟩ := k.reports
    exact ⟨y ++ x, by rw [hx, hy, List.append_assoc]⟩

theorem reasonsGrow_keys (u : KeyUnit) (v : Vks) (h : u.reports = v.keys.reports) : ReasonsGrow { v with keys := u } v :=
  ⟨rfl, ⟨rfl, rfl⟩, rfl, ⟨⟨[], (List.append_nil _).symm⟩, id⟩, ⟨[], by rw [List.append_nil]; exact h⟩⟩

theorem ReasonsGrow.refl (v : Vks) : ReasonsGrow v v := reasonsGrow_keys v.keys v rfl

theorem setHeld_grows (l : List HeldKey) (v : Vks) : ReasonsGrow (setHeld l v) v := reasonsGrow_keys _ v rfl

theorem setStanding_grows (p : Nat) (st : Option Standing) (v : Vks) : ReasonsGrow (setStanding p st v) v := reasonsGrow_keys _ v rfl

theorem setGhostBlock_grows (b : Bool) (v : Vks) : ReasonsGrow (setGhostBlock b v) v := reasonsGrow_keys _ v rfl

theorem restartSleepTimer_grows (v : Vks) : ReasonsGrow (restartSleepTimer v) v :=
  ⟨rfl, ⟨rfl, rfl⟩, rfl, ⟨⟨[], (List.append_nil _).symm⟩, id⟩, ⟨[], (List.append_nil _).symm⟩⟩

theorem addReport_grows (r : KeyReport) (v : Vks) : ReasonsGrow (addReport r v) v := by
  unfold addReport
  split
  · exact ⟨rfl, ⟨rfl, rfl⟩, rfl, ⟨⟨[], (List.append_nil _).symm⟩, id⟩, ⟨[r], rfl⟩⟩
  · exact ⟨rfl, ⟨rfl, rfl⟩, rfl, ⟨⟨[], (List.append_nil _).symm⟩, id⟩, ⟨[], (List.append_nil _).symm⟩⟩

theorem handlePress_grows (cls : KeyClass) (c : Nat) (v : Vks) : ReasonsGrow (handlePress cls c v).1 v := by
  have hout := handlePress_outside cls c v
  exact ⟨hout.txn, moves_attn (handlePress_moves cls c v), hout.params, moves_join (l := 0) (handlePress_moves cls c v),
    ⟨[], by rw [hout.keys, List.append_nil]⟩⟩

theorem takeRelease_grows (v : Vks) (p : Nat) : ReasonsGrow (takeRelease v p) v := by
  have h : ReasonsGrow (restartSleepTimer (setStanding p none v)) v :=
    (restartSleepTimer_grows _).trans (setStanding_grows p none v)
  unfold takeRelease
  extract_lets v1 v2
  have h2 : ReasonsGrow v2 v := (setHeld_grows _ v1).trans h
  repeat' split
  · exact (addReport_grows _ _).trans h2
  · exact h2
  · exact h
  · exact h
  · exact (setGhostBlock_grows _ v1).trans h
  · exact h

theorem routePress_grows (p : Nat) (e : KeymapEntry) (v : Vks) : ReasonsGrow (routePress p e v) v := by
  unfold routePress
  split
  · exact .refl v
  · extract_lets r v1
    have hr : ReasonsGrow r.1 v := by
      unfold r
      split
      · exact handlePress_grows _ _ v
      · exact .refl v
    exact (addReport_grows _ _).trans ((setHeld_grows _ r.1).trans hr)

theorem takePress_grows (v : Vks) (p : Nat) : ReasonsGrow (takePress v p) v := by
  have hstanding (st : Option Standing) : ReasonsGrow (setStanding p st (restartSleepTimer v)) v :=
    (setStanding_grows p st _).trans (restartSleepTimer_grows v)
  unfold takePress
  extract_lets v0 v1 e v1'
  repeat' split
  · exact hstanding _
  · exact (addReport_grows _ _).trans ((setGhostBlock_grows _ v1).trans (hstanding _))
  · exact hstanding _
  · exact hstanding _
  · exact (routePress_grows p e _).trans ((setHeld_grows _ v1').trans (hstanding _))

/-- ATTN that follows its reasons with no gap running. -/
structure AttnFollows (v : Vks) : Prop where
  free : v.port.txn = none
  noGap : v.notices.attnGap = none
  reasoned : v.notices.attn = true → v.attnReason = true

theorem attnReason_grows {a b : Vks} (hparams : a.params = b.params) (hjoin : NoticesJoin a b)
    (hreports : ∃ later, a.keys.reports = b.keys.reports ++ later) (h : b.attnReason = true) : a.attnReason = true := by
  rw [attnReason_iff] at h ⊢
  obtain ⟨later, hlater⟩ := hjoin.joined
  obtain ⟨more, hmore⟩ := hreports
  rw [hparams, hlater, hmore]
  exact h.imp (fun ⟨hsome, hmask⟩ => ⟨fun k => hsome (List.append_eq_nil_iff.mp k).1, hmask⟩)
    fun ⟨n, hn, hmask⟩ => ⟨n, List.mem_append_left _ hn, hmask⟩

theorem AttnFollows.grow {a b : Vks} (h : ReasonsGrow a b) (k : AttnFollows b) : AttnFollows a where
  free := h.txn.trans k.free
  noGap := h.attn.2.trans k.noGap
  reasoned ha := attnReason_grows h.params h.notices h.reports (k.reasoned (h.attn.1.symm.trans ha))

/-- An event's end behind reasons that only grew: ATTN is up where there is one. -/
theorem AttnFollows.settle {v : Vks} (h : AttnFollows v) : AttnFollows (settle v)
    ∧ ((Machine.settle v).attnReason = true → (Machine.settle v).notices.attn = true) := by
  have hsettled := settle_attn v
  have hframe := settle_untouched v
  have hgrows : v.attnReason = true → (Machine.settle v).attnReason = true :=
    attnReason_grows hframe.params (settle_join v) ⟨[], by rw [hframe.keys, List.append_nil]⟩
  have hfree : (Machine.settle v).port.txn = none := hframe.txn.trans h.free
  generalize Machine.settle v = t at *
  cases hreason : t.attnReason with
  | true =>
    obtain ⟨hgap, hattn⟩ := hsettled.rises h.free hreason
    refine ⟨⟨hfree, hgap.trans h.noGap, fun _ => hreason⟩, fun _ => ?_⟩
    rw [hattn, h.noGap]
    exact Bool.or_true _
  | false =>
    obtain ⟨hattn, hgap⟩ := hsettled.falls h.free hreason
    have hdown : v.notices.attn = false := Bool.eq_false_iff.mpr fun k => by
      rw [hgrows (h.reasoned k)] at hreason
      cases hreason
    rw [hdown, if_neg (by decide)] at hgap
    exact ⟨⟨hfree, hgap.trans h.noGap, fun k => by rw [hattn] at k; cases k⟩, nofun⟩

theorem foldl_attnFollows (take : Vks → Nat → Vks) (hgrows : ∀ v p, ReasonsGrow (take v p) v) (ps : List Nat) {v : Vks}
    (h : AttnFollows v) : AttnFollows (ps.foldl (takeWhole take) v) := by
  induction ps generalizing v with
  | nil => exact h
  | cons p ps ih => exact ih (h.grow (hgrows v p)).settle.1

/-- R181: after a scan of a part with LNK_SEL released and no gap, ATTN is up where there is a reason. -/
theorem keyScan_attn (raw : Matrix) {v : Vks} (hawake : v.power.asleep = false) (hfree : v.port.txn = none)
    (hdown : v.notices.attn = false) (hgap : v.notices.attnGap = none) (hreason : (keyScan raw v).attnReason = true) :
    (keyScan raw v).notices.attn = true := by
  have hstart : AttnFollows (debounceAll raw (passTime 1 v)) := by
    refine ⟨hfree, ?_, fun k => ?_⟩
    · show countDown 1 v.notices.attnGap = none
      rw [hgap]
      rfl
    · cases hdown.symm.trans k
  have hscan : keyScan raw v = settle ((changedAt (passTime 1 v) raw .pressed).foldl (takeWhole takePress)
      ((changedAt (passTime 1 v) raw .released).foldl (takeWhole takeRelease) (debounceAll raw (passTime 1 v)))) :=
    if_neg (by rw [hawake]; decide)
  rw [hscan] at hreason ⊢
  exact (foldl_attnFollows _ takePress_grows _ (foldl_attnFollows _ takeRelease_grows _ hstart)).settle.2 hreason

end Sys2Proof.Lamps
end

section
/-! SUPPORT. The lamps, AMP_EN and ATTN, and their timers, put together (R181 to R185). -/

namespace Sys2Proof.LampTimers

open Sys2Proof.Machine Sys2Proof.EventMoves Sys2Proof.EventFrames Sys2Proof.EventEnds Sys2Proof.Parameters Sys2Proof.Lamps
  Sys2Proof.Resets

theorem exec_idleSlot (s : State) (hawake : Awake s) : exec .idleSlot s = .next (withPart s (settle (setReplyNone s.vks))) := by
  show Host.Outcome.next (withPart s (settle (setReplyNone (wakeByLink s.vks)))) = _
  rw [wakeByLink_awake s.vks hawake]

theorem exec_lampTimerExpiry_due (s : State) {which : LampTimer} (h : lampTimer s.vks which = some 0) :
    exec (.lampTimerExpiry which) s = .next (withPart s (settle (stopLampTimer which s.vks))) :=
  congrArg (fun x => Host.Outcome.next (withPart s x)) (if_pos h)

theorem exec_lampTimerExpiry_not_due (s : State) {which : LampTimer} (h : lampTimer s.vks which ≠ some 0) :
    exec (.lampTimerExpiry which) s = .next s := congrArg (fun x => Host.Outcome.next (withPart s x)) (if_neg h)

/-- R184: a blink phase at its toggle. -/
theorem exec_lampBlinkToggle (s : State) (k : Fin 3) : (∀ p : BlinkPhase, s.vks.blinkPhase k.val = some p →
      (p.left = 0 → exec (.lampBlinkToggle k) s = .next (withPart s (setBlink k.val (some ⟨!p.lit, 500⟩) s.vks)))
      ∧ (p.left ≠ 0 → exec (.lampBlinkToggle k) s = .next s))
    ∧ (s.vks.blinkPhase k.val = none → exec (.lampBlinkToggle k) s = .next s) := by
  have hrow : exec (.lampBlinkToggle k) s = .next (withPart s (blinkToggle k s.vks)) := rfl
  refine ⟨fun p hp => ⟨fun hleft => ?_, fun hleft => ?_⟩, fun hnone => ?_⟩
  · rw [hrow, blinkToggle, hp]
    exact congrArg (fun x => Host.Outcome.next (withPart s x)) (if_pos hleft)
  · rw [hrow, blinkToggle, hp]
    exact congrArg (fun x => Host.Outcome.next (withPart s x)) (if_neg hleft)
  · rw [hrow, blinkToggle, hnone]
    rfl

/-- R181: the gap's end. -/
theorem exec_attnGapExpiry (s : State) : (s.vks.notices.attnGap = some 0 → exec .attnGapExpiry s
      = .next (withPart s (settle { s.vks with notices := { s.vks.notices with attnGap := none } })))
    ∧ (s.vks.notices.attnGap ≠ some 0 → exec .attnGapExpiry s = .next s) :=
  ⟨fun h => congrArg (fun x => Host.Outcome.next (withPart s x)) (if_pos h),
    fun h => congrArg (fun x => Host.Outcome.next (withPart s x)) (if_neg h)⟩

/-- ATTN at the end of an event, as R181 states it. -/
theorem attnSettled_follows {a b : Vks} (h : AttnSettled a b) :
    (b.port.txn ≠ none → a.notices.attn = b.notices.attn ∧ a.notices.attnGap = b.notices.attnGap)
    ∧ (b.port.txn = none → a.attnReason = true → a.notices.attnGap = b.notices.attnGap
      ∧ (b.notices.attnGap = none → a.notices.attn = true) ∧ (b.notices.attnGap ≠ none → a.notices.attn = b.notices.attn))
    ∧ (b.port.txn = none → ¬ a.attnReason = true → a.notices.attn = false
      ∧ (b.notices.attn = false → a.notices.attnGap = b.notices.attnGap)
      ∧ (b.notices.attn = true → a.notices.attnGap = if b.params.attnGap = 0 then none else some b.params.attnGap)) := by
  refine ⟨h.held, fun hfree hreason => ?_, fun hfree hreason => ?_⟩
  · obtain ⟨hgap, hattn⟩ := h.rises hfree hreason
    refine ⟨hgap, fun hnone => ?_, fun hruns => ?_⟩
    · rw [hattn, hnone]
      exact Bool.or_true _
    · rw [hattn, Option.isNone_eq_false_iff.mpr (Option.isSome_iff_ne_none.mpr hruns)]
      exact Bool.or_false _
  · obtain ⟨hattn, hgap⟩ := h.falls hfree (Bool.eq_false_iff.mpr hreason)
    refine ⟨hattn, fun hdown => ?_, fun hup => ?_⟩
    · rw [hgap, hdown]
      rfl
    · rw [hgap, hup]
      rfl

theorem ampEnable_iff (v : Vks) : ampEnable v = true ↔ v.power.amp = .warming ∨ v.power.amp = .on := by
  rw [ampEnable, decide_eq_true_eq]
  cases v.power.amp <;> decide

/-- Settles O55: the lamps, the blink phases, ATTN, AMP_EN, and each timer when due and when not. -/
theorem lampAndAttnTimersActWhenDue : Obligations.LampAndAttnTimersActWhenDue := by
  unfold Obligations.LampAndAttnTimersActWhenDue
  intro holds
  have hholds (v : Vks) (m : LampMode) : holds v m = LampHolds v m := by cases m <;> rfl
  clear_value holds
  obtain rfl : holds = LampHolds := funext fun v => funext fun m => hholds v m
  refine ⟨fun v k l hk hl => ?lit, fun s hawake => ?phases, fun s tag k x hawake hsized hk hx hmode => ?fresh, ?reasons, ampEnable_iff,
    fun s => ?timers⟩
  case lit => exact ⟨fun h => if_pos h, fun h => (lampLit_awake h hl).1, fun h => (lampLit_awake h hl).2⟩
  case phases =>
    have hrow := exec_idleSlot s hawake
    have hblinks := fun k l => settle_blinks (v := setReplyNone s.vks) (k := k) (l := l) hawake
    generalize settle (setReplyNone s.vks) = t at *
    exact ⟨_, hrow, fun k l hk hl => hblinks k l hk hl⟩
  case fresh =>
    have hrow := exec_set (id := 18 + k) (x := x) s tag hawake ⟨by omega, by omega, hx, by omega⟩
    rw [setParam_lamp_eq s.vks _ hk] at hrow
    have hblinks := fun l => settle_freshBlink (v := stored (18 + k) (paramUsed s.vks (18 + k) x) s.vks) (k := k) (l := l) hawake hk
    generalize settle (freshBlink k (stored (18 + k) (paramUsed s.vks (18 + k) x) s.vks)) = t at *
    exact ⟨_, hrow, fun l hl => hblinks l hl⟩
  case reasons =>
    intro reason follows s hawake
    have hfollows (a b : Vks) (h : AttnSettled a b) : follows b a := by
      have hreason : a.attnReason = true ↔ reason a := attnReason_iff a
      have h := attnSettled_follows h
      rw [hreason] at h
      exact h
    refine ⟨?_, fun tag x hx => ?_, fun raw hfree hdown hgap => ?_⟩
    · have hrow := exec_idleSlot s hawake
      have hsettled := hfollows _ _ (settle_attn (setReplyNone s.vks))
      generalize settle (setReplyNone s.vks) = t at *
      exact ⟨_, hrow, hsettled⟩
    · have hrow := exec_set (id := 16) (x := x) s tag hawake ⟨by decide, by decide, hx, by omega⟩
      have hsettled := hfollows _ _ (settle_attn (stored 16 (paramUsed s.vks 16 x) s.vks))
      rw [setParam_eq, show paramChanged s.vks 16 (stored 16 (paramUsed s.vks 16 x) s.vks) = stored 16 (paramUsed s.vks 16 x) s.vks
        from rfl] at hrow
      generalize settle (stored 16 (paramUsed s.vks 16 x) s.vks) = t at *
      exact ⟨_, hrow, hsettled⟩
    · have hattn := keyScan_attn raw hawake hfree hdown hgap
      have hrow : exec (.keyScan raw) s = .next (withPart s (keyScan raw s.vks)) := rfl
      generalize keyScan raw s.vks = t at *
      exact ⟨_, hrow, fun h => hattn ((attnReason_iff t).mpr h)⟩
  case timers =>
    obtain ⟨hdue, hnotDue⟩ := exec_attnGapExpiry s
    refine ⟨fun h => ?green, fun h => ?red, fun h => exec_lampTimerExpiry_not_due s h, fun h => exec_lampTimerExpiry_not_due s h,
      fun k p hp => (exec_lampBlinkToggle s k).1 p hp, fun k => (exec_lampBlinkToggle s k).2, fun hgap hreason hfree => ?gap, hnotDue⟩
    case green =>
      have hframe := settle_untouched (stopLampTimer .correct s.vks)
      have hrow := exec_lampTimerExpiry_due s (which := .correct) h
      generalize settle (stopLampTimer .correct s.vks) = t at *
      exact ⟨_, hrow, rfl, rfl, hframe⟩
    case red =>
      have hframe := settle_untouched (stopLampTimer .wrong s.vks)
      have hrow := exec_lampTimerExpiry_due s (which := .wrong) h
      generalize settle (stopLampTimer .wrong s.vks) = t at *
      exact ⟨_, hrow, rfl, rfl, hframe⟩
    case gap =>
      have hrow := hdue hgap
      have hframe := settle_untouched { s.vks with notices := { s.vks.notices with attnGap := none } }
      have hsettled := settle_attn { s.vks with notices := { s.vks.notices with attnGap := none } }
      have hjoin := settle_join { s.vks with notices := { s.vks.notices with attnGap := none } }
      generalize settle { s.vks with notices := { s.vks.notices with attnGap := none } } = t at *
      have hstays : t.attnReason = true := attnReason_grows (b := { s.vks with notices := { s.vks.notices with attnGap := none } })
        hframe.params hjoin ⟨[], by rw [hframe.keys, List.append_nil]⟩ ((attnReason_iff _).mpr hreason)
      obtain ⟨hnone, hup⟩ := hsettled.rises hfree hstays
      exact ⟨_, hrow, rfl, rfl, hup.trans (Bool.or_true _), hnone, hframe.trans (by constructor <;> rfl)⟩

end Sys2Proof.LampTimers
end

section
/-! SUPPORT. The end of a warm-up, the sleep timer and the sleep scan (R186, R190 to R193). -/

namespace Sys2Proof.PowerRows

open Sys2Proof.Machine Sys2Proof.EventMoves Sys2Proof.EventFrames Sys2Proof.VoiceFrames Sys2Proof.SpeechKept Sys2Proof.AudioAndSet
  Sys2Proof.InstantVoices Sys2Proof.EventEnds Sys2Proof.Instants

/-! ### A reading reaches its own voice alone (R127) -/

theorem readStage_other {i j : VoiceId} (hne : j ≠ i) (v : Vks) : (readStage i v).1.voice j = v.voice j := by
  have hset (w : Voice) : (setVoice i w v).voice j = v.voice j := voice_setVoice_other w v hne
  unfold readStage
  simp only
  repeat' split
  · rfl
  · rfl
  · exact hset _
  · exact hset _
  · exact hset _
  · exact (raiseNotice_voice _ _ j).trans (hset _)
  · rfl
  · exact hset _
  · exact hset _
  · rfl
  · rfl

theorem readStages_other {i j : VoiceId} (hne : j ≠ i) (n : Nat) (v : Vks) : (readStages n i v).voice j = v.voice j := by
  induction n generalizing v with
  | zero => rfl
  | succ n ih =>
    have hstage := readStage_other hne v
    unfold readStages
    split
    · next hgo => rw [hgo] at hstage; exact (ih _).trans hstage
    · next hstop => rw [hstop] at hstage; exact hstage

theorem becomePlaying_other {i j : VoiceId} (hne : j ≠ i) (v : Vks) : (becomePlaying i v).voice j = v.voice j :=
  (readStages_other hne 82 _).trans (voice_setVoice_other _ v hne)

/-! ### The amplifier becomes ON (R186) -/

/-- An amplifier that is ON stays so, with no warm-up and its standby count. -/
def StaysOn (a b : Vks) : Prop :=
  b.power.amp = .on → a.power.amp = .on ∧ a.power.warmup = b.power.warmup ∧ a.power.standby = b.power.standby

theorem move_staysOn {a b : Vks} (h : Move 1 1 a b) : StaysOn a b := by
  cases h with
  | notice n v => exact fun hon => by rw [raiseNotice_power]; exact ⟨hon, rfl, rfl⟩
  | ask v hoff hlong => exact fun hon => by cases hoff.symm.trans hon
  | on v hoff hshort => exact fun hon => by cases hoff.symm.trans hon
  | amp _ _ _ v hl => exact absurd hl (by decide)
  | _ => exact fun hon => ⟨hon, rfl, rfl⟩

theorem moves_staysOn {a b : Vks} (h : Moves 1 1 a b) : StaysOn a b :=
  h.induct (fun _ hon => ⟨hon, rfl, rfl⟩) (fun h k hon => by
    obtain ⟨hb, hwarmup, hstandby⟩ := k hon
    obtain ⟨ha, hwarmup', hstandby'⟩ := h hb
    exact ⟨ha, hwarmup'.trans hwarmup, hstandby'.trans hstandby⟩) move_staysOn

theorem ampBecomesOn_power (v : Vks) : (ampBecomesOn v).power = { v.power with amp := .on, warmup := none, standby := 0 } := by
  unfold ampBecomesOn startPlayout
  split <;> simp

theorem becomePlaying_playing (i : VoiceId) (v : Vks) : ((becomePlaying i v).voice i).state = .playing := by
  refine ((readAhead_goesOn i _).voices i).playing ?_
  rw [voice_setVoice_same]

/-- R186: a voice that waited for the amplifier plays. -/
theorem ampBecomesOn_playing {v : Vks} {i : VoiceId} (h : (v.voice i).state = .waitingAmp) :
    ((ampBecomesOn v).voice i).state = .playing := by
  have hreleased {w : Vks} (hw : (w.voice i).state = .waitingAmp) : ((releaseVoice i w).voice i).state = .playing := by
    rw [releaseVoice, if_pos hw]
    exact becomePlaying_playing i w
  have hon : (({ v with power := { v.power with amp := .on, warmup := none, standby := 0 } } : Vks).voice i).state = .waitingAmp := by
    cases i <;> exact h
  refine ((startPlayout_goesOn _).voices i).playing ?_
  cases i with
  | main => exact ((releaseVoice_goesOn .echo _).voices .main).playing (hreleased hon)
  | echo =>
    refine hreleased ?_
    have hother (w : Vks) : (releaseVoice .main w).voice .echo = w.voice .echo := by
      unfold releaseVoice
      split
      · exact becomePlaying_other (by decide) w
      · rfl
    rw [hother]
    exact hon

/-- An echo that takes over plays at once where the amplifier is ON. -/
theorem takeOverEcho_playing (r : Bool) {v : Vks} (hon : v.power.amp = .on) {i : VoiceId} (h : (v.voice i).state = .playing) :
    ((takeOverEcho r v).voice i).state = .playing := by
  cases i with
  | main => exact (takeOverEcho_main r v).voice.playing h
  | echo =>
    unfold takeOverEcho
    split
    · split
      · rw [startVoice, if_pos (show (setEchoLine none (cutPlayingEcho v)).power.amp = .on by unfold cutPlayingEcho; split <;> exact hon)]
        exact becomePlaying_playing .echo _
      · exact h
    · exact h

section
variable {v : Vks} (hwarming : v.power.amp = .warming) (hdue : v.power.warmup = some 0)

include hwarming hdue

theorem warmupExpiry_due : warmupExpiry v = settle (takeOverEcho (floorReached (ampBecomesOn v)) (ampBecomesOn v)) :=
  if_pos ⟨hwarming, hdue⟩

/-- R186: the amplifier after its warm-up. -/
theorem warmupExpiry_power : (warmupExpiry v).power.amp = .on ∧ (warmupExpiry v).power.warmup = none
    ∧ (warmupExpiry v).power.standby = 0 := by
  have hpower := ampBecomesOn_power v
  have hmoves : StaysOn (settle (takeOverEcho (floorReached (ampBecomesOn v)) (ampBecomesOn v))) (ampBecomesOn v) :=
    moves_staysOn ((settle_moves _).trans (takeOverEcho_moves _ _))
  rw [← warmupExpiry_due hwarming hdue] at hmoves
  generalize warmupExpiry v = t at *
  obtain ⟨hon, hwarmup, hstandby⟩ := hmoves (by rw [hpower])
  rw [hpower] at hwarmup hstandby
  exact ⟨hon, hwarmup, hstandby⟩

/-- R186: the voices that waited play. -/
theorem warmupExpiry_playing (i : VoiceId) (h : (v.voice i).state = .waitingAmp) : ((warmupExpiry v).voice i).state = .playing := by
  have hplays := takeOverEcho_playing (floorReached (ampBecomesOn v)) (by rw [ampBecomesOn_power]) (ampBecomesOn_playing h)
  rw [warmupExpiry_due hwarming hdue]
  exact (settle_voice_goesOn i _ (by rw [hplays]; decide)).playing hplays

/-- R186: a ready buffer starts. -/
theorem warmupExpiry_playout (hsome : 1 ≤ v.mixer.samples.length) (hmark : v.params.playoutMark ≤ v.mixer.samples.length) :
    (warmupExpiry v).mixer.playing = true := by
  have hstarts : (ampBecomesOn v).mixer.playing = true := by
    have hframe : Untouched (releaseVoice .echo (releaseVoice .main
        { v with power := { v.power with amp := .on, warmup := none, standby := 0 } }))
        { v with power := { v.power with amp := .on, warmup := none, standby := 0 } } :=
      (releaseVoice_untouched _ _).trans (releaseVoice_untouched _ _)
    refine startPlayout_playing _ ?_
    rw [hframe.params, hframe.samples]
    exact Nat.max_le.mpr ⟨hsome, hmark⟩
  have hsteady : AmpSteady (settle (takeOverEcho (floorReached (ampBecomesOn v)) (ampBecomesOn v))) (ampBecomesOn v) :=
    moves_ampSteady ((settle_moves _).trans (takeOverEcho_moves _ _))
  rw [warmupExpiry_due hwarming hdue]
  exact (hsteady.playing hstarts).1

/-- What the end of a warm-up leaves, and with no echo waiting the rest too. -/
theorem warmupExpiry_frame : OutsideAttempt (warmupExpiry v) v ∧ (v.sched.echoLine = none → Untouched (warmupExpiry v) v) := by
  rw [warmupExpiry_due hwarming hdue]
  refine ⟨(settle_untouched _).outside.trans ((takeOverEcho_outside _ _).trans (ampBecomesOn_untouched v).outside), fun hline => ?_⟩
  have hkept : (ampBecomesOn v).sched.echoLine = none := by rw [(ampBecomesOn_goesOn v).sched]; exact hline
  rw [takeOverEcho_of_none _ hkept]
  exact (settle_untouched _).trans (ampBecomesOn_untouched v)

end

/-! ### The sleep scan (R192, R193) -/

theorem wakingPress_iff (raw : Matrix) (v : Vks) :
    wakingPress raw v = true ↔ ∃ p, p < 80 ∧ raw.getLsbD p = true ∧ (v.keyAt p).standing = none := by
  simp [wakingPress, Config.keyPositions]

/-- R193: a waking press. -/
theorem sleepScan_wakes (raw : Matrix) {v : Vks} (hasleep : v.power.asleep = true) (h : wakingPress raw v = true) :
    sleepScan raw v = settle (wake 1 (passTime 25 v)) := (if_pos hasleep).trans (if_pos h)

/-- R192: a scan that finds no waking press only passes its time. -/
theorem sleepScan_sleeps (raw : Matrix) {v : Vks} (hasleep : v.power.asleep = true) (h : ¬ wakingPress raw v = true) :
    sleepScan raw v = passTime 25 v := (if_pos hasleep).trans (if_neg h)

theorem asleep_of_not_awake {s : State} (h : ¬ Awake s) : s.vks.power.asleep = true := Bool.eq_true_of_not_eq_false h

/-- Settles O56: the end of a warm-up, the sleep timer, and the scans of either power state. -/
theorem powerRowsActWhenDue : Obligations.PowerRowsActWhenDue := by
  intro s
  refine ⟨fun hwarming hdue => ?warmup, fun h => ?warm, fun hdue hawake hset hstate hmain hecho hqueue hline hengine hplaying hfree => ?sleep,
    fun h => ?still, fun raw => ⟨fun hawake => ?awake, fun hasleep => ?asleep, fun hasleep => ?scan⟩⟩
  case warmup =>
    obtain ⟨hon, hwarmup, hstandby⟩ := warmupExpiry_power hwarming hdue
    obtain ⟨hout, hframe⟩ := warmupExpiry_frame hwarming hdue
    exact ⟨_, rfl, rfl, rfl, hon, hwarmup, hstandby, warmupExpiry_playing hwarming hdue, warmupExpiry_playout hwarming hdue,
      hout.samples, hframe⟩
  case warm =>
    exact congrArg (fun x => Host.Outcome.next (withPart s x)) (if_neg fun ⟨hwarming, hdue⟩ => h.elim (· hwarming) (· hdue))
  case sleep =>
    have hruns : sleepTimerRuns s.vks = true :=
      (sleepTimerRuns_iff s.vks).mpr ⟨hawake, hset, ⟨hstate, hmain, hecho, hqueue, hline, hengine⟩, hplaying, hfree⟩
    exact congrArg (fun x => Host.Outcome.next (withPart s x)) (if_pos ⟨hdue, hruns⟩)
  case still => exact congrArg (fun x => Host.Outcome.next (withPart s x)) (if_neg fun k => h k.1)
  case awake =>
    have hsame : sleepScan raw s.vks = s.vks := if_neg (by rw [show s.vks.power.asleep = false from hawake]; decide)
    exact congrArg (fun x => Host.Outcome.next (withPart s x)) hsame
  case asleep => exact congrArg (fun x => Host.Outcome.next (withPart s x)) (if_pos (asleep_of_not_awake hasleep))
  case scan =>
    have hsleeps := asleep_of_not_awake hasleep
    by_cases hpress : wakingPress raw s.vks = true
    · have hframe := (settle_untouched (wake 1 (passTime 25 s.vks))).trans (wake_untouched 1 (passTime 25 s.vks))
      have htold := fun hroom => LinkSlots.wake_raises 1 (settle_join (wake 1 (passTime 25 s.vks))) hroom
      have hrow : exec (.sleepScan raw) s = .next (withPart s (settle (wake 1 (passTime 25 s.vks)))) :=
        congrArg (fun x => Host.Outcome.next (withPart s x)) (sleepScan_wakes raw hsleeps hpress)
      generalize settle (wake 1 (passTime 25 s.vks)) = t at *
      refine ⟨_, hrow, rfl, rfl, hframe.keys, hframe.words, hframe.params, hframe.samples, fun _ => ⟨hframe.asleep, htold⟩, fun hnone => ?_⟩
      obtain ⟨p, hp, hraw, hup⟩ := (wakingPress_iff raw s.vks).mp hpress
      exact absurd hup (hnone p hp hraw)
    · have hrow : exec (.sleepScan raw) s = .next (withPart s (passTime 25 s.vks)) :=
        congrArg (fun x => Host.Outcome.next (withPart s x)) (sleepScan_sleeps raw hsleeps hpress)
      exact ⟨_, hrow, rfl, rfl, rfl, rfl, rfl, rfl, fun h => absurd ((wakingPress_iff raw s.vks).mpr h) hpress,
        fun _ => ⟨hasleep, rfl⟩⟩

end Sys2Proof.PowerRows
end

section
/-! SUPPORT. What reads and refused requests leave of the part (R171). -/

namespace Sys2Proof.ReadsAndRefusals

open Sys2Proof.Machine Sys2Proof.EventMoves Sys2Proof.Invariants Sys2Proof.Link

variable {v : Vks}

/-! ### Reads -/

/-- A request that only reads: the part as it was, and data that fit the reply. -/
def Reads (v : Vks) (r : Vks × Answer) : Prop := r.1 = v ∧ r.2.data.length ≤ 4

theorem reads_checked (checks : List (Bool × Nat)) {f : Vks × Answer} (h : Reads v f) : Reads v (checked checks v f) := by
  unfold checked
  split
  · exact ⟨rfl, by simp [answerBadArgs]⟩
  · exact h

theorem reads_withoutArgument (arg : List Byte) {f : Vks → Vks × Answer} (h : Reads v (f v)) : Reads v (withoutArgument f arg v) := by
  unfold withoutArgument
  split
  · exact ⟨rfl, by simp [answerBadArgs]⟩
  · exact h

theorem reads_tableGet (selector start entries : Nat) (bulk : List Byte) : Reads v (v, tableGetAnswer selector start entries bulk) :=
  ⟨rfl, by simp [tableGetAnswer, answerOk]⟩

theorem storeFetch_reads (arg : List Byte) : Reads v (handleStoreFetch arg v) := by
  refine reads_withoutArgument arg ?_
  split
  · exact ⟨rfl, by simp [answerRefused]⟩
  · exact ⟨rfl, holdingAnswer_length _⟩

/-- R171: a read's row changes the pending reply alone. -/
theorem exec_of_reads {i : Instr} {code tag : Byte} {arg : List Byte} {hd : Handler} {s : State}
    (hrow : exec i s = .next (withPart s (takeControl code tag arg hd s.vks))) (hawake : Awake s) (hfits : arg.length ≤ 58)
    (h : Reads s.vks (hd arg s.vks)) : ∃ code result data bulk, data.length = 4
      ∧ exec i s = .next (withPart s (replying code tag result data bulk s.vks)) := by
  obtain ⟨hpart, hdata⟩ := h
  refine ⟨code, (hd arg s.vks).2.result, padTo 4 (hd arg s.vks).2.data, (hd arg s.vks).2.bulk, ?_, ?_⟩
  · rw [padTo, List.length_append, List.length_replicate]
    omega
  · rw [exec_request_awake i code tag arg hd s hrow hawake hfits, hpart]
    rfl

/-! ### Refusals -/

/-- A request that keeps the part where it is refused. -/
def Refuses (v : Vks) (r : Vks × Answer) : Prop := r.2.result = .ok ∨ r.2.result = .accepted ∨ r.1 = v

theorem refuses_ok {r : Vks × Answer} (h : r.2.result = .ok) : Refuses v r := .inl h

theorem refuses_kept (a : Answer) : Refuses v (v, a) := .inr (.inr rfl)

theorem refuses_checked (checks : List (Bool × Nat)) {f : Vks × Answer} (h : Refuses v f) : Refuses v (checked checks v f) := by
  unfold checked
  split
  · exact refuses_kept _
  · exact h

theorem refuses_withoutArgument (arg : List Byte) {f : Vks → Vks × Answer} (h : Refuses v (f v)) :
    Refuses v (withoutArgument f arg v) := by
  unfold withoutArgument
  split
  · exact refuses_kept _
  · exact h

theorem refuses_unless {p : Prop} [Decidable p] (a : Answer) {f : Vks × Answer} (h : Refuses v f) :
    Refuses v (if p then (v, a) else f) := by
  split
  · exact refuses_kept a
  · exact h

theorem refuses_withPool (w : Nat) (e : WordEntry) {f : Vks × Answer} (h : Refuses v f) : Refuses v (withPool w e v f) := by
  unfold withPool
  simp only
  split
  · exact h
  · exact refuses_kept _

theorem wordSounds_refuses (arg : List Byte) : Refuses v (handleWordSounds arg v) := by
  refine refuses_checked _ ?_
  split
  · exact refuses_kept _
  · exact refuses_unless _ (refuses_withPool _ _ (refuses_ok rfl))

theorem sleep_refuses (arg : List Byte) : Refuses v (handleSleep arg v) := by
  refine refuses_withoutArgument arg ?_
  split
  · exact refuses_kept _
  · exact refuses_ok rfl

theorem attemptShelve_refuses (arg : List Byte) : Refuses v (handleAttemptShelve arg v) := by
  refine refuses_withoutArgument arg ?_
  split
  · exact refuses_kept _
  · exact refuses_kept _
  · exact refuses_kept _
  · exact refuses_ok rfl

theorem attemptUnshelve_refuses (arg : List Byte) : Refuses v (handleAttemptUnshelve arg v) := by
  refine refuses_withoutArgument arg (refuses_unless _ ?_)
  split
  · exact refuses_kept _
  · exact refuses_ok rfl

theorem say_refuses (arg : List Byte) : Refuses v (handleSay arg v) :=
  refuses_checked _ (refuses_unless _ (refuses_unless _ (refuses_ok rfl)))

theorem claimStore_result (v : Vks) : (claimStore v).2 = .ok ∨ (claimStore v).2 = .accepted := by
  unfold claimStore
  repeat' split
  · exact .inl rfl
  · exact .inr rfl
  · exact .inl rfl
  · exact .inr rfl
  · exact .inr rfl
  · exact .inl rfl

theorem storeClaim_refuses (arg : List Byte) : Refuses v (handleStoreClaim arg v) :=
  refuses_withoutArgument arg ((claimStore_result v).imp_right .inl)

theorem storeRelease_refuses (arg : List Byte) : Refuses v (handleStoreRelease arg v) := by
  refine refuses_withoutArgument arg ?_
  split
  · exact refuses_unless _ (refuses_ok rfl)
  · exact refuses_kept _
  · exact refuses_kept _

theorem linkRequest_refuses (op : LinkOp) : Refuses v (linkRequest op v) :=
  refuses_unless _ (refuses_unless _ (.inr (.inl rfl)))

/-- R171: a refused request's row changes the pending reply alone. -/
theorem exec_of_refuses {i : Instr} {code tag : Byte} {arg : List Byte} {hd : Handler} {s t : State}
    (hrow : exec i s = .next (withPart s (takeControl code tag arg hd s.vks))) (hawake : Awake s) (hfits : arg.length ≤ 58)
    (h : Refuses s.vks (hd arg s.vks)) (hnext : exec i s = .next t) (hok : t.vks.port.reply.result ≠ .ok)
    (haccepted : t.vks.port.reply.result ≠ .accepted) :
    t = withPart s { s.vks with port := { s.vks.port with reply := t.vks.port.reply } } := by
  rw [exec_request_awake i code tag arg hd s hrow hawake hfits] at hnext
  cases hnext
  rw [h.resolve_left hok |>.resolve_left haccepted]
  rfl

/-- Settles O19: every read and every refusal, by what its handler does to the part. -/
theorem readsAndRefusalsChangeOnlyTheReply : Obligations.ReadsAndRefusalsChangeOnlyTheReply := by
  refine ⟨fun s tag arg hawake hfits c hc => ?reads, fun s t tag arg hawake hfits c hc => ?refusals⟩
  case reads =>
    simp only [List.mem_cons, List.not_mem_nil, or_false] at hc
    rcases hc with rfl | rfl | rfl | rfl | rfl | rfl | rfl | rfl | rfl | rfl | rfl | rfl
    · exact exec_of_reads (hd := handleIdentify) rfl hawake hfits (reads_withoutArgument arg ⟨rfl, by simp [answerOk]⟩)
    · exact exec_of_reads (hd := handleGet) rfl hawake hfits (reads_checked _ ⟨rfl, (LinkReads.paramData_length _ _).le⟩)
    · exact exec_of_reads (hd := handleWordGet) rfl hawake hfits (reads_checked _ ⟨rfl, by simp [answerOk]⟩)
    · exact exec_of_reads (hd := handleTableGetAlphabet) rfl hawake hfits (reads_checked _ (reads_tableGet _ _ _ _))
    · exact exec_of_reads (hd := handleTableGetKeymap) rfl hawake hfits (reads_checked _ (reads_tableGet _ _ _ _))
    · exact exec_of_reads (hd := handleTableGetResponses) rfl hawake hfits (reads_checked _ (reads_tableGet _ _ _ _))
    · exact exec_of_reads (hd := handleAttemptGet) rfl hawake hfits (reads_withoutArgument arg ⟨rfl, by simp [answerOk]⟩)
    · exact exec_of_reads (hd := handleLessonGet) rfl hawake hfits (reads_checked _ ⟨rfl, by simp [answerOk]⟩)
    · exact exec_of_reads (hd := handleProgressGet) rfl hawake hfits (reads_checked _ ⟨rfl, by simp [answerOk]⟩)
    · exact exec_of_reads (hd := handleReviewGet) rfl hawake hfits (reads_checked _ ⟨rfl, by simp [answerOk]⟩)
    · exact exec_of_reads (hd := handleQueueGet) rfl hawake hfits (reads_checked _ ⟨rfl, by simp [answerOk]⟩)
    · exact exec_of_reads (hd := handleStoreFetch) rfl hawake hfits (storeFetch_reads arg)
  case refusals =>
    have refused {i : Instr} {code : Byte} (hd : Handler) (hrow : exec i s = .next (withPart s (takeControl code tag arg hd s.vks)))
      (h : Refuses s.vks (hd arg s.vks)) := exec_of_refuses (t := t) hrow hawake hfits h
    simp only [List.mem_cons, List.not_mem_nil, or_false] at hc
    rcases hc with rfl | rfl | rfl | rfl | rfl | rfl | rfl | rfl | rfl | rfl | rfl | rfl | rfl | rfl | rfl | rfl | rfl | rfl | rfl | rfl
      | rfl | rfl | rfl | rfl | rfl | rfl | rfl | rfl | rfl | rfl | rfl
    · exact refused handleReset rfl (refuses_withoutArgument arg (refuses_ok rfl))
    · exact refused handleStreamRestart rfl (refuses_withoutArgument arg (refuses_ok rfl))
    · exact refused handleSleep rfl (sleep_refuses arg)
    · exact refused handleSet rfl (refuses_checked _ (refuses_ok rfl))
    · exact refused handleClearFlags rfl (refuses_withoutArgument arg (refuses_ok rfl))
    · exact refused handleWordPut rfl (refuses_checked _ (refuses_unless _ (refuses_withPool _ _ (refuses_ok rfl))))
    · exact refused handleWordSounds rfl (wordSounds_refuses arg)
    · exact refused handleWordDrop rfl (refuses_checked _ (refuses_unless _ (refuses_ok rfl)))
    · exact refused handleAlphabetPut rfl (refuses_checked _ (refuses_ok rfl))
    · exact refused handleKeymapPut rfl (refuses_checked _ (refuses_ok rfl))
    · exact refused handleResponsePut rfl (refuses_checked _ (refuses_ok rfl))
    · exact refused handleAttemptOpen rfl (refuses_checked _ (refuses_unless _ (refuses_ok rfl)))
    · exact refused handleAttemptCancel rfl (refuses_withoutArgument arg (refuses_unless _ (refuses_ok rfl)))
    · exact refused handleAttemptShelve rfl (attemptShelve_refuses arg)
    · exact refused handleAttemptUnshelve rfl (attemptUnshelve_refuses arg)
    · exact refused handleLessonAdd rfl (refuses_checked _ (refuses_ok rfl))
    · exact refused handleLessonClear rfl (refuses_withoutArgument arg (refuses_ok rfl))
    · exact refused handleLessonFromReview rfl (refuses_withoutArgument arg (refuses_ok rfl))
    · exact refused handleLessonStart rfl (refuses_withoutArgument arg (refuses_ok rfl))
    · exact refused handleLessonStop rfl (refuses_withoutArgument arg (refuses_ok rfl))
    · exact refused handleProgressPut rfl (refuses_checked _ (refuses_ok rfl))
    · exact refused handleProgressClear rfl (refuses_checked _ (refuses_ok rfl))
    · exact refused handleReviewClear rfl (refuses_withoutArgument arg (refuses_ok rfl))
    · exact refused handleSay rfl (say_refuses arg)
    · exact refused handleSilence rfl (refuses_checked _ (refuses_ok rfl))
    · exact refused handleStoreClaim rfl (storeClaim_refuses arg)
    · exact refused handleStoreRelease rfl (storeRelease_refuses arg)
    · exact refused handleStoreWrite rfl (refuses_checked _ (linkRequest_refuses _))
    · exact refused handleStoreErase rfl (refuses_checked _ (linkRequest_refuses _))
    · exact refused handleStoreRead rfl (refuses_checked _ (linkRequest_refuses _))
    · exact refused handleFaultGet rfl (refuses_withoutArgument arg (refuses_ok rfl))

end Sys2Proof.ReadsAndRefusals
end

section
/-! SUPPORT. What a key scan does at a position, and what taking a release or a press there does (R75 to R80, R85). -/

namespace Sys2Proof.KeyChanges

open Sys2Proof.Machine Sys2Proof.Tables

variable {v : Vks} {p q : Nat} {raw : Matrix}

/-! ### The debounce of a position (R75) -/

theorem debounceKey_agrees {d : Nat} {down : Bool} {k : KeyPosition} (h : down = k.standing.isSome) :
    debounceKey d down k = ({ k with count := 0 }, .same) := if_pos h

theorem debounceKey_counts {d : Nat} {down : Bool} {k : KeyPosition} (h : down ≠ k.standing.isSome) (hearly : k.count + 1 < d) :
    debounceKey d down k = ({ k with count := k.count + 1 }, .same) := (if_neg h).trans (if_pos hearly)

theorem debounceKey_due {d : Nat} {down : Bool} {k : KeyPosition} (h : down ≠ k.standing.isSome) (hdue : d ≤ k.count + 1) :
    debounceKey d down k = ({ k with count := 0 }, if down then .pressed else .released) :=
  (if_neg h).trans (if_neg (Nat.not_lt.mpr hdue))

theorem debounceKey_standing (d : Nat) (down : Bool) (k : KeyPosition) : (debounceKey d down k).1.standing = k.standing := by
  unfold debounceKey
  split
  · rfl
  · split <;> rfl

/-- The part of a scan whose counts are moved and whose changes are not yet taken. -/
def debounced (raw : Matrix) (v : Vks) : Vks := debounceAll raw (passTime 1 v)

theorem debounced_size : (debounced raw v).keys.positions.length = 80 := (List.length_map _).trans List.length_range

theorem debounced_keyAt (hp : p < 80) :
    (debounced raw v).keyAt p = (debounceKey v.params.debounce (raw.getLsbD p) (v.keyAt p)).1 := by
  show ((List.range 80).map fun x => (debounceKey v.params.debounce (raw.getLsbD x) (v.keyAt x)).1).getD p ⟨none, 0⟩ = _
  rw [List.getD_eq_getElem?_getD, List.getElem?_map, List.getElem?_range hp]
  rfl

theorem keyAt_beyond (h : v.keys.positions.length ≤ p) : v.keyAt p = ⟨none, 0⟩ := List.getD_eq_default _ _ h

theorem debounced_standing (hsize : v.keys.positions.length = 80) :
    ((debounced raw v).keyAt p).standing = (v.keyAt p).standing := by
  obtain hp | hp := Nat.lt_or_ge p 80
  · rw [debounced_keyAt hp, debounceKey_standing]
  · rw [keyAt_beyond (debounced_size.trans_le hp), keyAt_beyond (hsize.trans_le hp)]

/-! ### The positions a scan changes (R76) -/

theorem mem_changedAt {c : KeyChange} : p ∈ changedAt (passTime 1 v) raw c
    ↔ p < 80 ∧ (debounceKey v.params.debounce (raw.getLsbD p) (v.keyAt p)).2 = c := by
  unfold changedAt
  rw [List.mem_filter, List.mem_range, decide_eq_true_iff]
  rfl

theorem changedAt_ascends (c : KeyChange) : (changedAt (passTime 1 v) raw c).Pairwise (· < ·) :=
  List.pairwise_lt_range.filter _

/-- A change is due at a position: its raw state is not its debounced one, and the count reaches the limit. -/
def DueAt (raw : Matrix) (v : Vks) (p : Nat) : Prop :=
  p < 80 ∧ raw.getLsbD p ≠ (v.keyAt p).standing.isSome ∧ v.params.debounce ≤ (v.keyAt p).count + 1

theorem mem_changedAt_iff_due : (p ∈ changedAt (passTime 1 v) raw .pressed ↔ DueAt raw v p ∧ raw.getLsbD p = true)
    ∧ (p ∈ changedAt (passTime 1 v) raw .released ↔ DueAt raw v p ∧ raw.getLsbD p = false) := by
  rw [mem_changedAt, mem_changedAt, DueAt]
  by_cases hsame : raw.getLsbD p = (v.keyAt p).standing.isSome
  · rw [debounceKey_agrees hsame]
    simp [hsame]
  · obtain hearly | hdue := Nat.lt_or_ge ((v.keyAt p).count + 1) v.params.debounce
    · rw [debounceKey_counts hsame hearly]
      simp [Nat.not_le.mpr hearly]
    · rw [debounceKey_due hsame hdue]
      simp only [ne_eq, hsame, not_false_eq_true, hdue, and_self, and_true]
      cases raw.getLsbD p <;> simp

theorem changedAt_eq {c : KeyChange} {ps : List Nat} (hps : ps.Pairwise (· < ·))
    (h : ∀ x, x ∈ changedAt (passTime 1 v) raw c ↔ x ∈ ps) : changedAt (passTime 1 v) raw c = ps :=
  (changedAt_ascends c).eq_of_mem_iff hps h

theorem keyScan_awake (raw : Matrix) (hawake : v.power.asleep = false) :
    keyScan raw v = settle ((changedAt (passTime 1 v) raw .pressed).foldl (takeWhole takePress)
      ((changedAt (passTime 1 v) raw .released).foldl (takeWhole takeRelease) (debounced raw v))) :=
  if_neg (by rw [hawake]; decide)

/-! ### What a change leaves (R76) -/

theorem keyAt_setStanding_same (st : Option Standing) (hp : p < v.keys.positions.length) : (setStanding p st v).keyAt p = ⟨st, 0⟩ :=
  readAt_writeAt_same _ _ _ _ hp

theorem keyAt_setStanding_other (st : Option Standing) (h : q ≠ p) : (setStanding p st v).keyAt q = v.keyAt q :=
  readAt_writeAt_other _ _ _ _ _ h.symm

theorem keyAt_of_positions {a b : Vks} (h : a.keys.positions = b.keys.positions) (q : Nat) : a.keyAt q = b.keyAt q := by
  rw [Vks.keyAt, Vks.keyAt, h]

/-- What no change of a scan reaches, the positions left out. -/
structure ScanFrame (a b : Vks) : Prop where
  words : a.words = b.words
  params : a.params = b.params
  samples : a.mixer.samples = b.mixer.samples
  keymap : a.keys.keymap = b.keys.keymap
  time : a.keys.time = b.keys.time

/-- The changes at the positions `ps`, which are then down or up, leave every other position. -/
structure Changes (down : Bool) (ps : List Nat) (a b : Vks) : Prop where
  frame : ScanFrame a b
  size : a.keys.positions.length = b.keys.positions.length
  others : ∀ q, q ∉ ps → a.keyAt q = b.keyAt q
  here : ∀ q ∈ ps, q < b.keys.positions.length → (a.keyAt q).count = 0 ∧ (a.keyAt q).standing.isSome = down

theorem ScanFrame.trans {a b c : Vks} (h : ScanFrame a b) (k : ScanFrame b c) : ScanFrame a c :=
  ⟨h.words.trans k.words, h.params.trans k.params, h.samples.trans k.samples, h.keymap.trans k.keymap, h.time.trans k.time⟩

theorem Changes.trans {down : Bool} {ps qs : List Nat} {a b c : Vks} (h : Changes down qs a b) (k : Changes down ps b c) :
    Changes down (ps ++ qs) a c where
  frame := h.frame.trans k.frame
  size := h.size.trans k.size
  others q hq := by
    rw [List.mem_append, not_or] at hq
    exact (h.others q hq.2).trans (k.others q hq.1)
  here q hq hin := by
    by_cases hlast : q ∈ qs
    · exact h.here q hlast (k.size ▸ hin)
    · rw [h.others q hlast]
      exact k.here q ((List.mem_append.mp hq).resolve_right hlast) hin

/-- No position changes where the positions stay. -/
theorem changes_none {down : Bool} {a b : Vks} (hframe : ScanFrame a b) (h : a.keys.positions = b.keys.positions) :
    Changes down [] a b :=
  ⟨hframe, by rw [h], fun q _ => keyAt_of_positions h q, nofun⟩

theorem Changes.then {down : Bool} {ps : List Nat} {a b c : Vks} (k : Changes down ps b c) (hframe : ScanFrame a b)
    (h : a.keys.positions = b.keys.positions) : Changes down ps a c := by
  have hboth := (changes_none (down := down) hframe h).trans k
  rwa [List.append_nil] at hboth

theorem setStanding_changes (p : Nat) (st : Option Standing) (v : Vks) : Changes st.isSome [p] (setStanding p st v) v where
  frame := ⟨rfl, rfl, rfl, rfl, rfl⟩
  size := List.length_set
  others q hq := keyAt_setStanding_other st (List.ne_of_not_mem_cons hq)
  here q hq hin := by
    obtain rfl := List.mem_singleton.mp hq
    rw [keyAt_setStanding_same st hin]
    exact ⟨rfl, rfl⟩

theorem restartSleepTimer_frame (v : Vks) : ScanFrame (restartSleepTimer v) v := ⟨rfl, rfl, rfl, rfl, rfl⟩

theorem setHeld_frame (l : List HeldKey) (v : Vks) : ScanFrame (setHeld l v) v := ⟨rfl, rfl, rfl, rfl, rfl⟩

theorem setGhostBlock_frame (b : Bool) (v : Vks) : ScanFrame (setGhostBlock b v) v := ⟨rfl, rfl, rfl, rfl, rfl⟩

theorem addReport_frame (r : KeyReport) (v : Vks) :
    ScanFrame (addReport r v) v ∧ (addReport r v).keys.positions = v.keys.positions := by
  unfold addReport
  split
  · exact ⟨⟨rfl, rfl, rfl, rfl, rfl⟩, rfl⟩
  · exact ⟨⟨rfl, rfl, rfl, rfl, rfl⟩, rfl⟩

theorem Changes.reported {down : Bool} {ps : List Nat} {a b : Vks} (h : Changes down ps a b) (r : KeyReport) :
    Changes down ps (addReport r a) b := h.then (addReport_frame r a).1 (addReport_frame r a).2

theorem Changes.settled {down : Bool} {ps : List Nat} {a b : Vks} (h : Changes down ps a b) : Changes down ps (settle a) b := by
  have hs := settle_untouched a
  exact h.then ⟨hs.words, hs.params, hs.samples, by rw [hs.keys], by rw [hs.keys]⟩ (by rw [hs.keys])

theorem handlePress_frame (cls : KeyClass) (c : Nat) (v : Vks) : ScanFrame (handlePress cls c v).1 v := by
  have hout := handlePress_outside cls c v
  exact ⟨hout.words, hout.params, hout.samples, by rw [hout.keys], by rw [hout.keys]⟩

theorem takeRelease_changes (v : Vks) (p : Nat) : Changes false [p] (takeRelease v p) v := by
  have hup : Changes false [p] (restartSleepTimer (setStanding p none v)) v :=
    (setStanding_changes p none v).then (restartSleepTimer_frame _) rfl
  unfold takeRelease
  extract_lets v1 v2
  have hheld : Changes false [p] v2 v := hup.then (setHeld_frame _ v1) rfl
  repeat' split
  · exact hheld.reported _
  · exact hheld
  · exact hup
  · exact hup
  · exact hup.then (setGhostBlock_frame _ v1) rfl
  · exact hup

theorem routePress_frame (p : Nat) (e : KeymapEntry) (v : Vks) :
    ScanFrame (routePress p e v) v ∧ (routePress p e v).keys.positions = v.keys.positions := by
  unfold routePress
  split
  · exact ⟨⟨rfl, rfl, rfl, rfl, rfl⟩, rfl⟩
  · extract_lets r v1
    have hr : ScanFrame r.1 v ∧ r.1.keys.positions = v.keys.positions := by
      unfold r
      split
      · exact ⟨handlePress_frame _ _ v, by rw [(handlePress_outside _ _ v).keys]⟩
      · exact ⟨⟨rfl, rfl, rfl, rfl, rfl⟩, rfl⟩
    have hadd := addReport_frame ⟨.press, p, e, r.2, v1.keys.time⟩ v1
    exact ⟨hadd.1.trans ((setHeld_frame _ r.1).trans hr.1), hadd.2.trans hr.2⟩

theorem takePress_changes (v : Vks) (p : Nat) : Changes true [p] (takePress v p) v := by
  have hdown (st : Standing) : Changes true [p] (setStanding p (some st) (restartSleepTimer v)) v :=
    (setStanding_changes p (some st) _).trans (changes_none (restartSleepTimer_frame v) rfl)
  unfold takePress
  extract_lets v0 v1 e v1'
  repeat' split
  · exact hdown _
  · exact ((hdown _).then (setGhostBlock_frame true v1) rfl).reported _
  · exact hdown _
  · exact hdown _
  · have hroute := routePress_frame p e (setHeld (v1'.keys.held ++ [⟨p, e, v1'.keys.time, .none, false⟩]) v1')
    exact (hdown _).then (hroute.1.trans (setHeld_frame _ v1')) hroute.2

theorem foldl_changes {down : Bool} {take : Vks → Nat → Vks} (h : ∀ v p, Changes down [p] (take v p) v) (ps : List Nat) (v : Vks) :
    Changes down ps (ps.foldl (takeWhole take) v) v := by
  induction ps generalizing v with
  | nil => exact changes_none ⟨rfl, rfl, rfl, rfl, rfl⟩ rfl
  | cons p ps ih => exact (ih (takeWhole take v p)).trans (h v p).settled

/-- R75, R76: a position after a scan. -/
theorem keyScan_position (hawake : v.power.asleep = false) (hp : p < 80) :
    (¬ DueAt raw v p →
      (keyScan raw v).keyAt p = (debounceKey v.params.debounce (raw.getLsbD p) (v.keyAt p)).1)
    ∧ (DueAt raw v p → ((keyScan raw v).keyAt p).count = 0 ∧ ((keyScan raw v).keyAt p).standing.isSome = raw.getLsbD p) := by
  rw [keyScan_awake raw hawake, ← debounced_keyAt hp]
  obtain ⟨hpress, hrelease⟩ := mem_changedAt_iff_due (v := v) (p := p) (raw := raw)
  have hreleases := foldl_changes takeRelease_changes (changedAt (passTime 1 v) raw .released) (debounced raw v)
  have hpresses := (foldl_changes takePress_changes (changedAt (passTime 1 v) raw .pressed)
    ((changedAt (passTime 1 v) raw .released).foldl (takeWhole takeRelease) (debounced raw v))).settled
  have hsize := hreleases.size.trans debounced_size
  generalize (changedAt (passTime 1 v) raw .released).foldl (takeWhole takeRelease) (debounced raw v) = w at *
  generalize settle ((changedAt (passTime 1 v) raw .pressed).foldl (takeWhole takePress) w) = t at *
  refine ⟨fun hnot => (hpresses.others p fun h => hnot (hpress.mp h).1).trans
    (hreleases.others p fun h => hnot (hrelease.mp h).1), fun hdue => ?_⟩
  cases hraw : raw.getLsbD p with
  | true => exact hpresses.here p (hpress.mpr ⟨hdue, hraw⟩) (hsize ▸ hp)
  | false =>
    rw [hpresses.others p fun h => by cases hraw.symm.trans (hpress.mp h).2]
    exact hreleases.here p (hrelease.mpr ⟨hdue, hraw⟩) (debounced_size ▸ hp)

theorem keyScan_frame (raw : Matrix) (hawake : v.power.asleep = false) : ScanFrame (keyScan raw v) (passTime 1 v) := by
  rw [keyScan_awake raw hawake]
  have hreleases := (foldl_changes takeRelease_changes (changedAt (passTime 1 v) raw .released) (debounced raw v)).frame
  exact ((foldl_changes takePress_changes _ _).settled.frame.trans hreleases).trans ⟨rfl, rfl, rfl, rfl, rfl⟩

/-! ### Taking a release (R80) -/

/-- The release of a position, before its record or the episode is looked at. -/
def lifted (p : Nat) (v : Vks) : Vks := restartSleepTimer (setStanding p none v)

/-- The record of a released key leaves the table. -/
def freed (p : Nat) (v : Vks) : Vks := setHeld (v.keys.held.filter fun k => k.position ≠ p) (lifted p v)

theorem takeRelease_reported {h : HeldKey} (hst : (v.keyAt p).standing = some .tracked)
    (hfind : v.keys.held.find? (fun k => k.position = p) = some h) (hrep : h.reported = true) :
    takeRelease v p = addReport ⟨.release, p, h.entry, h.disposition, v.keys.time⟩ (freed p v) := by
  have hheld : v.heldAt p = some h := hfind
  simp only [takeRelease, hst, hheld, hrep, if_true]
  rfl

theorem takeRelease_unreported {h : HeldKey} (hst : (v.keyAt p).standing = some .tracked)
    (hfind : v.keys.held.find? (fun k => k.position = p) = some h) (hrep : h.reported = false) :
    takeRelease v p = freed p v := by
  have hheld : v.heldAt p = some h := hfind
  simp only [takeRelease, hst, hheld, hrep]
  rfl

theorem takeRelease_silent
    (hst : (v.keyAt p).standing = some .untracked ∨ (v.keyAt p).standing = some .blocked ∨ (v.keyAt p).standing = some .latched) :
    takeRelease v p = lifted p v := by
  obtain hst | hst | hst := hst
  all_goals simp only [takeRelease, hst]; rfl

theorem takeRelease_suspect (hst : (v.keyAt p).standing = some .suspect) :
    takeRelease v p = if (lifted p v).anySuspect then lifted p v else setGhostBlock false (lifted p v) := by
  simp only [takeRelease, hst]
  rfl

theorem anySuspect_iff (hsize : v.keys.positions.length = 80) :
    v.anySuspect = true ↔ ∃ q, q < 80 ∧ (v.keyAt q).standing = some .suspect := by
  rw [Vks.anySuspect, List.any_eq_true]
  constructor
  · rintro ⟨k, hk, hst⟩
    obtain ⟨q, hq, rfl⟩ := List.mem_iff_getElem.mp hk
    refine ⟨q, hsize ▸ hq, ?_⟩
    rw [Vks.keyAt, readAt, List.getD_eq_getElem _ _ hq]
    exact of_decide_eq_true hst
  · rintro ⟨q, hq, hst⟩
    have hin : q < v.keys.positions.length := hsize ▸ hq
    rw [Vks.keyAt, readAt, List.getD_eq_getElem _ _ hin] at hst
    exact ⟨_, List.getElem_mem hin, decide_eq_true hst⟩

theorem lifted_anySuspect (hsize : v.keys.positions.length = 80) (hp : p < 80) :
    (lifted p v).anySuspect = true ↔ ∃ q, q < 80 ∧ q ≠ p ∧ (v.keyAt q).standing = some .suspect := by
  have hlifted : (lifted p v).keyAt p = ⟨none, 0⟩ := keyAt_setStanding_same none (hsize ▸ hp)
  rw [anySuspect_iff (List.length_set.trans hsize)]
  refine exists_congr fun q => and_congr_right fun _ => ?_
  by_cases hq : q = p
  · rw [hq, hlifted]
    exact iff_of_false nofun fun h => h.1 rfl
  · have hother : (lifted p v).keyAt q = v.keyAt q := keyAt_setStanding_other none hq
    rw [hother]
    exact (and_iff_right hq).symm

/-! ### Taking a press (R77 to R79, R85) -/

/-- A place is the fourth corner of a rectangle of places that hold (R78). -/
def Corner (held : Nat → Prop) (p : Nat) : Prop :=
  ∃ r c, r < 8 ∧ c < 10 ∧ r ≠ p / 10 ∧ c ≠ p % 10 ∧ held (p / 10 * 10 + c) ∧ held (r * 10 + p % 10) ∧ held (r * 10 + c)

theorem ghostHeld_iff : v.ghostHeld q = true ↔ (v.keyAt q).standing ≠ none ∧ (v.keyAt q).standing ≠ some .suspect := by
  unfold Vks.ghostHeld
  split
  · next h => simp [h]
  · next x hnot h =>
    rw [h]
    exact iff_of_true rfl ⟨nofun, fun k => hnot (Option.some.inj k)⟩
  · next h => simp [h]

theorem completesRectangle_iff {held : Nat → Prop} (h : ∀ q, v.ghostHeld q = true ↔ held q) :
    completesRectangle v p = true ↔ Corner held p := by
  simp only [completesRectangle, List.any_eq_true, List.mem_range, Bool.and_eq_true, decide_eq_true_iff, h, Corner, and_assoc]
  exact ⟨fun ⟨r, hr, c, hc⟩ => ⟨r, c, hr, hc⟩, fun ⟨r, c, hr, hc⟩ => ⟨r, hr, c, hc⟩⟩

/-- The record of a TRACKED press is made, before the press is routed (R77). -/
def recorded (p : Nat) (v : Vks) : Vks :=
  setHeld (v.keys.held ++ [⟨p, v.keymapAt p, v.keys.time, .none, false⟩]) (setStanding p (some .tracked) (restartSleepTimer v))

/-- The record of a TRACKED press with its disposition, the rest as another part has it. -/
def routed (p : Nat) (d : Disposition) (v a : Vks) : Vks :=
  setHeld (v.keys.held ++ [⟨p, v.keymapAt p, v.keys.time, d, true⟩]) a

theorem takePress_ghost (hcorner : completesRectangle v p = true) (hblock : v.keys.ghostBlock = false) :
    takePress v p = addReport ⟨.ghost, p, v.keymapAt p, .none, v.keys.time⟩
      (setGhostBlock true (setStanding p (some .suspect) (restartSleepTimer v))) :=
  (if_pos hcorner).trans (if_neg (by show ¬ v.keys.ghostBlock = true; rw [hblock]; decide))

theorem takePress_suspect (hcorner : completesRectangle v p = true) (hblock : v.keys.ghostBlock = true) :
    takePress v p = setStanding p (some .suspect) (restartSleepTimer v) :=
  (if_pos hcorner).trans (if_pos hblock)

theorem takePress_blocked (hcorner : ¬ completesRectangle v p = true) (hblock : v.keys.ghostBlock = true) :
    takePress v p = setStanding p (some .blocked) (restartSleepTimer v) :=
  (if_neg hcorner).trans (if_pos hblock)

theorem takePress_untracked (hcorner : ¬ completesRectangle v p = true) (hblock : v.keys.ghostBlock = false)
    (hfull : 4 ≤ v.keys.held.length) : takePress v p = setStanding p (some .untracked) (restartSleepTimer v) :=
  (if_neg hcorner).trans ((if_neg (by show ¬ v.keys.ghostBlock = true; rw [hblock]; decide)).trans (if_pos hfull))

theorem takePress_tracked (hcorner : ¬ completesRectangle v p = true) (hblock : v.keys.ghostBlock = false)
    (hroom : v.keys.held.length < 4) : takePress v p = routePress p (v.keymapAt p) (recorded p v) :=
  (if_neg hcorner).trans ((if_neg (by show ¬ v.keys.ghostBlock = true; rw [hblock]; decide)).trans (if_neg (Nat.not_le.mpr hroom)))

theorem markHeld_recorded {a : Vks} (d : Disposition) (hkeys : a.keys = (recorded p v).keys) (hnew : ∀ h ∈ v.keys.held, h.position ≠ p) :
    markHeld p d a = routed p d v a := by
  have hheld : a.keys.held = v.keys.held ++ [⟨p, v.keymapAt p, v.keys.time, .none, false⟩] := congrArg KeyUnit.held hkeys
  rw [markHeld, routed, hheld, List.map_append, List.map_congr_left (g := fun k => k) fun k hk => if_neg (hnew k hk), List.map_id']
  simp

/-- R85: a press of class NONE keeps the record as it was made. -/
theorem takePress_classNone (hcorner : ¬ completesRectangle v p = true) (hblock : v.keys.ghostBlock = false)
    (hroom : v.keys.held.length < 4) (hcls : (v.keymapAt p).cls = .none) : takePress v p = recorded p v :=
  (takePress_tracked hcorner hblock hroom).trans (if_pos hcls)

/-- A press goes to the host and not to the Attempt Controller (R85). -/
def PassedOn (v : Vks) (p : Nat) : Prop :=
  (v.keymapAt p).cls ≠ .none
    ∧ ((v.keymapAt p).cls = .pass ∨ v.params.routeSpell = false ∨ v.attempt.state = .idle)

theorem takePress_passed (hcorner : ¬ completesRectangle v p = true) (hblock : v.keys.ghostBlock = false)
    (hroom : v.keys.held.length < 4) (hnew : ∀ h ∈ v.keys.held, h.position ≠ p) (hpassed : PassedOn v p) :
    takePress v p = addReport ⟨.press, p, v.keymapAt p, .passed, v.keys.time⟩ (routed p .passed v (recorded p v)) := by
  obtain ⟨hcls, hon⟩ := hpassed
  have hnot : ¬ ((v.keymapAt p).cls.engine ∧ (recorded p v).params.routeSpell ∧ (recorded p v).attempt.state ≠ .idle) := by
    rintro ⟨hengine, hspell, hstate⟩
    obtain hpass | hroute | hidle := hon
    · rw [hpass] at hengine
      cases hengine
    · cases hroute.symm.trans hspell
    · exact hstate hidle
  rw [takePress_tracked hcorner hblock hroom, routePress, if_neg hcls]
  simp only [if_neg hnot]
  rw [markHeld_recorded .passed rfl hnew]
  rfl

theorem engine_of {k : KeyClass} (hnone : k ≠ .none) (hpass : k ≠ .pass) : k.engine = true := by
  cases k with
  | none => exact absurd rfl hnone
  | pass => exact absurd rfl hpass
  | letter | erase | submit | hint | repeatPrompt => rfl

/-- R85: the Attempt Controller handles the press, and its disposition is stored and reported. -/
theorem takePress_handled (hcorner : ¬ completesRectangle v p = true) (hblock : v.keys.ghostBlock = false)
    (hroom : v.keys.held.length < 4) (hnew : ∀ h ∈ v.keys.held, h.position ≠ p) (hnone : (v.keymapAt p).cls ≠ .none)
    (hpass : (v.keymapAt p).cls ≠ .pass) (hspell : v.params.routeSpell = true) (hstate : v.attempt.state ≠ .idle) :
    let r := handlePress (v.keymapAt p).cls (v.keymapAt p).letter (recorded p v)
    takePress v p = addReport ⟨.press, p, v.keymapAt p, r.2, v.keys.time⟩ (routed p r.2 v r.1) := by
  intro r
  have hkeys : r.1.keys = (recorded p v).keys := (handlePress_outside _ _ _).keys
  have hengine : (v.keymapAt p).cls.engine ∧ (recorded p v).params.routeSpell ∧ (recorded p v).attempt.state ≠ .idle :=
    ⟨engine_of hnone hpass, hspell, hstate⟩
  have htime : r.1.keys.time = v.keys.time := by rw [hkeys]; rfl
  rw [takePress_tracked hcorner hblock hroom, routePress, if_neg hnone]
  simp only [if_pos hengine]
  rw [← htime, ← markHeld_recorded r.2 hkeys hnew]
  rfl

/-! ### The report (R89) -/

theorem addReport_room {r : KeyReport} {l : List KeyReport} (hl : v.keys.reports = l) (h : l.length < 16) :
    addReport r v = { v with keys := { v.keys with reports := l ++ [r] } } := by
  subst hl
  exact if_pos h

theorem addReport_lost {r : KeyReport} (h : 16 ≤ v.keys.reports.length) :
    addReport r v = { v with port := { v.port with latches := { v.port.latches with keyLost := true } } } :=
  if_neg (Nat.not_lt.mpr h)

end Sys2Proof.KeyChanges
end

section
/-! SUPPORT. Scans with one change, with two, and with any number of them (R75 to R80, R85 to R89). -/

namespace Sys2Proof.KeyScans

open Sys2Proof.Machine Sys2Proof.KeyChanges

variable {v w t : Vks} {p q : Nat} {raw : Matrix}

/-! ### The part after one change (R77 to R80, R85) -/

theorem keyAt_of_untouched {x : Vks} (h : Untouched t x) (q : Nat) : t.keyAt q = x.keyAt q :=
  keyAt_of_positions (congrArg KeyUnit.positions h.keys :) q

/-- No record and no report is made, and the attempt, the identities and KEY_LOST stay. -/
def Silent (a b : Vks) : Prop :=
  a.keys.held = b.keys.held ∧ a.keys.reports = b.keys.reports ∧ a.attempt.ctx = b.attempt.ctx ∧ a.attempt.state = b.attempt.state
    ∧ a.sched.nextId = b.sched.nextId ∧ a.port.latches.keyLost = b.port.latches.keyLost

theorem silent_of_untouched {x : Vks} (h : Untouched t x) (hx : Silent x v) : Silent t v := by
  obtain ⟨hheld, hreports, hctx, hstate, hid, hlost⟩ := hx
  exact ⟨(congrArg KeyUnit.held h.keys :).trans hheld, (congrArg KeyUnit.reports h.keys :).trans hreports, h.ctx.trans hctx,
    h.state.trans hstate, h.nextId.trans hid, h.keyLost.trans hlost⟩

theorem keyAt_stood (st : Option Standing) (hp : p < w.keys.positions.length) :
    (setStanding p st (restartSleepTimer w)).keyAt p = ⟨st, 0⟩ := keyAt_setStanding_same st hp

/-- R77: a TRACKED press, whatever its class. -/
theorem trackedPress_standing (h : Untouched t (takePress w p)) (hp : p < w.keys.positions.length)
    (hcorner : ¬ completesRectangle w p = true) (hblock : w.keys.ghostBlock = false) (hroom : w.keys.held.length < 4) :
    (t.keyAt p).standing = some .tracked := by
  rw [takePress_tracked hcorner hblock hroom] at h
  have hroute := (routePress_frame p (w.keymapAt p) (recorded p w)).2
  have hstood : (recorded p w).keyAt p = ⟨some .tracked, 0⟩ := keyAt_stood _ hp
  rw [keyAt_of_untouched h, keyAt_of_positions hroute, hstood]

/-- R77, R85: a TRACKED press that goes to the host. -/
theorem passedPress_told (h : Untouched t (takePress w p)) (hcorner : ¬ completesRectangle w p = true)
    (hblock : w.keys.ghostBlock = false) (hroom : w.keys.held.length < 4) (hnew : ∀ k ∈ w.keys.held, k.position ≠ p)
    (hpassed : PassedOn w p) (hreports : w.keys.reports.length < 16) :
    t.keys.held = w.keys.held ++ [⟨p, w.keymapAt p, w.keys.time, .passed, true⟩]
    ∧ t.keys.reports = w.keys.reports ++ [⟨.press, p, w.keymapAt p, .passed, w.keys.time⟩]
    ∧ t.keys.ghostBlock = false ∧ t.attempt.state = w.attempt.state := by
  rw [takePress_passed hcorner hblock hroom hnew hpassed,
    addReport_room (l := w.keys.reports) (v := routed p .passed w (recorded p w)) rfl hreports] at h
  exact ⟨(congrArg KeyUnit.held h.keys :), (congrArg KeyUnit.reports h.keys :), (congrArg KeyUnit.ghostBlock h.keys :).trans hblock, h.state⟩

/-- R89: the report of a press is lost at 16 reports. -/
theorem passedPress_lost (h : Untouched t (takePress w p)) (hcorner : ¬ completesRectangle w p = true)
    (hblock : w.keys.ghostBlock = false) (hroom : w.keys.held.length < 4) (hnew : ∀ k ∈ w.keys.held, k.position ≠ p)
    (hpassed : PassedOn w p) (hreports : 16 ≤ w.keys.reports.length) :
    t.keys.held = w.keys.held ++ [⟨p, w.keymapAt p, w.keys.time, .passed, true⟩] ∧ t.keys.reports = w.keys.reports
    ∧ t.port.latches.keyLost = true ∧ t.attempt.ctx = w.attempt.ctx := by
  rw [takePress_passed hcorner hblock hroom hnew hpassed, addReport_lost (v := routed p .passed w (recorded p w)) hreports] at h
  exact ⟨(congrArg KeyUnit.held h.keys :), (congrArg KeyUnit.reports h.keys :), h.keyLost, h.ctx⟩

/-- R78, R79: the press that completes a rectangle starts the episode. -/
theorem ghostPress_told (h : Untouched t (takePress w p)) (hp : p < w.keys.positions.length)
    (hcorner : completesRectangle w p = true) (hblock : w.keys.ghostBlock = false) (hreports : w.keys.reports.length < 16) :
    (t.keyAt p).standing = some .suspect ∧ t.keys.ghostBlock = true ∧ t.keys.held = w.keys.held
    ∧ t.keys.reports = w.keys.reports ++ [⟨.ghost, p, w.keymapAt p, .none, w.keys.time⟩] := by
  have hstood : (setStanding p (some .suspect) (restartSleepTimer w)).keyAt p = ⟨some .suspect, 0⟩ := keyAt_stood _ hp
  rw [takePress_ghost hcorner hblock, addReport_room (l := w.keys.reports)
    (v := setGhostBlock true (setStanding p (some .suspect) (restartSleepTimer w))) rfl hreports] at h
  exact ⟨congrArg KeyPosition.standing ((keyAt_of_untouched h p).trans hstood), (congrArg KeyUnit.ghostBlock h.keys :),
    (congrArg KeyUnit.held h.keys :), (congrArg KeyUnit.reports h.keys :)⟩

/-- R79: a press in a ghost episode. -/
theorem episodePress (h : Untouched t (takePress w p)) (hp : p < w.keys.positions.length) (hblock : w.keys.ghostBlock = true) :
    t.keys.ghostBlock = true ∧ Silent t w
    ∧ (completesRectangle w p = true → (t.keyAt p).standing = some .suspect)
    ∧ (¬ completesRectangle w p = true → (t.keyAt p).standing = some .blocked) := by
  have hstood (st : Option Standing) := keyAt_stood st hp
  by_cases hcorner : completesRectangle w p = true
  · rw [takePress_suspect hcorner hblock] at h
    exact ⟨(congrArg KeyUnit.ghostBlock h.keys :).trans hblock, silent_of_untouched h ⟨rfl, rfl, rfl, rfl, rfl, rfl⟩,
      fun _ => congrArg KeyPosition.standing ((keyAt_of_untouched h p).trans (hstood _)), fun k => absurd hcorner k⟩
  · rw [takePress_blocked hcorner hblock] at h
    exact ⟨(congrArg KeyUnit.ghostBlock h.keys :).trans hblock, silent_of_untouched h ⟨rfl, rfl, rfl, rfl, rfl, rfl⟩,
      fun k => absurd k hcorner, fun _ => congrArg KeyPosition.standing ((keyAt_of_untouched h p).trans (hstood _))⟩

/-- R77: a press at a full table. -/
theorem untrackedPress (h : Untouched t (takePress w p)) (hp : p < w.keys.positions.length)
    (hcorner : ¬ completesRectangle w p = true) (hblock : w.keys.ghostBlock = false) (hfull : 4 ≤ w.keys.held.length) :
    (t.keyAt p).standing = some .untracked ∧ Silent t w ∧ t.keys.ghostBlock = false := by
  rw [takePress_untracked hcorner hblock hfull] at h
  exact ⟨congrArg KeyPosition.standing ((keyAt_of_untouched h p).trans (keyAt_stood _ hp)),
    silent_of_untouched h ⟨rfl, rfl, rfl, rfl, rfl, rfl⟩, (congrArg KeyUnit.ghostBlock h.keys :).trans hblock⟩

/-- R80: a release that is reported. -/
theorem reportedRelease_told {h : HeldKey} (ht : Untouched t (takeRelease w p)) (hst : (w.keyAt p).standing = some .tracked)
    (hfind : w.keys.held.find? (fun k => k.position = p) = some h) (hrep : h.reported = true) (hreports : w.keys.reports.length < 16) :
    t.keys.held = w.keys.held.filter (fun k => k.position ≠ p)
    ∧ t.keys.reports = w.keys.reports ++ [⟨.release, p, h.entry, h.disposition, w.keys.time⟩]
    ∧ t.keys.ghostBlock = w.keys.ghostBlock ∧ t.attempt.state = w.attempt.state := by
  rw [takeRelease_reported hst hfind hrep, addReport_room (v := freed p w) (l := w.keys.reports) rfl hreports] at ht
  exact ⟨(congrArg KeyUnit.held ht.keys :), (congrArg KeyUnit.reports ht.keys :), (congrArg KeyUnit.ghostBlock ht.keys :), ht.state⟩

/-- R80: the release of a tracked key frees its record, reported or not, and with its report lost. -/
theorem trackedRelease_frees {h : HeldKey} (ht : Untouched t (takeRelease w p)) (hst : (w.keyAt p).standing = some .tracked)
    (hfind : w.keys.held.find? (fun k => k.position = p) = some h) :
    t.keys.held = w.keys.held.filter (fun k => k.position ≠ p)
    ∧ (h.reported = false → t.keys.reports = w.keys.reports)
    ∧ (h.reported = true → 16 ≤ w.keys.reports.length → t.keys.reports = w.keys.reports ∧ t.port.latches.keyLost = true) := by
  cases hrep : h.reported with
  | false =>
    rw [takeRelease_unreported hst hfind hrep] at ht
    exact ⟨(congrArg KeyUnit.held ht.keys :), fun _ => (congrArg KeyUnit.reports ht.keys :), nofun⟩
  | true =>
    obtain hroom | hfull := Nat.lt_or_ge w.keys.reports.length 16
    · exact ⟨(reportedRelease_told ht hst hfind hrep hroom).1, nofun, fun _ h16 => absurd hroom (Nat.not_lt.mpr h16)⟩
    · rw [takeRelease_reported hst hfind hrep, addReport_lost (v := freed p w) hfull] at ht
      exact ⟨(congrArg KeyUnit.held ht.keys :), nofun, fun _ _ => ⟨(congrArg KeyUnit.reports ht.keys :), ht.keyLost⟩⟩

/-- R80: the release of a SUSPECT key ends the episode with the last of them. -/
theorem suspectRelease (ht : Untouched t (takeRelease w p)) (hsize : w.keys.positions.length = 80) (hp : p < 80)
    (hst : (w.keyAt p).standing = some .suspect) :
    Silent t w ∧ ((∀ q, q < 80 → q ≠ p → (w.keyAt q).standing ≠ some .suspect) → t.keys.ghostBlock = false)
    ∧ (∀ q, q < 80 → q ≠ p → (w.keyAt q).standing = some .suspect → t.keys.ghostBlock = w.keys.ghostBlock) := by
  rw [takeRelease_suspect hst] at ht
  have hleft := lifted_anySuspect hsize hp
  by_cases hany : (lifted p w).anySuspect = true
  · rw [if_pos hany] at ht
    obtain ⟨x, hx, hne, hsuspect⟩ := hleft.mp hany
    exact ⟨silent_of_untouched ht ⟨rfl, rfl, rfl, rfl, rfl, rfl⟩, fun hnone => absurd hsuspect (hnone x hx hne),
      fun _ _ _ _ => (congrArg KeyUnit.ghostBlock ht.keys :)⟩
  · rw [if_neg hany] at ht
    exact ⟨silent_of_untouched ht ⟨rfl, rfl, rfl, rfl, rfl, rfl⟩, fun _ => (congrArg KeyUnit.ghostBlock ht.keys :),
      fun x hx hne hsuspect => absurd (hleft.mpr ⟨x, hx, hne, hsuspect⟩) hany⟩

/-! ### One change in a scan -/

/-- The scan completes no change but one at `p`. -/
def Lone (raw : Matrix) (v : Vks) (p : Nat) : Prop :=
  p < 80 ∧ v.params.debounce ≤ (v.keyAt p).count + 1 ∧ ∀ q, q < 80 → q ≠ p → raw.getLsbD q = (v.keyAt q).standing.isSome

theorem Lone.eq (h : Lone raw v p) (hq : DueAt raw v q) : q = p :=
  Classical.byContradiction fun hne => hq.2.1 (h.2.2 q hq.1 hne)

theorem lonePress_untouched (hawake : v.power.asleep = false) (h : Lone raw v p) (hpress : raw.getLsbD p = true)
    (hup : (v.keyAt p).standing = none) : Untouched (keyScan raw v) (takePress (debounced raw v) p) := by
  have hdue : DueAt raw v p := ⟨h.1, by rw [hpress, hup]; decide, h.2.1⟩
  have hpressed : changedAt (passTime 1 v) raw .pressed = [p] := changedAt_eq (List.pairwise_singleton _ _) fun x => by
    rw [mem_changedAt_iff_due.1, List.mem_singleton]
    exact ⟨fun k => h.eq k.1, fun k => k ▸ ⟨hdue, hpress⟩⟩
  have hreleased : changedAt (passTime 1 v) raw .released = [] := changedAt_eq .nil fun x => by
    rw [mem_changedAt_iff_due.2]
    exact iff_of_false (fun k => by cases (h.eq k.1 ▸ k.2).symm.trans hpress) List.not_mem_nil
  rw [keyScan_awake raw hawake, hpressed, hreleased]
  exact (settle_untouched _).trans (settle_untouched _)

theorem loneRelease_untouched (hawake : v.power.asleep = false) (h : Lone raw v p) (hrelease : raw.getLsbD p = false)
    (hdown : (v.keyAt p).standing ≠ none) : Untouched (keyScan raw v) (takeRelease (debounced raw v) p) := by
  have hdue : DueAt raw v p := ⟨h.1, by rw [hrelease, Option.isSome_iff_ne_none.mpr hdown]; decide, h.2.1⟩
  have hreleased : changedAt (passTime 1 v) raw .released = [p] := changedAt_eq (List.pairwise_singleton _ _) fun x => by
    rw [mem_changedAt_iff_due.2, List.mem_singleton]
    exact ⟨fun k => h.eq k.1, fun k => k ▸ ⟨hdue, hrelease⟩⟩
  have hpressed : changedAt (passTime 1 v) raw .pressed = [] := changedAt_eq .nil fun x => by
    rw [mem_changedAt_iff_due.1]
    exact iff_of_false (fun k => by cases (h.eq k.1 ▸ k.2).symm.trans hrelease) List.not_mem_nil
  rw [keyScan_awake raw hawake, hpressed, hreleased]
  exact (settle_untouched _).trans (settle_untouched _)

/-- A position is held for the ghost check (R78). -/
def Down (v : Vks) (q : Nat) : Prop := (v.keyAt q).standing ≠ none ∧ (v.keyAt q).standing ≠ some .suspect

theorem debounced_rectangle (hsize : v.keys.positions.length = 80) :
    completesRectangle (debounced raw v) p = true ↔ Corner (Down v) p :=
  completesRectangle_iff fun q => by rw [ghostHeld_iff, debounced_standing hsize, Down]

/-! ### Two changes in a scan -/

/-- The scan completes no changes but those at `p` and `q`. -/
def Pair (raw : Matrix) (v : Vks) (p q : Nat) : Prop :=
  p < 80 ∧ q < 80 ∧ v.params.debounce ≤ (v.keyAt p).count + 1 ∧ v.params.debounce ≤ (v.keyAt q).count + 1
    ∧ ∀ x, x < 80 → x ≠ p → x ≠ q → raw.getLsbD x = (v.keyAt x).standing.isSome

theorem Pair.or (h : Pair raw v p q) {x : Nat} (hx : DueAt raw v x) : x = p ∨ x = q := by
  obtain ⟨-, -, -, -, hrest⟩ := h
  exact Classical.byContradiction fun hne => hx.2.1 (hrest x hx.1 (fun k => hne (.inl k)) fun k => hne (.inr k))

theorem releaseThenPress_untouched (hawake : v.power.asleep = false) (h : Pair raw v p q) (hrelease : raw.getLsbD p = false)
    (hpress : raw.getLsbD q = true) (hdown : (v.keyAt p).standing ≠ none) (hup : (v.keyAt q).standing = none) :
    Untouched (keyScan raw v) (takePress (settle (takeRelease (debounced raw v) p)) q) := by
  have hdueP : DueAt raw v p := ⟨h.1, by rw [hrelease, Option.isSome_iff_ne_none.mpr hdown]; decide, h.2.2.1⟩
  have hdueQ : DueAt raw v q := ⟨h.2.1, by rw [hpress, hup]; decide, h.2.2.2.1⟩
  have hpressed : changedAt (passTime 1 v) raw .pressed = [q] := changedAt_eq (List.pairwise_singleton _ _) fun x => by
    rw [mem_changedAt_iff_due.1, List.mem_singleton]
    exact ⟨fun k => (h.or k.1).resolve_left fun hx => (by cases (hx ▸ k.2).symm.trans hrelease), fun k => k ▸ ⟨hdueQ, hpress⟩⟩
  have hreleased : changedAt (passTime 1 v) raw .released = [p] := changedAt_eq (List.pairwise_singleton _ _) fun x => by
    rw [mem_changedAt_iff_due.2, List.mem_singleton]
    exact ⟨fun k => (h.or k.1).resolve_right fun hx => (by cases (hx ▸ k.2).symm.trans hpress), fun k => k ▸ ⟨hdueP, hrelease⟩⟩
  rw [keyScan_awake raw hawake, hpressed, hreleased]
  exact (settle_untouched _).trans (settle_untouched _)

theorem twoPresses_untouched (hawake : v.power.asleep = false) (h : Pair raw v p q) (hlt : p < q) (hpressP : raw.getLsbD p = true)
    (hpressQ : raw.getLsbD q = true) (hupP : (v.keyAt p).standing = none) (hupQ : (v.keyAt q).standing = none) :
    Untouched (keyScan raw v) (takePress (settle (takePress (debounced raw v) p)) q) := by
  have hdueP : DueAt raw v p := ⟨h.1, by rw [hpressP, hupP]; decide, h.2.2.1⟩
  have hdueQ : DueAt raw v q := ⟨h.2.1, by rw [hpressQ, hupQ]; decide, h.2.2.2.1⟩
  have hpressed : changedAt (passTime 1 v) raw .pressed = [p, q] := changedAt_eq (List.pairwise_pair.mpr hlt) fun x => by
    rw [mem_changedAt_iff_due.1, List.mem_pair]
    exact ⟨fun k => h.or k.1, fun k => k.elim (fun k => k ▸ ⟨hdueP, hpressP⟩) fun k => k ▸ ⟨hdueQ, hpressQ⟩⟩
  have hreleased : changedAt (passTime 1 v) raw .released = [] := changedAt_eq .nil fun x => by
    rw [mem_changedAt_iff_due.2]
    refine iff_of_false (fun k => ?_) List.not_mem_nil
    obtain rfl | rfl := h.or k.1
    · cases k.2.symm.trans hpressP
    · cases k.2.symm.trans hpressQ
  rw [keyScan_awake raw hawake, hpressed, hreleased]
  exact (settle_untouched _).trans (settle_untouched _)

/-- R76, R80: a freed record serves a press of the same scan. -/
theorem releaseThenPress_told {h : HeldKey} (hawake : v.power.asleep = false) (hsize : v.keys.positions.length = 80)
    (hfind : v.keys.held.find? (fun k => k.position = p) = some h) (hpair : Pair raw v p q) (hrelease : raw.getLsbD p = false)
    (hpress : raw.getLsbD q = true) (hst : (v.keyAt p).standing = some .tracked) (hup : (v.keyAt q).standing = none)
    (hrep : h.reported = true) (hblock : v.keys.ghostBlock = false) (hheld : v.keys.held.length ≤ 4)
    (hreports : v.keys.reports.length < 15) (hnew : ∀ k ∈ v.keys.held, k.position ≠ q)
    (hcorner : ¬ Corner (fun x => x ≠ p ∧ Down v x) q) (hpassed : PassedOn v q) :
    (keyScan raw v).keys.held
        = v.keys.held.filter (fun k => k.position ≠ p) ++ [⟨q, v.keymapAt q, v.keys.time + 1#16, .passed, true⟩]
    ∧ (keyScan raw v).keys.reports = v.keys.reports ++ [⟨.release, p, h.entry, h.disposition, v.keys.time + 1#16⟩,
        ⟨.press, q, v.keymapAt q, .passed, v.keys.time + 1#16⟩] := by
  have ht := releaseThenPress_untouched hawake hpair hrelease hpress (by rw [hst]; nofun) hup
  have hst' : ((debounced raw v).keyAt p).standing = some .tracked := (debounced_standing hsize).trans hst
  have hchanges := (takeRelease_changes (debounced raw v) p).settled
  obtain ⟨hheldW, hreportsW, hblockW, hstateW⟩ := reportedRelease_told (settle_untouched (takeRelease (debounced raw v) p)) hst'
    (h := h) hfind hrep (Nat.lt_succ_of_lt hreports)
  generalize settle (takeRelease (debounced raw v) p) = w at *
  have hpos := hchanges.here p List.mem_cons_self (debounced_size ▸ hpair.1)
  have hdownW : ∀ x, w.ghostHeld x = true ↔ x ≠ p ∧ Down v x := fun x => by
    rw [ghostHeld_iff]
    by_cases hx : x = p
    · subst hx
      exact iff_of_false (fun k => k.1 (Option.isNone_iff_eq_none.mp (Option.isSome_eq_false_iff.mp hpos.2))) fun k => k.1 rfl
    · rw [hchanges.others x (fun k => hx (List.mem_singleton.mp k)), debounced_standing hsize, Down]
      exact (and_iff_right hx).symm
  have hentry : w.keymapAt q = v.keymapAt q := by
    rw [Vks.keymapAt, hchanges.frame.keymap]
    rfl
  have htime : w.keys.time = v.keys.time + 1#16 := hchanges.frame.time
  have hpassedW : PassedOn w q := by
    rw [PassedOn, hentry, hchanges.frame.params, hstateW]
    exact hpassed
  have hfree : w.keys.held.length < 4 := by
    rw [hheldW]
    refine (List.length_filter_lt_length_iff_exists.mpr ⟨h, List.mem_of_find?_eq_some hfind, ?_⟩).trans_le hheld
    simpa using List.find?_some hfind
  have hreportsFit : w.keys.reports.length < 16 := by
    rw [hreportsW, List.length_append]
    exact Nat.succ_lt_succ hreports
  obtain ⟨hheldT, hreportsT, -, -⟩ := passedPress_told ht (fun k => hcorner ((completesRectangle_iff hdownW).mp k))
    (hblockW.trans hblock) hfree (fun k hk => hnew k (List.mem_of_mem_filter (hheldW ▸ hk))) hpassedW hreportsFit
  rw [hentry, htime] at hheldT hreportsT
  refine ⟨hheldT.trans (by rw [hheldW]; rfl), hreportsT.trans ?_⟩
  rw [hreportsW, List.append_assoc]
  rfl

/-- R76, R78: a press taken earlier in the scan counts for the ghost check of a later one. -/
theorem twoPresses_told (hawake : v.power.asleep = false) (hsize : v.keys.positions.length = 80) (hpair : Pair raw v p q) (hlt : p < q)
    (hpressP : raw.getLsbD p = true) (hpressQ : raw.getLsbD q = true) (hupP : (v.keyAt p).standing = none)
    (hupQ : (v.keyAt q).standing = none) (hblock : v.keys.ghostBlock = false) (hheld : v.keys.held.length < 3)
    (hreports : v.keys.reports.length < 15) (hnew : ∀ k ∈ v.keys.held, k.position ≠ p ∧ k.position ≠ q)
    (hcornerP : ¬ Corner (Down v) p) (hpassedP : PassedOn v p) (hpassedQ : PassedOn v q) :
    (¬ Corner (fun x => x = p ∨ Down v x) q →
      (keyScan raw v).keys.held = v.keys.held
        ++ [⟨p, v.keymapAt p, v.keys.time + 1#16, .passed, true⟩, ⟨q, v.keymapAt q, v.keys.time + 1#16, .passed, true⟩]
      ∧ (keyScan raw v).keys.reports = v.keys.reports
        ++ [⟨.press, p, v.keymapAt p, .passed, v.keys.time + 1#16⟩, ⟨.press, q, v.keymapAt q, .passed, v.keys.time + 1#16⟩])
    ∧ (Corner (fun x => x = p ∨ Down v x) q →
      (keyScan raw v).keys.held = v.keys.held ++ [⟨p, v.keymapAt p, v.keys.time + 1#16, .passed, true⟩]
      ∧ (keyScan raw v).keys.ghostBlock = true ∧ ((keyScan raw v).keyAt q).standing = some .suspect
      ∧ (keyScan raw v).keys.reports = v.keys.reports
        ++ [⟨.press, p, v.keymapAt p, .passed, v.keys.time + 1#16⟩, ⟨.ghost, q, v.keymapAt q, .none, v.keys.time + 1#16⟩]) := by
  have ht := twoPresses_untouched hawake hpair hlt hpressP hpressQ hupP hupQ
  have hfirst := settle_untouched (takePress (debounced raw v) p)
  have hchanges := (takePress_changes (debounced raw v) p).settled
  have hcornerU : ¬ completesRectangle (debounced raw v) p = true := fun k => hcornerP ((debounced_rectangle hsize).mp k)
  have hroomU : (debounced raw v).keys.held.length < 4 := Nat.lt_succ_of_lt hheld
  obtain ⟨hheldW, hreportsW, hblockW, hstateW⟩ := passedPress_told hfirst hcornerU hblock hroomU (fun k hk => (hnew k hk).1)
    hpassedP (Nat.lt_succ_of_lt hreports)
  have hstood := trackedPress_standing hfirst (debounced_size ▸ hpair.1) hcornerU hblock hroomU
  generalize settle (takePress (debounced raw v) p) = w at *
  have hdownW : ∀ x, w.ghostHeld x = true ↔ x = p ∨ Down v x := fun x => by
    rw [ghostHeld_iff]
    by_cases hx : x = p
    · subst hx
      rw [hstood]
      exact iff_of_true ⟨nofun, nofun⟩ (.inl rfl)
    · rw [hchanges.others x (fun k => hx (List.mem_singleton.mp k)), debounced_standing hsize, Down]
      exact (or_iff_right hx).symm
  have hentry : w.keymapAt q = v.keymapAt q := by
    rw [Vks.keymapAt, hchanges.frame.keymap]
    rfl
  have htime : w.keys.time = v.keys.time + 1#16 := hchanges.frame.time
  have hpassedW : PassedOn w q := by
    rw [PassedOn, hentry, hchanges.frame.params, hstateW]
    exact hpassedQ
  have hfree : w.keys.held.length < 4 := by
    rw [hheldW, List.length_append]
    exact Nat.succ_lt_succ hheld
  have hreportsFit : w.keys.reports.length < 16 := by
    rw [hreportsW, List.length_append]
    exact Nat.succ_lt_succ hreports
  have hnewW : ∀ k ∈ w.keys.held, k.position ≠ q := by
    rw [hheldW]
    exact List.forall_mem_append.mpr ⟨fun k hk => (hnew k hk).2, List.forall_mem_singleton.mpr hlt.ne⟩
  refine ⟨fun hnot => ?apart, fun hcorner => ?rectangle⟩
  case apart =>
    obtain ⟨hheldT, hreportsT, -, -⟩ := passedPress_told ht (fun k => hnot ((completesRectangle_iff hdownW).mp k)) hblockW hfree hnewW
      hpassedW hreportsFit
    rw [hentry, htime] at hheldT hreportsT
    refine ⟨hheldT.trans ?_, hreportsT.trans ?_⟩
    · rw [hheldW, List.append_assoc]
      rfl
    · rw [hreportsW, List.append_assoc]
      rfl
  case rectangle =>
    obtain ⟨hst, hblockT, hheldT, hreportsT⟩ := ghostPress_told ht (by rw [hchanges.size, debounced_size]; exact hpair.2.1)
      ((completesRectangle_iff hdownW).mpr hcorner) hblockW hreportsFit
    rw [hentry, htime] at hreportsT
    refine ⟨hheldT.trans hheldW, hblockT, hst, hreportsT.trans ?_⟩
    rw [hreportsW, List.append_assoc]
    rfl

/-! ### A press the Attempt Controller handles (R85) -/

/-- What stands before the press is handled is the part the scan found, but for its keys and timers. -/
structure FoundBy (found v : Vks) : Prop where
  words : found.words = v.words
  state : found.attempt.state = v.attempt.state
  ctx : found.attempt.ctx = v.attempt.ctx
  shelf : found.attempt.shelf = v.attempt.shelf
  entries : found.lesson.entries = v.lesson.entries
  auto : found.lesson.auto = v.lesson.auto
  records : found.lesson.records = v.lesson.records
  review : found.lesson.review = v.lesson.review
  sched : found.sched = v.sched
  reader : found.reader = v.reader
  mixer : found.mixer = v.mixer
  params : found.params = v.params
  port : found.port = v.port
  queue : found.notices.queue = v.notices.queue
  amp : found.power.amp = v.power.amp

theorem recorded_debounced_found (raw : Matrix) (v : Vks) (p : Nat) : FoundBy (recorded p (debounced raw v)) v := by
  constructor <;> rfl

/-- R85: the disposition the Attempt Controller gives is stored and reported, and its work stays. -/
theorem handledPress_told (h : Untouched t (takePress w p)) (hcorner : ¬ completesRectangle w p = true)
    (hblock : w.keys.ghostBlock = false) (hroom : w.keys.held.length < 4) (hnew : ∀ k ∈ w.keys.held, k.position ≠ p)
    (hnone : (w.keymapAt p).cls ≠ .none) (hpass : (w.keymapAt p).cls ≠ .pass) (hspell : w.params.routeSpell = true)
    (hstate : w.attempt.state ≠ .idle) (hreports : w.keys.reports.length < 16) :
    let r := handlePress (w.keymapAt p).cls (w.keymapAt p).letter (recorded p w)
    t.keys.held = w.keys.held ++ [⟨p, w.keymapAt p, w.keys.time, r.2, true⟩]
    ∧ t.keys.reports = w.keys.reports ++ [⟨.press, p, w.keymapAt p, r.2, w.keys.time⟩]
    ∧ Untouched t { r.1 with keys := t.keys } := by
  intro r
  have hkept : r.1.keys = (recorded p w).keys := (handlePress_outside _ _ _).keys
  have heq := takePress_handled hcorner hblock hroom hnew hnone hpass hspell hstate
  rw [heq, addReport_room (l := w.keys.reports) (v := routed p r.2 w r.1) (congrArg KeyUnit.reports hkept :) hreports] at h
  refine ⟨(congrArg KeyUnit.held h.keys :), (congrArg KeyUnit.reports h.keys :), ?_⟩
  rw [h.keys]
  exact h

end Sys2Proof.KeyScans
end

section
/-! SUPPORT. A key scan debounces, tracks, hands over and reports (R75 to R89). -/

namespace Sys2Proof.KeyScans

open Sys2Proof.Machine Sys2Proof.KeyChanges

variable {v : Vks} {p : Nat} {raw : Matrix}

/-- R75: every position after a scan, by its raw state and its count. -/
theorem keyScan_debounces (hawake : v.power.asleep = false) (hp : p < 80) :
    (raw.getLsbD p = (v.keyAt p).standing.isSome → (keyScan raw v).keyAt p = { v.keyAt p with count := 0 })
    ∧ (raw.getLsbD p ≠ (v.keyAt p).standing.isSome →
        ((v.keyAt p).count + 1 < v.params.debounce → (keyScan raw v).keyAt p = { v.keyAt p with count := (v.keyAt p).count + 1 })
        ∧ (v.params.debounce ≤ (v.keyAt p).count + 1 →
          ((keyScan raw v).keyAt p).count = 0 ∧ ((keyScan raw v).keyAt p).standing.isSome = raw.getLsbD p)) := by
  obtain ⟨hkept, hchanged⟩ := keyScan_position (raw := raw) hawake hp
  refine ⟨fun hsame => ?_, fun hother => ⟨fun hearly => ?_, fun hdue => hchanged ⟨hp, hother, hdue⟩⟩⟩
  · rw [hkept fun k => k.2.1 hsame, debounceKey_agrees hsame]
  · rw [hkept fun k => Nat.not_le.mpr hearly k.2.2, debounceKey_counts hother hearly]

/-- A position whose change is due, or that agrees, stands as the raw state says. -/
theorem keyScan_standing (hawake : v.power.asleep = false) (hp : p < 80) (hdue : v.params.debounce ≤ (v.keyAt p).count + 1) :
    ((keyScan raw v).keyAt p).standing.isSome = raw.getLsbD p := by
  obtain ⟨hsame, hother⟩ := keyScan_debounces (raw := raw) hawake hp
  by_cases h : raw.getLsbD p = (v.keyAt p).standing.isSome
  · rw [hsame h]
    exact h.symm
  · exact ((hother h).2 hdue).2

/-- Settles O49: the debounce of every position, and what lone and paired presses and releases track, report and start. -/
theorem keyScanDebouncesAndReports : Obligations.KeyScanDebouncesAndReports := by
  unfold Obligations.KeyScanDebouncesAndReports
  refine ⟨fun s raw hawake htables => ?scan, fun s raw hawake htables => ?changes⟩
  case scan =>
    intro now only down corner
    have hframe := keyScan_frame raw hawake
    have hsize := htables.positions
    refine ⟨withPart s (keyScan raw s.vks), rfl, rfl, rfl, hframe.time, hframe.keymap, hframe.words, hframe.params, hframe.samples,
      fun p hp => keyScan_debounces hawake hp, fun p hlone hraw hup hblock hroom => ?press,
      fun p h hlone hraw hst hfind hrep hroom => ?release⟩
    case press =>
      have ht := lonePress_untouched hawake hlone hraw hup
      have hrect := debounced_rectangle (raw := raw) (p := p) hsize
      refine ⟨fun hnot hheld hnew hcls hon => ?_, fun hcorner =>
        ghostPress_told ht (debounced_size ▸ hlone.1) (hrect.mpr hcorner) hblock hroom⟩
      have hnotRect : ¬ completesRectangle (debounced raw s.vks) p = true := fun k => hnot (hrect.mp k)
      obtain ⟨hheldT, hreportsT, -, -⟩ := passedPress_told ht hnotRect hblock hheld hnew ⟨hcls, hon⟩ hroom
      exact ⟨trackedPress_standing ht (debounced_size ▸ hlone.1) hnotRect hblock hheld, hheldT, hreportsT⟩
    case release =>
      have ht := loneRelease_untouched hawake hlone hraw (by rw [hst]; nofun)
      obtain ⟨hheldT, hreportsT, -, -⟩ := reportedRelease_told ht ((debounced_standing hsize).trans hst) hfind hrep hroom
      exact ⟨hheldT, hreportsT⟩
  case changes =>
    intro now entry standing due only both down corner passed held reports
    have hsize := htables.positions
    refine ⟨withPart s (keyScan raw s.vks), rfl, rfl, rfl, fun p hlone hraw hup => ?press, fun p hlone hraw => ?release,
      fun p q h hfind hpair hrelease hpress hst hup hrep hblock hheld hreports hnew hcorner hpassed =>
        releaseThenPress_told hawake hsize hfind hpair hrelease hpress hst hup hrep hblock hheld hreports hnew hcorner hpassed,
      fun p q hpair hlt hpressP hpressQ hupP hupQ hblock hheld hreports hnew hcornerP hpassedP hpassedQ =>
        twoPresses_told hawake hsize hpair hlt hpressP hpressQ hupP hupQ hblock hheld hreports hnew hcornerP hpassedP hpassedQ⟩
    case press =>
      have ht := lonePress_untouched hawake hlone hraw hup
      have hin : p < (debounced raw s.vks).keys.positions.length := debounced_size ▸ hlone.1
      have hrect := debounced_rectangle (raw := raw) (p := p) hsize
      refine ⟨fun hblock hnot => ?free, fun hblock => ?episode⟩
      case free =>
        have hnotRect : ¬ completesRectangle (debounced raw s.vks) p = true := fun k => hnot (hrect.mp k)
        refine ⟨fun hfull => untrackedPress (w := debounced raw s.vks) ht hin hnotRect hblock hfull, fun hroom hnew =>
          ⟨trackedPress_standing ht hin hnotRect hblock hroom, fun hcls => ?unreported,
            fun hpassed hfull => passedPress_lost (w := debounced raw s.vks) ht hnotRect hblock hroom hnew hpassed hfull,
            fun hcls hpass hspell hstate hreports => ?handled⟩⟩
        case unreported =>
          rw [takePress_classNone hnotRect hblock hroom hcls] at ht
          exact ⟨(congrArg KeyUnit.held ht.keys :), (congrArg KeyUnit.reports ht.keys :), ht.ctx⟩
        case handled =>
          have hfound := recorded_debounced_found raw s.vks p
          exact ⟨recorded p (debounced raw s.vks), ⟨hfound.words, hfound.state, hfound.ctx, hfound.shelf, hfound.entries, hfound.auto,
              hfound.records, hfound.review, hfound.sched, hfound.reader, hfound.mixer, hfound.params, hfound.port, hfound.queue,
              hfound.amp⟩,
            handledPress_told (w := debounced raw s.vks) ht hnotRect hblock hroom hnew hcls hpass hspell hstate hreports⟩
      case episode =>
        obtain ⟨hblockT, hsilent, hsuspect, hblocked⟩ := episodePress ht hin hblock
        exact ⟨hblockT, hsilent, fun hcorner => hsuspect (hrect.mpr hcorner), fun hnot => hblocked fun k => hnot (hrect.mp k)⟩
    case release =>
      have hsame : ((debounced raw s.vks).keyAt p).standing = (s.vks.keyAt p).standing := debounced_standing hsize
      have ht (h : standing p ≠ none) := loneRelease_untouched hawake hlone hraw h
      refine ⟨Option.isNone_iff_eq_none.mp (Option.isSome_eq_false_iff.mp ((keyScan_standing hawake hlone.1 hlone.2.1).trans hraw)),
        fun hst => ?quiet, fun hst => ?suspect, fun h hfind hst =>
          trackedRelease_frees (w := debounced raw s.vks) (ht (by rw [hst]; nofun)) (hsame.trans hst) hfind⟩
      case quiet =>
        have hdown : standing p ≠ none := by
          obtain h | h | h := hst
          all_goals rw [h]; nofun
        have htaken := ht hdown
        rw [takeRelease_silent (hsame ▸ hst)] at htaken
        exact ⟨silent_of_untouched htaken ⟨rfl, rfl, rfl, rfl, rfl, rfl⟩, (congrArg KeyUnit.ghostBlock htaken.keys :)⟩
      case suspect =>
        obtain ⟨hsilent, hlast, hmore⟩ := suspectRelease (ht (by rw [hst]; nofun)) debounced_size hlone.1 (hsame.trans hst)
        refine ⟨hsilent, fun hnone => hlast fun q hq hne => ?_, fun q hq hne hq' => hmore q hq hne ((debounced_standing hsize).trans hq')⟩
        rw [debounced_standing hsize]
        exact hnone q hq hne

end Sys2Proof.KeyScans
end
